-- ==== Sys2Proof/Word.lean ====
section
/-!
DEFINITION. The plain words of the LT-10: bytes, lanes, walls, line levels and converter readings.
Master time, race times and counts are numbers (the manual adds and compares them and saturates them
at a stated limit, it never wraps them), so they are `Nat` or, where the manual calls them signed, `Int`.
-/

namespace Sys2Proof

/-- One byte of the console line or of the board line (R172, R185), and one character of a text. -/
abbrev Byte := BitVec 8

/-- A lane number, 0 to 9 (scope file, "Pool layout conventions"). -/
abbrev Lane := Fin 10

/-- A backup button of a lane: 0, 1, 2 stand for B1, B2, B3. -/
abbrev Button := Fin 3

/-- A converter reading, 0 to 1023 (R113). -/
abbrev Reading := Fin 1024

/-- A pad in pad order: lane 0 wall A, lane 0 wall B, lane 1 wall A, and so on to lane 9 wall B. -/
abbrev PadIx := Fin 20

/-- A backup button line: lane 0 B1 to lane 9 B3. -/
abbrev ButtonIx := Fin 30

/-- A row of the scoreboard, 0 to 11, row 0 at the top (section 9.1). -/
abbrev RowIx := Fin 12

/-- The two ends of the pool: wall A has the platforms and the buttons, wall B is the far end. -/
inductive Wall where
  | a
  | b
  deriving DecidableEq, Repr

/-- The level of a contact line: open at rest, closed when pressed or given (R12, section 4.1). -/
inductive Level where
  | opened
  | closed
  deriving DecidableEq, Repr

/-- A text: its characters, first to last. -/
abbrev Text := List Byte

end Sys2Proof
end

