-- ==== Sys2Proof/Syntax.lean ====
section
/-!
DEFINITION. The commands of the LT-10: one constructor for each row of spec/opcode_table.json.

The table gives its rows no operands, so they are read from the rules. A command that comes from
outside carries what the part receives with it: a level, a reading, bytes. Its time operand is in
ticks of the counting clock since the last reset, which is master time below the limit (R1):

* `stamp` is the timestamp an edge carries (R12); handling it may come later, never earlier;
* `moment` is the moment a command without a timestamp comes; a moment already past means "now".

A command for an event whose moment the state fixes (a window's closes-at, a settling end) carries no
time: it happens at that moment (log entry 2).
-/

namespace Sys2Proof

/-- The commands and events of the part. -/
inductive Instr where
  /-- POWER_UP (R187): power is applied. -/
  | powerUp
  /-- RESET_PIN (R187): the RESET pin is asserted. -/
  | resetPin
  /-- STANDBY_LATCH_SET (R187): the standby supply falls below the level that holds the archive memory. -/
  | standbyLatchSet
  /-- START_UP (R188): the level of the mode strap, and whether the archive memory still holds what was
  written to it. -/
  | startUp (strapHigh memoryHeld : Bool)
  /-- RESTART_RESET (R177): the last byte of the RESTART reply leaves the line. -/
  | restartReset
  /-- MASTER_TIME_LIMIT (R8). -/
  | masterTimeLimit
  /-- ACQUIRING_INTERVAL_END (R4). -/
  | acquiringIntervalEnd
  /-- REFERENCE_WINDOW_END (R3): the reference cycles counted in the tick that ends. -/
  | referenceWindowEnd (cycles : Nat)
  /-- REFERENCE_ACQUIRED (R4). -/
  | referenceAcquired
  /-- REFERENCE_RESTORED (R6). -/
  | referenceRestored
  /-- TENTH_BOUNDARY (R13): the first one not before `moment`. -/
  | tenthBoundary (moment : Nat)
  /-- RACE_TIME_LIMIT (R48). -/
  | raceTimeLimit
  /-- SET_LINE_EDGE (R39). -/
  | setLineEdge (level : Level) (stamp : Nat)
  /-- START_LINE_EDGE (R40). -/
  | startLineEdge (level : Level) (stamp : Nat)
  /-- RECALL_LINE_EDGE (R43). -/
  | recallLineEdge (level : Level) (stamp : Nat)
  /-- PAD_EDGE (R54). -/
  | padEdge (lane : Lane) (wall : Wall) (level : Level) (stamp : Nat)
  /-- PAD_QUALIFY_TIME (R58). -/
  | padQualifyTime (lane : Lane) (wall : Wall)
  /-- BUTTON_EDGE (R64). -/
  | buttonEdge (lane : Lane) (button : Button) (level : Level) (stamp : Nat)
  /-- FINISH_WINDOW_CLOSE (R88). -/
  | finishWindowClose (lane : Lane)
  /-- SCANNER_SETTLING_END (R114): the readings of the zero and the full-scale reference. -/
  | scannerSettlingEnd (zero full : Reading)
  /-- CHANNEL_SAMPLE (R117): the channel's first conversion not before `moment`. -/
  | channelSample (lane : Lane) (reading : Reading) (moment : Nat)
  /-- PROBE_SWEEP_COMPLETE (R134): the readings of the sweep's conversions that are still to come. -/
  | probeSweepComplete (readings : Vector Reading 10)
  /-- LEVEL_WAIT_EXPIRY (R68). -/
  | levelWaitExpiry
  /-- LEVEL_DRIVE_END (R69). -/
  | levelDriveEnd
  /-- PROFILE_WRITE_COMPLETE (R189). -/
  | profileWriteComplete
  /-- BOARD_SLOT (R166). -/
  | boardSlot
  /-- BOARD_FRAME_END (R167). -/
  | boardFrameEnd (moment : Nat)
  /-- BOARD_PERIODIC_PASS (R167). -/
  | boardPeriodicPass
  /-- FIRST_FINISH_HOLD_END (R161). -/
  | firstFinishHoldEnd
  /-- CONSOLE_FRAME_RECEIVED (R175): the bytes that complete a console frame. -/
  | consoleFrameReceived (bytes : List Byte) (moment : Nat)
  /-- BYTE_FRAMING_ERROR (R173). -/
  | byteFramingError (moment : Nat)
  /-- PAYLOAD_LENGTH_TOO_LONG (R173): the fifth byte of a frame. -/
  | payloadLengthTooLong (fifth : Byte) (moment : Nat)
  /-- RECEIVER_SILENCE (R173). -/
  | receiverSilence
  /-- TRANSMIT_FRAME_END (R179). -/
  | transmitFrameEnd (moment : Nat)
  /-- LOAD_HEAT (R26). -/
  | loadHeat (moment : Nat) (tag : Byte) (payload : List Byte)
  /-- WITHDRAW_HEAT (R28). -/
  | withdrawHeat (moment : Nat) (tag : Byte) (payload : List Byte)
  /-- QUERY_QUEUE (R31). -/
  | queryQueue (moment : Nat) (tag : Byte) (payload : List Byte)
  /-- ARM (R36). -/
  | arm (moment : Nat) (tag : Byte) (payload : List Byte)
  /-- DISARM (R38). -/
  | disarm (moment : Nat) (tag : Byte) (payload : List Byte)
  /-- START (R40). -/
  | start (moment : Nat) (tag : Byte) (payload : List Byte)
  /-- RECALL (R43). -/
  | recall (moment : Nat) (tag : Byte) (payload : List Byte)
  /-- END_HEAT (R45). -/
  | endHeat (moment : Nat) (tag : Byte) (payload : List Byte)
  /-- CLOSE_LANE (R92). -/
  | closeLane (moment : Nat) (tag : Byte) (payload : List Byte)
  /-- NEXT_HEAT (R30). -/
  | nextHeat (moment : Nat) (tag : Byte) (payload : List Byte)
  /-- AMEND SET_TIME (R142): the lane byte and the time in hundredths. -/
  | setTime (moment : Nat) (tag lane : Byte) (time : BitVec 24)
  /-- AMEND DQ (R143): the lane byte. -/
  | dq (moment : Nat) (tag lane : Byte)
  /-- AMEND REINSTATE (R144): the lane byte. -/
  | reinstate (moment : Nat) (tag lane : Byte)
  /-- AMEND CLEAR_REVIEW (R145): the lane byte. -/
  | clearReview (moment : Nat) (tag lane : Byte)
  /-- OFFICIALISE (R147). -/
  | officialise (moment : Nat) (tag : Byte) (payload : List Byte)
  /-- LOCK_RESULTS (R152). -/
  | lockResults (moment : Nat) (tag : Byte) (payload : List Byte)
  /-- STATUS (R182). -/
  | status (moment : Nat) (tag : Byte) (payload : List Byte)
  /-- QUERY_LANE (R95). -/
  | queryLane (moment : Nat) (tag : Byte) (payload : List Byte)
  /-- QUERY_ARCHIVE (R150). -/
  | queryArchive (moment : Nat) (tag : Byte) (payload : List Byte)
  /-- ARCHIVE_CLEAR (R151). -/
  | archiveClear (moment : Nat) (tag : Byte) (payload : List Byte)
  /-- BOARD_MODE (R168). -/
  | boardMode (moment : Nat) (tag : Byte) (payload : List Byte)
  /-- BOARD_TEST on (R169). -/
  | boardTestOn (moment : Nat) (tag : Byte)
  /-- BOARD_TEST off (R169). -/
  | boardTestOff (moment : Nat) (tag : Byte)
  /-- BOARD_TEXT (R163). -/
  | boardText (moment : Nat) (tag : Byte) (payload : List Byte)
  /-- TIMEBASE_RESTART (R10). -/
  | timebaseRestart (moment : Nat) (tag : Byte) (payload : List Byte)
  /-- PROFILE_READ (R191). -/
  | profileRead (moment : Nat) (tag : Byte) (payload : List Byte)
  /-- PROFILE_WRITE (R189). -/
  | profileWrite (moment : Nat) (tag : Byte) (payload : List Byte)
  /-- LEVEL_PADS (R67). -/
  | levelPads (moment : Nat) (tag : Byte) (payload : List Byte)
  /-- PROBE_BLOCKS (R133). -/
  | probeBlocks (moment : Nat) (tag : Byte) (payload : List Byte)
  /-- RESTART (R177). -/
  | restart (moment : Nat) (tag : Byte) (payload : List Byte)
  /-- CONSOLE_BYTE_RECEIVED (R173). -/
  | consoleByteReceived (byte : Byte) (moment : Nat)
  /-- MAIN_POWER_OFF (R187). -/
  | mainPowerOff
  deriving DecidableEq, Repr

end Sys2Proof
end

