-- ==== Sys2Proof/Decode.lean ====
section
/-!
DEFINITION. The commands a word of the table's bits spells. No row of spec/opcode_table.json gives bits
("fixed" and "fields" are empty in all 66 rows), so no word spells a command.
-/

namespace Sys2Proof

/-- The command spelled by the `nbits`-bit word `w` of the opcode table: none, since the table gives no
row any bits. -/
def decodeTableWord (_nbits _w : Nat) : Option Instr := none

end Sys2Proof
end

