-- ==== Sys2Proof/Config.lean ====
section
/-!
DEFINITION. The constants the manual fixes, and the two free values it leaves: the archive's integrity
check value, whose rule it does not give (R154), and what an archive memory that was not held reads as
(log entry 10). No command's result is undefined or implementation-defined (log entry 1).
-/

namespace Sys2Proof.Config

/-- The largest master time, 2^40 - 1 ticks (R1). -/
def masterLimit : Nat := 1099511627775

/-- Good windows that make an acquisition or a return, 20,000 ticks = 2.0 s (R3). -/
def goodWindows : Nat := 20000

/-- INTERNAL acquisition, 0.5 s (R4). -/
def acquiringTicks : Nat := 5000

/-- The race-time limit (R13, R48). -/
def raceLimit : Nat := 36000000

/-- The re-trigger guard, 1.0 s (R42). -/
def guardTicks : Nat := 10000

/-- The lockout of a backup button, 0.02 s (R64). -/
def lockoutTicks : Nat := 200

/-- The longest wait for a closed pad in leveling, 0.5 s (R68). -/
def levelWaitTicks : Nat := 5000

/-- The latest answer of a driven pad (R69). -/
def levelAnswerTicks : Nat := 100

/-- The fixed length of a test drive (R69). -/
def levelDriveTicks : Nat := 101

/-- The settling of the platform load cells, 20 ms (R114). -/
def settlingTicks : Nat := 200

/-- The largest zero-reference reading that passes the self-test (R115). -/
def zeroMax : Nat := 16

/-- The smallest full-scale reading that passes the self-test (R115). -/
def fullMin : Nat := 1007

/-- The length of a sweep of the ten channels (R113). -/
def sweepTicks : Nat := 5

/-- The profile store's write, 40 ms (R189). -/
def writeTicks : Nat := 400

/-- The first-finish hold, 5.0 s (R161). -/
def holdTicks : Nat := 50000

/-- The board slot in CONTINUOUS, 25 ms (R166). -/
def slotTicks : Nat := 250

/-- The periodic full pass of ON_CHANGE, 5 s (R167). -/
def passTicks : Nat := 50000

/-- The receiver's silence, 0.1 s (R173). -/
def silenceTicks : Nat := 1000

/-- The largest payload (R173). -/
def payloadMax : Nat := 512

/-- Records the heat queue holds (R25). -/
def queueMax : Nat := 4

/-- Requests the request buffer holds (R175). -/
def bufferMax : Nat := 4

/-- Immediate replies the reply list holds (R178). -/
def immediateMax : Nat := 6

/-- Notices the notice queue holds (R180). -/
def noticeMax : Nat := 64

/-- Entries the archive holds (R148). -/
def archiveMax : Nat := 24

/-- The integrity check value over the content of the archive memory (R154). The manual gives neither its
width nor its rule: a free value (log entry 10). -/
opaque checkValue {α : Type} : List α → Nat

/-- What an archive memory that was not held reads as, content and check value, by what it held. The
manual says only that the check decides what becomes of it (R187): a free value (log entry 10). -/
opaque disturbed {α : Type} : List α → Nat → List α × Nat

end Sys2Proof.Config
end

