-- ==== Sys2Proof/Machine/State.lean ====
section
/-!
DEFINITION. The state of the LT-10: everything the manual gives its nine blocks, as plain data, the
queue of commands that wait, and the machine right after reset.

Times are kept in ticks of the counting clock since the last reset. Below the limit these are master
times; master time itself is the clock held at the limit (R1). A value the manual derives from another
(hundredths from ticks, the running order from the lanes) is not stored twice.

The constructors of an enumeration stand in the order in which the owning rule lists the names, which
is the order R184 numbers them in.
-/

namespace Sys2Proof.Machine

/-! ### Timebase (chapter 1) -/

/-- The two sources of time (section 1.2). -/
inductive TimeSource where
  | internal
  | external
  deriving DecidableEq, Repr

/-- The four timebase states (section 1.3). -/
inductive TimebaseState where
  | acquiring
  | locked
  | holdover
  | unlocked
  deriving DecidableEq, Repr

/-- The cause a TIMEBASE notice carries (R11). -/
inductive TimebaseCause where
  | acquired
  | referenceLost
  | referenceRestored
  | sourceChanged
  | restartRequest
  | limitReached
  deriving DecidableEq, Repr

/-- What the timebase holds besides master time. -/
structure Timebase where
  /-- The timebase state (section 1.3). -/
  state : TimebaseState
  /-- The source in use (R2). -/
  source : TimeSource
  /-- The good-window count, 0 to 20,000 (R3). -/
  goodCount : Nat
  /-- Whether the most recent window was good; absent when none was monitored (R16). -/
  lastWindow : Option Bool
  /-- Whether the crystal is steered to the reference (R2). -/
  steering : Bool
  /-- The end of the 0.5 s INTERNAL acquisition (R4). -/
  acquiringEnd : Nat
  deriving DecidableEq, Repr

/-! ### Heats (chapters 2 and 3) -/

/-- The course of the pool, 25 m or 50 m. -/
inductive Course where
  | m25
  | m50
  deriving DecidableEq, Repr

/-- How the first swimmer starts (field 5 of the heat record). -/
inductive StartType where
  | platform
  | inWater
  deriving DecidableEq, Repr

/-- Which exchange verdicts are reported as notices (field 14 of the heat record). -/
inductive NotifyRegion where
  | all
  | outside
  | early
  | nothing
  deriving DecidableEq, Repr

/-- A heat record as it was validated, with its captured course (section 2.1, R18). Limits are in
hundredths. -/
structure HeatRecord where
  event : Nat
  heat : Nat
  /-- N, the lengths swum by each lane. -/
  lengths : Nat
  relay : Bool
  startType : StartType
  entered : Vector Bool 10
  labels : Vector Text 10
  banner : Text
  inhibit : Nat
  buttonWindow : Nat
  discrepancy : Nat
  /-- LO, the early exchange limit; 0 in an individual heat (R20). -/
  lo : Int
  /-- HI, the late exchange limit; 0 in an individual heat (R20). -/
  hi : Int
  notify : NotifyRegion
  course : Course
  deriving DecidableEq, Repr

/-- The heat flags of the current heat (R7, R48, R115). -/
structure HeatFlags where
  holdover : Bool
  overtime : Bool
  scannerFault : Bool
  deriving DecidableEq, Repr

/-- The six race states (R35). -/
inductive RaceState where
  | idle
  | loaded
  | armed
  | running
  | judging
  | official
  deriving DecidableEq, Repr

/-- The cause a HEAT_STATE notice carries (R50). -/
inductive HeatCause where
  | load
  | withdraw
  | arm
  | disarm
  | timebaseLimit
  | startLine
  | startRequest
  | recallLine
  | recallRequest
  | endRequest
  | allLanesDone
  | overtime
  | officialise
  | nextHeat
  deriving DecidableEq, Repr

/-- What the heat controller holds. -/
structure HeatControl where
  /-- The race state (R35). -/
  race : RaceState
  /-- The current heat (R18). -/
  current : Option HeatRecord
  /-- The flags of the current heat (R18). -/
  flags : HeatFlags
  /-- The heat queue, head first, at most 4 records (R25). -/
  queue : List HeatRecord
  /-- The SET mark (R39). -/
  setMark : Option Nat
  /-- The start mark (R13, R41). -/
  startMark : Option Nat
  /-- The guard end (R42). -/
  guardEnd : Option Nat
  /-- The level of the SET contact (R39). -/
  setLine : Level
  /-- The level of the START contact (R39). -/
  startLine : Level
  /-- The level of the RECALL contact (R39). -/
  recallLine : Level
  deriving DecidableEq, Repr

/-! ### Wall capture (chapter 4) -/

/-- The capture state of a pad; in QUALIFYING it holds the closure's leading edge (section 4.2). -/
inductive PadCapture where
  | unarmed
  | opened
  | qualifying (lead : Nat)
  | held
  | blocked
  deriving DecidableEq, Repr

/-- The capture record of a pad (section 4.2). -/
structure PadRecord where
  level : Level
  /-- The timestamp of the line's most recent closing edge (R54); absent after a reset (R73). -/
  closing : Option Nat
  capture : PadCapture
  /-- The splash count, 0 to 255 (R59). -/
  splash : Nat
  deriving DecidableEq, Repr

/-- The record of a button line (section 4.5). -/
structure ButtonRecord where
  level : Level
  /-- The lockout end (R64). -/
  lockout : Option Nat
  deriving DecidableEq, Repr

/-- The result of one pad in leveling (section 4.6). -/
inductive LevelResult where
  | latency (ticks : Nat)
  | dead
  | busyPad
  deriving DecidableEq, Repr

/-- The step of the pad whose turn it is: WAITING since the turn's beginning, or DRIVING since the
drive start with the answer decided so far (R68, R69). -/
inductive LevelStep where
  | waiting (began : Nat)
  | driving (start : Nat) (answer : Option Nat)
  deriving DecidableEq, Repr

/-- The phase of leveling; MEASURING holds the pad in turn, its step and the pads still to come
(section 4.6). -/
inductive LevelPhase where
  | idle
  | measuring (pad : PadIx) (step : LevelStep) (rest : List PadIx)
  | writing
  deriving DecidableEq, Repr

/-- What wall capture holds. -/
structure WallCapture where
  pads : Vector PadRecord 20
  buttons : Vector ButtonRecord 30
  /-- Whether the pads are armed (R41, R44, R46). -/
  armed : Bool
  level : LevelPhase
  /-- The result list, in measurement order (section 4.6). -/
  results : List (PadIx × LevelResult)
  deriving DecidableEq, Repr

/-! ### The lane table (chapters 5 to 7) -/

/-- The status of a lane (R74, R76). -/
inductive LaneStatus where
  | idle
  | entered
  | racing
  | finished
  | closed
  deriving DecidableEq, Repr

/-- A set of review reasons (R74, R104). -/
structure ReviewReasons where
  noPad : Bool
  discrepant : Bool
  noTime : Bool
  earlyStart : Bool
  earlyExchange : Bool
  unjudgedExchange : Bool
  deriving DecidableEq, Repr

/-- The kind of a length (R23). -/
inductive LengthKind where
  | turn
  | legEnd
  | final
  deriving DecidableEq, Repr

/-- The outcome of a length record (R77). -/
inductive LengthOutcome where
  | touched
  | missed
  | timed
  | noTime
  deriving DecidableEq, Repr

/-- Where an official time came from (R77, R102, R142). -/
inductive OfficialSource where
  | none
  | pad
  | backup
  | manual
  deriving DecidableEq, Repr

/-- The flags of a length record (R105). -/
structure LengthFlags where
  noPad : Bool
  discrepant : Bool
  padDead : Bool
  deriving DecidableEq, Repr

/-- A length record (R77). The hundredths of its official time are those of R106. -/
structure LengthRecord where
  number : Nat
  wall : Wall
  kind : LengthKind
  outcome : LengthOutcome
  padTime : Option Nat
  buttons : List (Button × Nat)
  backup : Option Nat
  official : Option Nat
  source : OfficialSource
  flags : LengthFlags
  deriving DecidableEq, Repr

/-- A delivered pad touch: its compensated pad time, raw race time and latency (R62). -/
structure PadTouch where
  time : Nat
  raw : Nat
  latency : Nat
  deriving DecidableEq, Repr

/-- A finish window (R85). -/
structure FinishWindow where
  openedBy : Nat
  closesAt : Nat
  gateOpen : Nat
  pad : Option PadTouch
  buttons : List (Button × Nat)
  deriving DecidableEq, Repr

/-- Why a reaction is absent (R122, R123). -/
inductive NoReaction where
  | notApplicable
  | noSensor
  | sensorNotReady
  | sensorFault
  | notOnPlatform
  deriving DecidableEq, Repr

/-- The reaction of a lane (R74). A measured reaction's hundredths and CLAMPED flag are those of R15. -/
inductive Reaction where
  | notKnown
  | preStart (departure : Int)
  | measured (ticks : Int)
  | absent (reason : NoReaction)
  deriving DecidableEq, Repr

/-- The leg-end state of an exchange record: OPEN, or the source the leg end closed with (section 7.5). -/
inductive LegEndState where
  | opened
  | pad
  | backup
  | none
  deriving DecidableEq, Repr

/-- The verdict of an exchange (section 7.5). -/
inductive Verdict where
  | pending
  | clean
  | early
  | late
  | unjudged
  deriving DecidableEq, Repr

/-- An exchange record (section 7.5). The margin's hundredths and CLAMPED flag are those of R15. -/
structure ExchangeRecord where
  leg : Nat
  legEnd : LegEndState
  incoming : Option Nat
  departure : Option Int
  margin : Option Int
  verdict : Verdict
  deriving DecidableEq, Repr

/-- A lane record (R74). The hundredths of the final official time are those of R106. -/
structure LaneRecord where
  status : LaneStatus
  disqualified : Bool
  reasons : ReviewReasons
  label : Text
  leg : Nat
  expected : Nat
  gateBase : Nat
  window : Option FinishWindow
  lengths : List LengthRecord
  reaction : Reaction
  departures : Nat
  exchanges : List ExchangeRecord
  finalTime : Option Nat
  finalSource : OfficialSource
  place : Option Nat
  revisions : Nat
  deriving DecidableEq, Repr

/-! ### The platform scanner (chapter 7) -/

/-- The scanner states (section 7.2). TESTING begins and ends within one tick (R115). -/
inductive ScannerState where
  | off
  | settling
  | testing
  | scanning
  | fault
  deriving DecidableEq, Repr

/-- The load state of a channel (section 7.3). -/
inductive LoadState where
  | loaded
  | unloaded
  deriving DecidableEq, Repr

/-- A load channel (section 7.3). -/
structure Channel where
  load : Option LoadState
  /-- The latest reading and its sample time. -/
  latest : Option (Reading × Nat)
  startLoad : Option LoadState
  deriving DecidableEq, Repr

/-- The last self-test: Z, F and whether it passed (R115). -/
structure SelfTest where
  zero : Reading
  full : Reading
  pass : Bool
  deriving DecidableEq, Repr

/-- What the platform scanner holds. -/
structure Scanner where
  state : ScannerState
  /-- The settling end, while SETTLING (R114). -/
  settlingEnd : Option Nat
  lastTest : Option SelfTest
  /-- The master time at which the first sweep begins, while SCANNING (R113). -/
  sweepStart : Option Nat
  channels : Vector Channel 10
  /-- The tag of the PROBE_BLOCKS in flight (R133). -/
  probe : Option Byte
  /-- The test of the probe in flight (R134). -/
  probeTest : Option SelfTest
  /-- The readings of the probe's sweep taken so far, with their sample times (R134). -/
  probeReadings : Vector (Option (Reading × Nat)) 10
  deriving DecidableEq, Repr

/-! ### Placing and the archive (chapter 8) -/

/-- An exchange as the archive keeps it: the verdict, and the margin's hundredths with CLAMPED (R149). -/
structure ArchivedExchange where
  verdict : Verdict
  margin : Option (Int × Bool)
  deriving DecidableEq, Repr

/-- A reaction as the archive keeps it (R149). A reaction not yet known is kept as `none`. -/
inductive ArchivedReaction where
  | measured (hundredths : Int) (clamped : Bool)
  | absent (reason : NoReaction)
  | none
  deriving DecidableEq, Repr

/-- A lane result of an archive entry (R149). -/
structure LaneResult where
  lane : Lane
  status : LaneStatus
  disqualified : Bool
  hundredths : Option Nat
  source : OfficialSource
  place : Option Nat
  reaction : ArchivedReaction
  exchanges : List ArchivedExchange
  revisions : Nat
  deriving DecidableEq, Repr

/-- An archive entry (R149). -/
structure ArchiveEntry where
  event : Nat
  heat : Nat
  lengths : Nat
  relay : Bool
  flags : HeatFlags
  results : List LaneResult
  deriving DecidableEq, Repr

/-- What placing holds. -/
structure Placing where
  /-- The place order: lanes with their official hundredths (R137). -/
  order : List (Lane × Nat)
  /-- The results lock (R152). -/
  locked : Bool
  /-- The archive, oldest first, at most 24 entries (R148). -/
  archive : List ArchiveEntry
  /-- The archive's integrity check value, as last brought up to date (R154). -/
  check : Nat
  /-- Whether the current heat is linked to the newest entry (R148). -/
  linked : Bool
  deriving DecidableEq, Repr

/-! ### The board driver (chapter 9) -/

/-- The refresh modes (R166, R167). -/
inductive RefreshMode where
  | continuous
  | onChange
  deriving DecidableEq, Repr

/-- The source of a row in the routing table (R156); `order k` is ORDER(k + 1). -/
inductive RowSource where
  | blank
  | banner
  | clock
  | lane (lane : Lane)
  | order (k : Fin 10)
  deriving DecidableEq, Repr

/-- The row kinds of the row frame (R185). The image never holds TEST. -/
inductive RowKind where
  | blank
  | banner
  | clock
  | lane
  | test
  deriving DecidableEq, Repr

/-- The content of a row (section 9.1). -/
structure Row where
  kind : RowKind
  laneChar : Byte
  place : Text
  marker : Text
  time : Text
  text : Text
  deriving DecidableEq, Repr

/-- The first-finish hold, with the hold end while HOLDING (R161). -/
inductive Hold where
  | none
  | holding (ends : Nat)
  | spent
  deriving DecidableEq, Repr

/-- A row frame on the board line: its row, the content it began with, and when it began (R165). -/
structure BoardFrame where
  row : RowIx
  content : Row
  began : Nat
  deriving DecidableEq, Repr

/-- What the board driver holds. -/
structure Board where
  image : Vector Row 12
  /-- The refresh mode in force; none while not configured (R171). -/
  mode : Option RefreshMode
  /-- Whether the board test is on (R169). -/
  test : Bool
  /-- The BOARD_TEXT override (R163). -/
  override : Option Text
  hold : Hold
  /-- The frozen end time in hundredths (R162). -/
  frozen : Option Nat
  /-- The pending set of ON_CHANGE (R167). -/
  pendingRows : Vector Bool 12
  /-- The row cursor of CONTINUOUS and of the test (R166, R169). -/
  cursor : RowIx
  /-- The time of the next slot (R166). -/
  nextSlot : Option Nat
  /-- The time of the next periodic full pass (R167). -/
  periodic : Option Nat
  /-- The row of a slot whose frame waits for the line (R165, R166). -/
  owed : Option RowIx
  /-- The frame on the board line (R165). -/
  line : Option BoardFrame
  /-- The MODEL's own: a full pass is due at the end of this command (R167); false between commands. -/
  passDue : Bool
  deriving DecidableEq, Repr

/-! ### The profile store (chapter 11) -/

/-- The pool profile (section 11.1). -/
structure Profile where
  course : Course
  installed : Vector Bool 10
  source : TimeSource
  /-- The recall window in hundredths; 0 disables recall. -/
  recallWindow : Nat
  latencies : Vector Nat 20
  dead : Vector Bool 20
  /-- The qualification time Q in ticks. -/
  qualify : Nat
  platformLatency : Nat
  loadedLimit : Nat
  unloadedLimit : Nat
  routing : Vector (RowSource × Bool) 12
  defaultMode : RefreshMode
  deriving DecidableEq, Repr

/-- The mode in force (R186). -/
inductive Mode where
  | service
  | competition
  deriving DecidableEq, Repr

/-- The kinds of reset (R187). -/
inductive ResetKind where
  | coldStart
  | standbyRestart
  | warmReset
  deriving DecidableEq, Repr

/-- The cause of a reset (R188). -/
inductive ResetCause where
  | power
  | resetPin
  | restartRequest
  deriving DecidableEq, Repr

/-- The reset record STATUS carries (R188). -/
structure ResetRecord where
  kind : ResetKind
  cause : ResetCause
  profileOk : Bool
  archiveOk : Bool
  deriving DecidableEq, Repr

/-- A store write in flight: the profile it writes, when it completes, and whether it is leveling's
(R70, R189). -/
structure StoreWrite where
  profile : Profile
  done : Nat
  leveling : Bool
  deriving DecidableEq, Repr

/-- What the profile store holds. -/
structure ProfileStore where
  /-- The mode sampled at the last start-up (R186). -/
  mode : Mode
  /-- The profile in force; none while the part is not configured (R188). -/
  inForce : Option Profile
  /-- The content of the nonvolatile store when its check value agrees; none when the check fails, as
  it does after a write cut short (R188, R189). -/
  stored : Option Profile
  write : Option StoreWrite
  /-- Whether the setup window is open (R190). -/
  setupOpen : Bool
  record : ResetRecord
  deriving DecidableEq, Repr

/-! ### The console link (chapter 10) -/

/-- The requests, in the order of their kind codes 0x01 to 0x1A (section 10.5). -/
inductive RequestKind where
  | loadHeat
  | withdrawHeat
  | queryQueue
  | arm
  | disarm
  | start
  | recall
  | endHeat
  | closeLane
  | nextHeat
  | amend
  | officialise
  | lockResults
  | status
  | queryLane
  | queryArchive
  | archiveClear
  | boardMode
  | boardTest
  | boardText
  | timebaseRestart
  | profileRead
  | profileWrite
  | levelPads
  | probeBlocks
  | restart
  deriving DecidableEq, Repr

/-- A request in the request buffer (R175). -/
structure Request where
  kind : RequestKind
  tag : Byte
  payload : List Byte
  deriving DecidableEq, Repr

/-- The amendments (R141). -/
inductive AmendKind where
  | setTime
  | dq
  | reinstate
  | clearReview
  deriving DecidableEq, Repr

/-- The refusal codes of a reply with the content they carry (section 10.5): `detail` is the lane, pad
or row a BAD_FIELD names. -/
inductive Denial where
  | wrongState
  | badField (field : Nat) (detail : Option Nat)
  | duplicate
  | queueFull
  | notFound
  | busy
  | notReady
  | notConfigured
  | guarded (field : Option Nat)
  | locked
  | tooLate
  | reviewPending (lanes : List (Lane × ReviewReasons))
  | testActive
  | unknownRequest (kind : Byte)
  deriving DecidableEq, Repr

/-- The items STATUS reports, chapter by chapter (R16, R32, R52, R72, R96, R135, R153, R170, R191,
R182). -/
structure StatusReport where
  timebase : TimebaseState
  source : TimeSource
  master : Nat
  goodCount : Nat
  lastWindow : Option Bool
  holdover : Option Bool
  race : RaceState
  numbers : Option (Nat × Nat)
  queued : Nat
  flags : Option HeatFlags
  setMark : Option Nat
  startMark : Option Nat
  raceTime : Option Int
  /-- The guard end, and whether the execution stamp is before it. -/
  guardEnd : Option (Nat × Bool)
  padsArmed : Bool
  pads : Vector PadRecord 20
  /-- Each button's level, and whether a lockout is in force. -/
  buttons : Vector (Level × Bool) 30
  level : LevelPhase
  levelCount : Nat
  lanes : Vector LaneRecord 10
  scanner : ScannerState
  settlingEnd : Option Nat
  lastTest : Option SelfTest
  probing : Bool
  channels : Vector Channel 10
  order : List (Lane × Nat)
  locked : Bool
  archived : Nat
  linked : Bool
  silent : Bool
  refresh : Option RefreshMode
  test : Bool
  override : Option Text
  hold : Hold
  frozen : Option Nat
  cursor : RowIx
  pendingRows : Vector Bool 12
  periodic : Option Nat
  image : Vector Row 12
  mode : Mode
  configured : Bool
  writeDone : Option Nat
  setupOpen : Bool
  record : ResetRecord
  buffered : Nat
  replies : Nat
  probeAwaited : Bool
  notices : Nat
  gap : Bool
  discards : Nat
  deriving DecidableEq, Repr

/-- What an accepted request's reply carries, by its owning rule. -/
inductive Content where
  | empty
  | placedCurrent
  | placedQueued (position count : Nat)
  | withdrawn (position left : Nat)
  | newCurrent (numbers : Option (Nat × Nat))
  | queueSummary (race : RaceState) (entries : List HeatRecord) (hasCurrent : Bool)
  | queueRecord (record : HeatRecord) (banner : Text) (flags : Option HeatFlags)
  | armed (scannerPowered : Bool)
  | started (mark : Nat)
  | laneClosed (lane : Lane) (status : LaneStatus)
  | amended (record : LaneRecord) (revision : Option (Nat × Bool))
  | officialised (count : Nat) (removed : Bool)
  | lockSet (byThis : Bool)
  | statusReport (report : StatusReport)
  | laneReport (race : RaceState) (record : LaneRecord) (gateOpen : Nat) (records : List LengthRecord)
  | archiveReport (entry : ArchiveEntry) (count : Nat) (linked : Bool)
  | cleared (count : Nat)
  | boardMode (mode : Option RefreshMode)
  | boardTest (on : Bool)
  | boardText (override : Option Text) (cut : Bool)
  | timebase (state : TimebaseState) (source : TimeSource) (master : Nat)
  | profile (profile : Profile)
  | leveling (pads : Nat)
  | probed (complete : Bool) (test : Option SelfTest) (readings : Vector (Option (Reading × Nat)) 10)
  deriving DecidableEq, Repr

/-- The outcome of a request and the content that follows it (R176). -/
inductive Answer where
  | accepted (content : Content)
  | refused (denial : Denial)
  deriving DecidableEq, Repr

/-- What made a reply (R176, R178). -/
inductive ReplyClass where
  | execution
  | immediate
  | deferred
  deriving DecidableEq, Repr

/-- A reply: the kind of the request it answers (none for the generic reply kind 0xFF), the request's
tag, and the answer (R175, R176). -/
structure Reply where
  cls : ReplyClass
  kind : Option RequestKind
  tag : Byte
  answer : Answer
  deriving DecidableEq, Repr

/-- The cause of a FINISH notice (R110). -/
inductive CloseCause where
  | window
  | heatEnd
  deriving DecidableEq, Repr

/-- The settling cause of an EXCHANGE notice (R131). -/
inductive SettleCause where
  | evaluated
  | nextTurn
  | laneClosed
  | heatEnd
  | scannerFault
  | legEndMissed
  deriving DecidableEq, Repr

/-- The cause of a PLACES notice (R140). -/
inductive PlacesCause where
  | finish (lane : Lane)
  | amendment (lane : Lane) (kind : AmendKind)
  | recall
  deriving DecidableEq, Repr

/-- One lane of a PLACES notice: its place before and after, and its official hundredths (R140). -/
structure PlaceChange where
  lane : Lane
  before : Option Nat
  after : Option Nat
  hundredths : Option Nat
  deriving DecidableEq, Repr

/-- One lane of a REACTION notice (R124). -/
structure ReactionEntry where
  lane : Lane
  reaction : Reaction
  startLoad : Option LoadState
  reasons : ReviewReasons
  deriving DecidableEq, Repr

/-- The ten kinds of notice with their content (section 10.5). -/
inductive NoticeBody where
  | heatState (new previous : RaceState) (cause : HeatCause) (numbers : Option (Nat × Nat))
      (flags : HeatFlags) (startMark guardEnd : Option Nat)
  | split (lane : Lane) (record : LengthRecord) (leg : Nat)
  | finish (lane : Lane) (label : Text) (record : LengthRecord) (leg : Nat) (reasons : ReviewReasons)
      (cause : CloseCause)
  | exchange (lane : Lane) (record : ExchangeRecord) (cause : SettleCause) (reasons : ReviewReasons)
  | reaction (entries : List ReactionEntry)
  | places (cause : PlacesCause) (changes : List PlaceChange) (count : Nat)
  | timebase (new previous : TimebaseState) (source : TimeSource) (cause : TimebaseCause)
  | scanner (ready : Bool) (zero full : Reading) (event heat : Nat)
  | profileDone (changed : Vector Bool 12) (became : Bool)
  | levelDone (complete : Bool) (results : List (PadIx × LevelResult))
  deriving DecidableEq, Repr

/-- A notice with its creation master time (R181). -/
structure Notice where
  created : Nat
  body : NoticeBody
  deriving DecidableEq, Repr

/-- What the transmitter sends: a reply, or a notice with its GAP flag (R179, R180). -/
inductive Message where
  | reply (reply : Reply)
  | notice (notice : Notice) (gap : Bool)
  deriving DecidableEq, Repr

/-- The frame on the console line, and when it began (R179). -/
structure TxFrame where
  message : Message
  began : Nat
  deriving DecidableEq, Repr

/-- What the console link holds. -/
structure Link where
  /-- The bytes of the frame in progress; empty in HUNT (R173). -/
  held : List Byte
  /-- When the last byte arrived (R173). -/
  lastByte : Nat
  /-- The discard count, at most 65,535 (R173). -/
  discards : Nat
  /-- The request buffer, oldest first (R175). -/
  buffer : List Request
  /-- The reply list, oldest first (R178). -/
  replies : List Reply
  /-- The notice queue, oldest first (R180). -/
  notices : List Notice
  /-- The GAP mark (R180). -/
  gap : Bool
  /-- The frame the transmitter sends (R179). -/
  line : Option TxFrame
  /-- Whether a RESTART has been executed, so that no further request is (R177). -/
  restarting : Bool
  /-- The MODEL's own: how many notices the event in progress has made; 0 between commands (log entry 29:
  DESIGN CHOICE). -/
  fresh : Nat
  deriving DecidableEq, Repr

/-! ### The whole part -/

/-- Whether the part is without power, held in a reset that start-up has not ended (with the reset's
cause, and whether the standby latch was set when power came), or running (R187, R188). -/
inductive Power where
  | off
  | held (cause : ResetCause) (latchWasSet : Bool)
  | running
  deriving DecidableEq, Repr

/-- The state of the LT-10. -/
structure State where
  power : Power
  /-- The standby latch (R187). -/
  standbyLatch : Bool
  /-- Ticks of the counting clock since the last reset; master time is this, held at the limit (R1). -/
  clock : Nat
  timebase : Timebase
  heat : HeatControl
  wall : WallCapture
  lanes : Vector LaneRecord 10
  scanner : Scanner
  placing : Placing
  board : Board
  store : ProfileStore
  link : Link
  /-- The commands that wait, first in, first out. -/
  pending : List Instr
  deriving DecidableEq, Repr

/-! ### Reset -/

/-- The empty set of review reasons. -/
def ReviewReasons.empty : ReviewReasons := ⟨false, false, false, false, false, false⟩

/-- No heat flag set. -/
def HeatFlags.clear : HeatFlags := ⟨false, false, false⟩

/-- A lane record in its cleared form, with the given status and label (R75). -/
def LaneRecord.cleared (status : LaneStatus) (label : Text) : LaneRecord where
  status := status
  disqualified := false
  reasons := .empty
  label := label
  leg := 1
  expected := 1
  gateBase := 0
  window := none
  lengths := []
  reaction := .notKnown
  departures := 0
  exchanges := []
  finalTime := none
  finalSource := .none
  place := none
  revisions := 0

/-- A row showing nothing: row kind BLANK, every character a space (R156). -/
def Row.blank : Row :=
  ⟨.blank, 0x20#8, List.replicate 2 0x20#8, List.replicate 3 0x20#8, List.replicate 8 0x20#8,
    List.replicate 16 0x20#8⟩

/-- The machine right after reset: a cold start whose start-up has ended, with a profile store that
fails its check and the mode strap high (log entries 3 and 4). Every other value is the one the manual
states for reset (R17, R33, R53, R73, R97, R136, R154, R171, R183, R188, R192). -/
def State.reset : State where
  power := .running
  standbyLatch := false
  clock := 0
  timebase :=
    { state := .acquiring, source := .internal, goodCount := 0, lastWindow := none, steering := false,
      acquiringEnd := Config.acquiringTicks }
  heat :=
    { race := .idle, current := none, flags := .clear, queue := [], setMark := none, startMark := none,
      guardEnd := none, setLine := .opened, startLine := .opened, recallLine := .opened }
  wall :=
    { pads := Vector.replicate 20 ⟨.opened, none, .unarmed, 0⟩
      buttons := Vector.replicate 30 ⟨.opened, none⟩
      armed := false, level := .idle, results := [] }
  lanes := Vector.replicate 10 (.cleared .idle [])
  scanner :=
    { state := .off, settlingEnd := none, lastTest := none, sweepStart := none
      channels := Vector.replicate 10 ⟨none, none, none⟩
      probe := none, probeTest := none, probeReadings := Vector.replicate 10 none }
  placing :=
    { order := [], locked := false, archive := []
      check := Config.checkValue ([] : List ArchiveEntry), linked := false }
  board :=
    { image := Vector.replicate 12 .blank, mode := none, test := false, override := none, hold := .none
      frozen := none, pendingRows := Vector.replicate 12 false, cursor := 0, nextSlot := none
      periodic := none, owed := none, line := none, passDue := false }
  store :=
    { mode := .service, inForce := none, stored := none, write := none, setupOpen := true
      record := ⟨.coldStart, .power, false, true⟩ }
  link :=
    { held := [], lastByte := 0, discards := 0, buffer := [], replies := [], notices := [], gap := false
      line := none, restarting := false, fresh := 0 }
  pending := []

/-! ### How a step can stop -/

/-- The faults of a step. The manual gives the LT-10 none: every command and every event has an effect
in every state, if only to be ignored or answered with a refusal code, so no fault has a constructor. -/
inductive Fault where
  deriving DecidableEq, Repr

/-- The refusals of a step. -/
inductive Refusal where
  /-- Raised by `exec` for a command that has no meaning yet, by its mnemonic; safe. No arm raises it. -/
  | notModelled (mnemonic : String)
  deriving DecidableEq, Repr

end Sys2Proof.Machine
end

