-- ==== Sys2Proof/Machine/Flags.lean ====
section
/-!
DEFINITION. The flags and the arithmetic that every chapter shares: ticks to hundredths and tenths
(R14), signed values with the CLAMPED flag (R15), and the sets of heat flags, length flags and review
reasons.
-/

namespace Sys2Proof.Machine

/-! ### Conversions (R14, R15) -/

/-- Race time to hundredths: official rounding, down (R14). -/
def hundredths (ticks : Nat) : Nat := ticks / 100

/-- Race time to tenths, down (R14). -/
def tenths (ticks : Nat) : Nat := ticks / 1000

/-- A limit in hundredths as ticks (R14). -/
def limitTicks (h : Nat) : Nat := h * 100

/-- A signed value in hundredths before clamping: the largest whole number not greater (R15). -/
def floorHundredths (ticks : Int) : Int := ticks / 100

/-- A signed value in hundredths, held within -999 to +999 (R15). -/
def signedHundredths (ticks : Int) : Int := max (-999) (min 999 (floorHundredths ticks))

/-- The CLAMPED flag of a signed value: its hundredths had to be held (R15). -/
def clamped (ticks : Int) : Bool := decide (floorHundredths ticks < -999 ∨ 999 < floorHundredths ticks)

/-! ### Review reasons (R74, R104) -/

/-- A lane is under review while its set of reasons is not empty (R74). -/
def ReviewReasons.any (r : ReviewReasons) : Bool :=
  r.noPad || r.discrepant || r.noTime || r.earlyStart || r.earlyExchange || r.unjudgedExchange

/-- Reasons are added, each held once (R104). -/
def ReviewReasons.union (r q : ReviewReasons) : ReviewReasons where
  noPad := r.noPad || q.noPad
  discrepant := r.discrepant || q.discrepant
  noTime := r.noTime || q.noTime
  earlyStart := r.earlyStart || q.earlyStart
  earlyExchange := r.earlyExchange || q.earlyExchange
  unjudgedExchange := r.unjudgedExchange || q.unjudgedExchange

/-- What SET_TIME removes: NO_PAD, DISCREPANT and NO_TIME (R142). -/
def ReviewReasons.dropTimes (r : ReviewReasons) : ReviewReasons :=
  { r with noPad := false, discrepant := false, noTime := false }

/-- NO_TIME alone. -/
def ReviewReasons.onlyNoTime : ReviewReasons := { ReviewReasons.empty with noTime := true }

/-- EARLY_START alone. -/
def ReviewReasons.onlyEarlyStart : ReviewReasons := { ReviewReasons.empty with earlyStart := true }

/-- EARLY_EXCHANGE alone. -/
def ReviewReasons.onlyEarlyExchange : ReviewReasons := { ReviewReasons.empty with earlyExchange := true }

/-- UNJUDGED_EXCHANGE alone. -/
def ReviewReasons.onlyUnjudged : ReviewReasons := { ReviewReasons.empty with unjudgedExchange := true }

/-- No length flag. -/
def LengthFlags.clear : LengthFlags := ⟨false, false, false⟩

end Sys2Proof.Machine
end

