-- ==== Sys2Proof/Machine/Ops.lean ====
section
/-!
DEFINITION. The named operations every block shares: the clock and master time, tables, the geometry of
a heat, notices and replies.
-/

namespace Sys2Proof.Machine

/-! ### Tables -/

/-- The table whose entry at `i` is `f i`. -/
def tab {α : Type} {n : Nat} (f : Fin n → α) : Vector α n := ⟨⟨List.ofFn f⟩, by simp⟩

/-- The lanes, in lane order. -/
def allLanes : List Lane := [0, 1, 2, 3, 4, 5, 6, 7, 8, 9]

/-- The pads, in pad order. -/
def allPads : List PadIx := [0, 1, 2, 3, 4, 5, 6, 7, 8, 9, 10, 11, 12, 13, 14, 15, 16, 17, 18, 19]

/-- The rows of the board, top to bottom. -/
def allRows : List RowIx := [0, 1, 2, 3, 4, 5, 6, 7, 8, 9, 10, 11]

/-- The pad of a lane at a wall, in pad order. -/
def padIx (lane : Lane) (wall : Wall) : PadIx :=
  match wall with
  | .a => ⟨2 * lane.val, by omega⟩
  | .b => ⟨2 * lane.val + 1, by omega⟩

/-- The lane of a pad. -/
def padLane (pad : PadIx) : Lane := ⟨pad.val / 2, by omega⟩

/-- The wall of a pad. -/
def padWall (pad : PadIx) : Wall := if pad.val % 2 = 0 then .a else .b

/-- The button line of a lane's button. -/
def buttonIx (lane : Lane) (button : Button) : ButtonIx := ⟨3 * lane.val + button.val, by omega⟩

/-- Apply a change for every lane, in lane order. -/
def State.eachLane (f : Lane → State → State) (s : State) : State :=
  allLanes.foldl (fun s lane => f lane s) s

/-! ### The clock (R1, R12, R13) -/

/-- Master time: the counting clock, held at the limit (R1). -/
def State.masterTime (s : State) : Nat := min s.clock Config.masterLimit

/-- The clock comes to `moment`, or stays when that is past. What comes with the time that passes stands
in `State.pass`. -/
def State.advance (moment : Nat) (s : State) : State := { s with clock := max s.clock moment }

/-- A timestamp as master time gives it (R1, R12). -/
def stampOf (stamp : Nat) : Nat := min stamp Config.masterLimit

/-- The race time of a stamp against the start mark: negative before it (R13). -/
def raceTimeOf (startMark stamp : Nat) : Int := (stamp : Int) - (startMark : Int)

/-- Race time now, while a start mark is held (R13). -/
def State.raceTime (s : State) : Option Int := s.heat.startMark.map (raceTimeOf · s.masterTime)

/-- Race time now in whole ticks; 0 with no start mark. -/
def State.raceTicks (s : State) : Nat := (s.raceTime.getD 0).toNat

/-- Whether the part has come out of its reset and runs (R187, R188). -/
def State.isRunning (s : State) : Bool := s.power == .running

/-- Let an effect happen only while the part runs (R187, R188). -/
def State.whenRunning (f : State → State) (s : State) : State := if s.isRunning then f s else s

/-- The part is configured: a profile is in force (R188). -/
def State.configured (s : State) : Bool := s.store.inForce.isSome

/-- The race is ARMED or RUNNING. -/
def State.armedOrRunning (s : State) : Bool := s.heat.race == .armed || s.heat.race == .running

/-! ### Lanes -/

/-- The record of a lane. -/
def State.lane (s : State) (lane : Lane) : LaneRecord := s.lanes[lane]

/-- Change the record of a lane. -/
def State.updLane (lane : Lane) (f : LaneRecord → LaneRecord) (s : State) : State :=
  { s with lanes := s.lanes.set lane (f (s.lanes[lane])) }

/-- Whether a lane is entered in a heat. -/
def HeatRecord.enters (h : HeatRecord) (lane : Lane) : Bool := h.entered[lane]

/-! ### Geometry (R22, R23) -/

/-- The start wall: A when N is even, B when N is odd (R22). -/
def startWall (h : HeatRecord) : Wall := if h.lengths % 2 = 0 then .a else .b

/-- The wall length `n` ends at: A when `n` and N are both even or both odd, else B (R22). -/
def lengthWall (h : HeatRecord) (n : Nat) : Wall := if n % 2 = h.lengths % 2 then .a else .b

/-- Lengths per leg of a relay (R23). -/
def legLengths (h : HeatRecord) : Nat := h.lengths / 4

/-- The kind of length `n` (R23). -/
def lengthKind (h : HeatRecord) (n : Nat) : LengthKind :=
  if n = h.lengths then .final
  else if h.relay && n % legLengths h == 0 then .legEnd
  else .turn

/-- The leg that length `n` belongs to (R23). -/
def lengthLeg (h : HeatRecord) (n : Nat) : Nat :=
  if h.relay then (n - 1) / legLengths h + 1 else 1

/-- The gate-open time of the expected length: the gate base plus the inhibit (R78). -/
def gateOpen (h : HeatRecord) (r : LaneRecord) : Nat := r.gateBase + limitTicks h.inhibit

/-- The event and heat numbers of the current heat. -/
def State.numbers (s : State) : Option (Nat × Nat) := s.heat.current.map fun h => (h.event, h.heat)

/-! ### Notices and replies (R176, R178, R180) -/

/-- A notice is created: it joins the queue at the tail; at 64 the oldest is discarded first and the GAP
mark set (R180). It counts as made by the event in progress until the event's end. -/
def State.notify (body : NoticeBody) (s : State) : State :=
  let notice : Notice := ⟨s.masterTime, body⟩
  let l : Link := { s.link with fresh := s.link.fresh + 1 }
  if s.link.notices.length < Config.noticeMax then
    { s with link := { l with notices := s.link.notices ++ [notice] } }
  else
    { s with link := { l with notices := s.link.notices.drop 1 ++ [notice], gap := true } }

/-- A notice's content with the review reasons the lanes hold: FINISH, EXCHANGE and REACTION give a lane's
reasons as they stand after the event (R110, R124, R131). -/
def NoticeBody.withReasons (lanes : Vector LaneRecord 10) : NoticeBody → NoticeBody
  | .finish lane label record leg _ cause => .finish lane label record leg (lanes[lane]).reasons cause
  | .exchange lane record cause _ => .exchange lane record cause (lanes[lane]).reasons
  | .reaction entries =>
    .reaction (entries.map fun e => { e with reasons := (lanes[e.lane]).reasons })
  | body => body

/-- The notice with the review reasons the lanes hold. -/
def Notice.completed (lanes : Vector LaneRecord 10) (n : Notice) : Notice :=
  { n with body := n.body.withReasons lanes }

/-- The notices the event in progress has made, the newest of the queue. -/
def Link.freshNotices (l : Link) : List Notice := l.notices.drop (l.notices.length - l.fresh)

/-- The end of an event, for the notices it has made: each is given the review reasons as they stand
after the event. -/
def State.sealNotices (s : State) : State :=
  { s with link :=
      { s.link with
        fresh := 0
        notices := s.link.notices.take (s.link.notices.length - s.link.fresh) ++
          s.link.freshNotices.map (Notice.completed s.lanes) } }

/-- A reply joins the reply list (R176, R177). -/
def State.pushReply (reply : Reply) (s : State) : State :=
  { s with link := { s.link with replies := s.link.replies ++ [reply] } }

/-- One more dropped frame, up to 65,535 (R173). -/
def State.discard (n : Nat) (s : State) : State :=
  { s with link := { s.link with discards := min 65535 (s.link.discards + n) } }

/-- What executing a request gives: the state after, and the answer; none for an accepted PROBE_BLOCKS,
whose reply comes later (R176, R177). -/
structure Handled where
  state : State
  answer : Option Answer

/-- The request is accepted, with the content of its reply. -/
def State.accept (content : Content) (s : State) : Handled := ⟨s, some (.accepted content)⟩

/-- The request is refused; a refused request changes no state (R176). -/
def State.deny (denial : Denial) (s : State) : Handled := ⟨s, some (.refused denial)⟩

/-- A HEAT_STATE notice for the state as it stands after the event (R50). With no heat current (IDLE) R29
and R50 make only the numbers absent and say nothing of the flags: the notice gives them as clear, where
STATUS (R32) has them absent (log entry 39: DESIGN CHOICE). -/
def State.notifyHeat (previous : RaceState) (cause : HeatCause) (s : State) : State :=
  s.notify (.heatState s.heat.race previous cause s.numbers
    (if s.heat.current.isSome then s.heat.flags else .clear)
    (if s.heat.race = .running then s.heat.startMark else none)
    (match cause with
      | .recallLine | .recallRequest => s.heat.guardEnd
      | _ => none))

end Sys2Proof.Machine
end

