-- ==== Sys2Proof/Machine/Operands.lean ====
section
/-!
DEFINITION. The operands requests carry: the payload layouts of section 10.6, read and written, and the
field checks of LOAD_HEAT (R19, R20) and PROFILE_WRITE (R189).
-/

namespace Sys2Proof.Machine

/-! ### Numbers in a payload (R184) -/

/-- The byte at an offset; 0 past the end. -/
def byteAt (p : List Byte) (i : Nat) : Nat := (p.getD i 0).toNat

/-- A two-byte number, most significant byte first. -/
def wordAt (p : List Byte) (i : Nat) : Nat := byteAt p i * 256 + byteAt p (i + 1)

/-- A one-byte signed number, two's complement. -/
def signedAt (p : List Byte) (i : Nat) : Int := (p.getD i 0).toInt

/-- The lanes a two-byte set names, lane 0 least significant. -/
def lanesOf (w : Nat) : Vector Bool 10 := tab fun lane => w.testBit lane.val

/-- A text with a length byte at an offset; characters beyond the length byte's count are not read. -/
def textAt (p : List Byte) (i : Nat) : Text := (p.drop (i + 1)).take (byteAt p i)

/-- A printable character, 0x20 to 0x7E. -/
def isPrintable (c : Byte) : Bool := decide (0x20 ≤ c.toNat ∧ c.toNat ≤ 0x7E)

/-- The `n` bytes of a number, most significant first; high bits beyond them are lost. -/
def natBytes : Nat → Nat → List Byte
  | 0, _ => []
  | n + 1, v => natBytes n (v / 256) ++ [BitVec.ofNat 8 v]

/-- The two bytes of a set of lanes. -/
def lanesBytes (lanes : Vector Bool 10) : List Byte :=
  natBytes 2 ((allLanes.map fun lane => if lanes[lane] then 2 ^ lane.val else 0).sum)

/-- A text in a field of `n` characters: a length byte, then the characters, filled up with zeros. -/
def textField (n : Nat) (t : Text) : List Byte :=
  BitVec.ofNat 8 t.length :: (t ++ List.replicate (n - t.length) 0)

/-- A yes or a no. -/
def boolByte (b : Bool) : Byte := if b then 1 else 0

/-! ### LOAD_HEAT (R19, R20) -/

/-- The number of bytes of a LOAD_HEAT payload. -/
def heatPayloadLength : Nat := 220

/-- The lengths a relay may have (field 4). -/
def relayLengths : List Nat := [8, 16, 24, 32, 40, 48, 56]

/-- The offset of a lane's label. -/
def labelOffset (lane : Lane) : Nat := 8 + 17 * lane.val

/-- A label fails: too long, an unprintable character, or not empty in a lane not entered (field 7). -/
def labelFails (p : List Byte) (entered : Vector Bool 10) (lane : Lane) : Bool :=
  let o := labelOffset lane
  decide (16 < byteAt p o) || !((textAt p o).all isPrintable) || (!entered[lane] && byteAt p o != 0)

/-- The first field of a LOAD_HEAT payload that fails, with the lane a label names (R19). -/
def heatFault (installed : Vector Bool 10) (p : List Byte) : Option (Nat × Option Nat) :=
  let entered := lanesOf (wordAt p 6)
  let n := byteAt p 3
  let relay := byteAt p 4
  if p.length ≠ heatPayloadLength then some (0, none)
  else if wordAt p 0 = 0 ∨ 999 < wordAt p 0 then some (1, none)
  else if byteAt p 2 = 0 ∨ 99 < byteAt p 2 then some (2, none)
  else if n = 0 ∨ 60 < n then some (3, none)
  else if 1 < relay ∨ (relay = 1 ∧ n ∉ relayLengths) then some (4, none)
  else if 1 < byteAt p 5 then some (5, none)
  else if wordAt p 6 = 0 ∨ 1024 ≤ wordAt p 6 ∨
      (allLanes.any fun lane => entered[lane] && !installed[lane]) = true then some (6, none)
  else
    match allLanes.find? (labelFails p entered) with
    | some lane => some (7, some lane.val)
    | none =>
      if 32 < byteAt p 178 ∨ ((textAt p 178).all isPrintable) = false then some (8, none)
      else if wordAt p 211 < 500 ∨ 60000 < wordAt p 211 then some (9, none)
      else if wordAt p 213 < 50 ∨ 500 < wordAt p 213 then some (10, none)
      else if byteAt p 215 < 5 ∨ 200 < byteAt p 215 then some (11, none)
      else if relay = 1 ∧ (signedAt p 216 < -100 ∨ 0 < signedAt p 216) then some (12, none)
      else if relay = 1 ∧ 500 < wordAt p 217 then some (13, none)
      else if 3 < byteAt p 219 then some (14, none)
      else none

/-- The notify region of a byte. -/
def regionOf : Nat → NotifyRegion
  | 0 => .all
  | 1 => .outside
  | 2 => .early
  | _ => .nothing

/-- The record of a valid LOAD_HEAT payload, with the course captured; in an individual heat LO and HI
are stored as 0 (R18, R20). -/
def heatOf (course : Course) (p : List Byte) : HeatRecord :=
  let relay := byteAt p 4 == 1
  { event := wordAt p 0
    heat := byteAt p 2
    lengths := byteAt p 3
    relay := relay
    startType := if byteAt p 5 = 0 then .platform else .inWater
    entered := lanesOf (wordAt p 6)
    labels := tab fun lane => textAt p (labelOffset lane)
    banner := textAt p 178
    inhibit := wordAt p 211
    buttonWindow := wordAt p 213
    discrepancy := byteAt p 215
    lo := if relay then signedAt p 216 else 0
    hi := if relay then (wordAt p 217 : Int) else 0
    notify := regionOf (byteAt p 219)
    course := course }

/-- The byte of a start type. -/
def startTypeByte : StartType → Byte
  | .platform => 0
  | .inWater => 1

/-- The byte of a notify region. -/
def regionByte : NotifyRegion → Byte
  | .all => 0
  | .outside => 1
  | .early => 2
  | .nothing => 3

/-- A signed number below 128 in size as one byte. -/
def signedByte (v : Int) : Byte := BitVec.ofInt 8 v

/-- The LOAD_HEAT payload of a heat record (section 10.6). -/
def heatPayload (h : HeatRecord) : List Byte :=
  natBytes 2 h.event ++ natBytes 1 h.heat ++ natBytes 1 h.lengths ++ [boolByte h.relay] ++
    [startTypeByte h.startType] ++ lanesBytes h.entered ++
    (allLanes.map fun lane => textField 16 h.labels[lane]).flatten ++ textField 32 h.banner ++
    natBytes 2 h.inhibit ++ natBytes 2 h.buttonWindow ++ natBytes 1 h.discrepancy ++ [signedByte h.lo] ++
    natBytes 2 h.hi.toNat ++ [regionByte h.notify]

/-- A heat record as the heat controller may hold one: what R19 and R20 let through. -/
def HeatRecord.valid (installed : Vector Bool 10) (h : HeatRecord) : Bool :=
  decide (1 ≤ h.event ∧ h.event ≤ 999) && decide (1 ≤ h.heat ∧ h.heat ≤ 99) &&
    decide (1 ≤ h.lengths ∧ h.lengths ≤ 60) && (!h.relay || relayLengths.contains h.lengths) &&
    (allLanes.any fun lane => h.entered[lane]) &&
    (allLanes.all fun lane => !h.entered[lane] || installed[lane]) &&
    (allLanes.all fun lane =>
      decide ((h.labels[lane]).length ≤ 16) && (h.labels[lane]).all isPrintable &&
        (h.entered[lane] || (h.labels[lane]).isEmpty)) &&
    decide (h.banner.length ≤ 32) && h.banner.all isPrintable &&
    decide (500 ≤ h.inhibit ∧ h.inhibit ≤ 60000) &&
    decide (50 ≤ h.buttonWindow ∧ h.buttonWindow ≤ 500) &&
    decide (5 ≤ h.discrepancy ∧ h.discrepancy ≤ 200) &&
    (if h.relay then decide (-100 ≤ h.lo ∧ h.lo ≤ 0) && decide (0 ≤ h.hi ∧ h.hi ≤ 500)
      else decide (h.lo = 0) && decide (h.hi = 0))

/-! ### PROFILE_WRITE and PROFILE_READ (R189, R191) -/

/-- The number of bytes of a PROFILE_WRITE payload. -/
def profilePayloadLength : Nat := 77

/-- A routing source's number (R184). -/
def sourceCode : RowSource → Nat
  | .blank => 0
  | .banner => 1
  | .clock => 2
  | .lane lane => 3 + lane.val
  | .order k => 13 + k.val

/-- The routing source of a number 0 to 22 (R184). -/
def sourceOf (n : Nat) : RowSource :=
  if n = 0 then .blank
  else if n = 1 then .banner
  else if n = 2 then .clock
  else if n < 13 then .lane ⟨(n - 3) % 10, Nat.mod_lt _ (by decide)⟩
  else .order ⟨(n - 13) % 10, Nat.mod_lt _ (by decide)⟩

/-- The first field of a PROFILE_WRITE payload that fails, with the pad or the row it names (R189). -/
def profileFault (p : List Byte) : Option (Nat × Option Nat) :=
  if p.length ≠ profilePayloadLength then some (0, none)
  else if byteAt p 0 ≠ 25 ∧ byteAt p 0 ≠ 50 then some (1, none)
  else if wordAt p 1 = 0 ∨ 1024 ≤ wordAt p 1 then some (2, none)
  else if 1 < byteAt p 3 then some (3, none)
  else if 3000 < wordAt p 4 then some (4, none)
  else
    match allPads.find? fun pad => decide (100 < byteAt p (6 + pad.val)) with
    | some pad => some (5, some pad.val)
    | none =>
      match allPads.find? fun pad => decide (1 < byteAt p (26 + pad.val)) with
      | some pad => some (6, some pad.val)
      | none =>
        if byteAt p 46 = 0 ∨ 50 < byteAt p 46 then some (7, none)
        else if 50 < byteAt p 47 then some (8, none)
        else if wordAt p 48 = 0 ∨ 1023 < wordAt p 48 then some (9, none)
        else if wordAt p 50 = 0 ∨ 1023 < wordAt p 50 ∨ wordAt p 48 ≤ wordAt p 50 then some (10, none)
        else
          match allRows.find? fun row =>
            decide (22 < byteAt p (52 + 2 * row.val) ∨ 1 < byteAt p (53 + 2 * row.val)) with
          | some row => some (11, some row.val)
          | none => if 1 < byteAt p 76 then some (12, none) else none

/-- The profile of a valid PROFILE_WRITE payload. -/
def profileOf (p : List Byte) : Profile where
  course := if byteAt p 0 = 25 then .m25 else .m50
  installed := lanesOf (wordAt p 1)
  source := if byteAt p 3 = 0 then .internal else .external
  recallWindow := wordAt p 4
  latencies := tab fun pad => byteAt p (6 + pad.val)
  dead := tab fun pad => byteAt p (26 + pad.val) == 1
  qualify := byteAt p 46
  platformLatency := byteAt p 47
  loadedLimit := wordAt p 48
  unloadedLimit := wordAt p 50
  routing := tab fun row => (sourceOf (byteAt p (52 + 2 * row.val)), byteAt p (53 + 2 * row.val) == 1)
  defaultMode := if byteAt p 76 = 0 then .continuous else .onChange

/-- The byte of a course. -/
def courseByte : Course → Byte
  | .m25 => 25
  | .m50 => 50

/-- The byte of a timebase source. -/
def timeSourceByte : TimeSource → Byte
  | .internal => 0
  | .external => 1

/-- The byte of a refresh mode. -/
def refreshByte : RefreshMode → Byte
  | .continuous => 0
  | .onChange => 1

/-- The payload that carries a profile (section 10.6). -/
def profilePayload (q : Profile) : List Byte :=
  [courseByte q.course] ++ lanesBytes q.installed ++ [timeSourceByte q.source] ++
    natBytes 2 q.recallWindow ++ (allPads.map fun pad => BitVec.ofNat 8 q.latencies[pad]) ++
    (allPads.map fun pad => boolByte q.dead[pad]) ++ natBytes 1 q.qualify ++
    natBytes 1 q.platformLatency ++ natBytes 2 q.loadedLimit ++ natBytes 2 q.unloadedLimit ++
    (allRows.map fun row =>
      [BitVec.ofNat 8 (sourceCode (q.routing[row]).1), boolByte (q.routing[row]).2]).flatten ++
    [refreshByte q.defaultMode]

/-- Every field lies in its range of section 11.1 (R188). -/
def Profile.inRange (q : Profile) : Bool :=
  (allLanes.any fun lane => q.installed[lane]) && decide (q.recallWindow ≤ 3000) &&
    (allPads.all fun pad => decide (q.latencies[pad] ≤ 100)) &&
    decide (1 ≤ q.qualify ∧ q.qualify ≤ 50) && decide (q.platformLatency ≤ 50) &&
    decide (1 ≤ q.loadedLimit ∧ q.loadedLimit ≤ 1023) &&
    decide (1 ≤ q.unloadedLimit ∧ q.unloadedLimit < q.loadedLimit)

/-- The fields, 1 to 12, whose values differ between two profiles (R189). -/
def changedFields (a b : Profile) : Vector Bool 12 :=
  ⟨⟨[decide (a.course ≠ b.course), decide (a.installed ≠ b.installed), decide (a.source ≠ b.source),
    decide (a.recallWindow ≠ b.recallWindow), decide (a.latencies ≠ b.latencies),
    decide (a.dead ≠ b.dead), decide (a.qualify ≠ b.qualify),
    decide (a.platformLatency ≠ b.platformLatency), decide (a.loadedLimit ≠ b.loadedLimit),
    decide (a.unloadedLimit ≠ b.unloadedLimit), decide (a.routing ≠ b.routing),
    decide (a.defaultMode ≠ b.defaultMode)]⟩, rfl⟩

end Sys2Proof.Machine
end

