-- ==== Sys2Proof/Machine/Board.lean ====
section
/-!
DEFINITION. The board driver (chapter 9): the text of times, the rows and their sources, the running
order, and the sending of the image.
-/

namespace Sys2Proof.Machine

/-! ### Characters and numbers -/

/-- The space character. -/
def space : Byte := 0x20#8

/-- The character of a decimal digit. -/
def digitChar (n : Nat) : Byte := BitVec.ofNat 8 (48 + n % 10)

/-- Two decimal digits. -/
def twoDigits (n : Nat) : Text := [digitChar (n / 10), digitChar n]

/-- A decimal number without leading zeros, of at most `fuel` digits. -/
def decimalDigits : Nat → Nat → Text
  | 0, _ => []
  | fuel + 1, n => (if n < 10 then [] else decimalDigits fuel (n / 10)) ++ [digitChar n]

/-- A decimal number without leading zeros, below 10^12. -/
def decimal (n : Nat) : Text := decimalDigits 12 n

/-- Right-aligned in a field of `n` characters. -/
def padLeft (n : Nat) (t : Text) : Text := List.replicate (n - t.length) space ++ t

/-- Left-aligned in a field of `n` characters. -/
def padRight (n : Nat) (t : Text) : Text := t ++ List.replicate (n - t.length) space

/-- Minutes, a colon and two digits of seconds, from whole seconds. -/
def minutesText (seconds : Nat) : Text := decimal (seconds / 60) ++ [0x3A#8] ++ twoDigits (seconds % 60)

/-- A lane time in hundredths: with minutes from 6,000 on (R158). -/
def laneTimeText (h : Nat) : Text :=
  (if h < 6000 then decimal (h / 100) else minutesText (h / 100)) ++ [0x2E#8] ++ twoDigits (h % 100)

/-- Hundredths on the clock row: always with minutes (R160). -/
def clockHundredthsText (h : Nat) : Text := minutesText (h / 100) ++ [0x2E#8] ++ twoDigits (h % 100)

/-- The running clock in tenths (R160). -/
def clockTenthsText (t : Nat) : Text := minutesText (t / 10) ++ [0x2E#8, digitChar t]

/-- Metres of a course. -/
def courseMetres : Course → Nat
  | .m25 => 25
  | .m50 => 50

/-- The effective banner: the banner text, or the distance text when it is empty (R24). -/
def effectiveBanner (h : HeatRecord) : Text :=
  if h.banner = [] then decimal (h.lengths * courseMetres h.course) ++ [0x6D#8] else h.banner

/-! ### Rows (R156 to R163) -/

/-- The length marker of a split: L and the length number right-aligned in two positions (R157). -/
def lengthMarker (n : Nat) : Text := [0x4C#8] ++ padLeft 2 (decimal n)

/-- DQ in the marker's three positions, left-aligned: R157 gives it no alignment (log entry 47: DESIGN
CHOICE). -/
def markerDQ : Text := [0x44#8, 0x51#8, space]

/-- NT in the marker's three positions, left-aligned like DQ (log entry 47: DESIGN CHOICE). -/
def markerNT : Text := [0x4E#8, 0x54#8, space]

/-- REV. -/
def markerREV : Text := [0x52#8, 0x45#8, 0x56#8]

/-- CHK. -/
def markerCHK : Text := [0x43#8, 0x48#8, 0x4B#8]

/-- An empty marker. -/
def markerNone : Text := [space, space, space]

/-- The highest-numbered TOUCHED or TIMED record of a lane (R157). -/
def latestSplit (r : LaneRecord) : Option LengthRecord :=
  r.lengths.reverse.find? fun x => x.outcome == .touched || x.outcome == .timed

/-- The split a record shows, in ticks: a turn's pad time, a leg end's official time (R157). -/
def splitTicks (x : LengthRecord) : Nat :=
  match x.outcome with
  | .touched => x.padTime.getD 0
  | _ => x.official.getD 0

/-- The marker of a FINISHED lane that is not disqualified (R158). -/
def finishedMarker (race : RaceState) (r : LaneRecord) : Text :=
  if race = .official ∧ 1 ≤ r.revisions then markerREV
  else if r.reasons.any then markerCHK
  else markerNone

/-- A place in its two positions (R158). -/
def placeText : Option Nat → Text
  | none => [space, space]
  | some p => padLeft 2 (decimal p)

/-- A lane row with the given place, marker, time and label. -/
def laneRowWith (lane : Lane) (place marker time label : Text) : Row :=
  ⟨.lane, digitChar lane.val, place, marker, padLeft 8 time, padRight 16 label⟩

/-- The lane row of a lane: the first line of R157's table that applies. A lane entered in the current
heat that a later PROFILE_WRITE has uninstalled (R21) keeps its row: the entered set alone decides, as R156
lets the installed-lane set not bear on the board (log entry 44: DESIGN CHOICE). -/
def laneRow (race : RaceState) (current : Option HeatRecord) (lane : Lane) (r : LaneRecord) : Row :=
  match current with
  | none => laneRowWith lane (placeText none) markerNone [] []
  | some h =>
    if h.enters lane = false then laneRowWith lane (placeText none) markerNone [] []
    else if r.disqualified ∧ (r.status = .finished ∨ r.status = .closed) then
      laneRowWith lane (placeText none) markerDQ [] r.label
    else
      match r.status with
      | .closed => laneRowWith lane (placeText none) markerNT [] r.label
      | .finished =>
        laneRowWith lane (placeText r.place) (finishedMarker race r)
          ((r.finalTime.map fun t => laneTimeText (hundredths t)).getD []) r.label
      | .racing =>
        match latestSplit r with
        | some x =>
          laneRowWith lane (placeText none) (lengthMarker x.number)
            (laneTimeText (hundredths (splitTicks x))) r.label
        | none => laneRowWith lane (placeText none) markerNone [] r.label
      | _ => laneRowWith lane (placeText none) markerNone [] r.label

/-- The running order (R159). -/
def State.runningOrder (s : State) : List Lane :=
  match s.heat.current with
  | none => []
  | some h =>
    let entered := allLanes.filter h.enters
    match s.heat.race with
    | .idle => []
    | .loaded | .armed | .running => entered
    | .judging | .official =>
      let placed := s.placing.order.map (·.1)
      placed ++ entered.filter fun lane => !(placed.contains lane)

/-- The official hundredths of the lane at place 1 (R160). -/
def State.leadHundredths (s : State) : Option Nat := s.placing.order.head?.map (·.2)

/-- The time text of the clock row (R160). -/
def State.clockText (s : State) : Text :=
  match s.heat.race with
  | .idle | .loaded | .armed => clockTenthsText 0
  | .running =>
    match s.board.hold, s.leadHundredths with
    | .holding _, some h => clockHundredthsText h
    | _, _ => clockTenthsText (tenths s.raceTicks)
  | .judging | .official =>
    match s.leadHundredths with
    | some h => clockHundredthsText h
    | none => clockHundredthsText (s.board.frozen.getD 0)

/-- The banner text in force: the override, or the effective banner of the current heat (R163). -/
def State.bannerText (s : State) : Text :=
  match s.board.override with
  | some t => t
  | none => (s.heat.current.map effectiveBanner).getD []

/-- The content of a row from its source (R156). -/
def State.rowOf (source : RowSource) (s : State) : Row :=
  match source with
  | .blank => .blank
  | .banner =>
    { Row.blank with kind := .banner, text := padRight 32 s.bannerText }
  | .clock => { Row.blank with kind := .clock, time := padLeft 8 s.clockText }
  | .lane lane => laneRow s.heat.race s.heat.current lane s.lanes[lane]
  | .order k =>
    match s.runningOrder[k.val]? with
    | none => .blank
    | some lane => laneRow s.heat.race s.heat.current lane s.lanes[lane]

/-- The image the records give now: the routing table's sources, BLANK where an entry is disabled, and
all BLANK while not configured (R155, R156). -/
def State.imageNow (s : State) : Vector Row 12 :=
  match s.store.inForce with
  | none => tab fun _ => .blank
  | some p => tab fun row => if (p.routing[row]).2 then s.rowOf (p.routing[row]).1 else .blank

/-! ### Sending (R165 to R169) -/

/-- The content of every test frame (R169). -/
def testRow : Row :=
  ⟨.test, 0x38#8, List.replicate 2 0x38#8, List.replicate 3 0x38#8,
    [0x38#8, 0x38#8, 0x3A#8, 0x38#8, 0x38#8, 0x2E#8, 0x38#8, 0x38#8], List.replicate 32 0x38#8⟩

/-- The next row, from 11 back to 0 (R166). -/
def nextRow (row : RowIx) : RowIx := ⟨(row.val + 1) % 12, Nat.mod_lt _ (by decide)⟩

/-- A slot: the frame of the row at the cursor is owed to the line, the cursor advances, and the next
slot is 250 ticks after `slot` (R166). -/
def takeSlot (slot : Nat) (b : Board) : Board :=
  { b with owed := some b.cursor, cursor := nextRow b.cursor, nextSlot := some (slot + Config.slotTicks) }

/-- A full pass in the mode in force (R166, R167). -/
def fullPass (clock : Nat) (b : Board) : Board :=
  match b.mode with
  | some .onChange =>
    { b with pendingRows := tab fun _ => true, periodic := some (clock + Config.passTicks) }
  | some .continuous => takeSlot clock { b with cursor := 0 }
  | none => b

/-- The rows an event changed join the pending set of ON_CHANGE (R155, R167). -/
def joinChanged (before : Vector Row 12) (b : Board) : Board :=
  if b.mode = some .onChange then
    { b with pendingRows := tab fun row => b.pendingRows[row] || decide (before[row] ≠ b.image[row]) }
  else b

/-- The lowest-numbered pending row (R167). -/
def lowestPending (b : Board) : Option RowIx := allRows.find? fun row => b.pendingRows[row]

/-- The frame of a row begins, with the content the row holds now; a test frame while the test is on
(R165, R169). -/
def beginFrame (clock : Nat) (row : RowIx) (b : Board) : Board :=
  { b with line := some ⟨row, if b.test then testRow else b.image[row], clock⟩ }

/-- When the line is free, the frame that is owed begins, or else the lowest pending row's (R165 to
R167). -/
def feedLine (clock : Nat) (b : Board) : Board :=
  if b.line.isSome then b
  else
    match b.owed with
    | some row => beginFrame clock row { b with owed := none }
    | none =>
      match lowestPending b with
      | some row => beginFrame clock row { b with pendingRows := b.pendingRows.set row false }
      | none => b

/-- What an event leaves of the board: the image recomputed, the changed rows and a full pass that is
due taken up in the mode in force, and a free line fed. The line is silent while not configured, and
the image is not sent while the test is on (R155, R167, R169). -/
def boardAfter (clock : Nat) (configured : Bool) (image : Vector Row 12) (b : Board) : Board :=
  let b' := { b with image := image, passDue := false }
  if configured = false then b'
  else if b.test then feedLine clock b'
  else
    let b' := if b.passDue then fullPass clock b' else joinChanged b.image b'
    feedLine clock b'

/-- The board takes up what the event changed (R155). -/
def State.boardSettle (s : State) : State :=
  { s with board := boardAfter s.clock s.configured s.imageNow s.board }

/-- The end of an event: the board takes up what it changed, and its notices are complete. -/
def State.eventEnd (s : State) : State := s.boardSettle.sealNotices

/-- A full pass is due in this event (R167). -/
def State.askPass (s : State) : State := { s with board := { s.board with passDue := true } }

/-- The change of current heat as the board sees it: the override goes, and a full pass is made (R163,
R167). -/
def State.boardNewHeat (s : State) : State :=
  { s with board := { s.board with override := none, passDue := true } }

/-- Another refresh mode is in force: what the old one held is dropped, and a full pass is due (R168). -/
def State.changeMode (mode : RefreshMode) (s : State) : State :=
  { s with board :=
      { s.board with
        mode := some mode, pendingRows := tab fun _ => false, periodic := none
        nextSlot := none, owed := none, cursor := 0, passDue := true } }

/-- BOARD_MODE (R168). While the board test is on it records the mode, and the recorded mode is the mode in
force at once, for STATUS, the reply and the next BOARD_MODE; only what it sends waits for the test to end
(log entry 56: DESIGN CHOICE). -/
def State.handleBoardMode (payload : List Byte) (s : State) : Handled :=
  let setMode := fun (mode : RefreshMode) =>
    if s.configured = false then s.deny .notConfigured
    else if s.board.mode = some mode then s.accept (.boardMode (some mode))
    else
      let s' : State :=
        if s.board.test then { s with board := { s.board with mode := some mode } }
        else s.changeMode mode
      s'.accept (.boardMode (some mode))
  match payload with
  | [byte] =>
    if byte = 0x00#8 then setMode .continuous
    else if byte = 0x01#8 then setMode .onChange
    else s.deny (.badField 1 none)
  | _ => s.deny (.badField 0 none)

/-- The test is turned on: the image's sending is dropped, and test frames begin at row 0 (R169). -/
def State.testOn (s : State) : State :=
  let b := { s.board with test := true, pendingRows := tab fun _ => false, periodic := none, cursor := 0 }
  { s with board := takeSlot s.clock b }

/-- The test is turned off: a full pass of the image in the mode in force (R169). -/
def State.testOff (s : State) : State :=
  { s with board :=
      { s.board with
        test := false, owed := none, nextSlot := none, cursor := 0, passDue := true } }

/-- BOARD_TEST (R169). -/
def State.handleBoardTest (payload : List Byte) (s : State) : Handled :=
  match payload with
  | [byte] =>
    if byte = 0x00#8 then
      if s.configured = false then s.deny .notConfigured
      else (if s.board.test then s.testOff else s).accept (.boardTest false)
    else if byte = 0x01#8 then
      if s.configured = false then s.deny .notConfigured
      else if s.armedOrRunning then s.deny .wrongState
      else (if s.board.test then s else s.testOn).accept (.boardTest true)
    else s.deny (.badField 1 none)
  | _ => s.deny (.badField 0 none)

/-- BOARD_TEXT (R163): a length byte, then the characters. -/
def State.handleBoardText (payload : List Byte) (s : State) : Handled :=
  match payload with
  | [] => s.deny (.badField 0 none)
  | length :: text =>
    if text.length ≠ length.toNat then s.deny (.badField 0 none)
    else if (text.all isPrintable) = false then s.deny (.badField 1 none)
    else
      let override := if text = [] then none else some (text.take 32)
      ({ s with board := { s.board with override := override } } : State).accept
        (.boardText override (decide (32 < text.length)))

end Sys2Proof.Machine
end

