-- ==== Sys2Proof/Machine/Placing.lean ====
section
/-!
DEFINITION. The place order, places and the archive (chapter 8).
-/

namespace Sys2Proof.Machine

/-- Whether an entry stands before another: smaller hundredths, or equal ones and the lower lane
(R137). -/
def orderBefore (p q : Lane × Nat) : Bool := decide (p.2 < q.2 ∨ (p.2 = q.2 ∧ p.1 < q.1))

/-- A lane takes its sorted position in the place order (R137, R139). -/
def insertOrder (e : Lane × Nat) : List (Lane × Nat) → List (Lane × Nat)
  | [] => [e]
  | q :: rest => if orderBefore e q then e :: q :: rest else q :: insertOrder e rest

/-- A lane leaves the place order (R143). -/
def removeOrder (lane : Lane) (order : List (Lane × Nat)) : List (Lane × Nat) :=
  order.filter fun e => e.1 != lane

/-- The hundredths a lane holds in the order. -/
def orderHundredths (order : List (Lane × Nat)) (lane : Lane) : Option Nat :=
  (order.find? fun e => e.1 == lane).map (·.2)

/-- The place of a lane in the order: one plus the number of entries with strictly smaller hundredths;
absent when it is not in the order (R138). -/
def placeIn (order : List (Lane × Nat)) (lane : Lane) : Option Nat :=
  (orderHundredths order lane).map fun h => 1 + (order.filter fun e => decide (e.2 < h)).length

/-- The place changes between two lane tables, in lane order (R140). -/
def placeChanges (before after : Vector LaneRecord 10) : List PlaceChange :=
  (allLanes.filter fun lane => decide ((before[lane]).place ≠ (after[lane]).place)).map fun lane =>
    ⟨lane, (before[lane]).place, (after[lane]).place, (after[lane]).finalTime.map hundredths⟩

/-- The order becomes `order` and every place is recomputed from it (R138). -/
def State.setOrder (order : List (Lane × Nat)) (s : State) : State :=
  { s with
    placing := { s.placing with order := order }
    lanes := tab fun lane => { s.lanes[lane] with place := placeIn order lane } }

/-- A PLACES notice for the places changed since `before`, when there are any (R140). -/
def State.notifyPlaces (cause : PlacesCause) (before : Vector LaneRecord 10) (s : State) : State :=
  match placeChanges before s.lanes with
  | [] => s
  | changes => s.notify (.places cause changes s.placing.order.length)

/-- A change of the order, with its recomputation and its notice (R138, R140). -/
def State.reorder (cause : PlacesCause) (order : List (Lane × Nat)) (s : State) : State :=
  (s.setOrder order).notifyPlaces cause s.lanes

/-- A finished lane enters the place order with its official time (R139). -/
def State.placeFinish (lane : Lane) (official : Nat) (s : State) : State :=
  s.reorder (.finish lane)
    (insertOrder (lane, hundredths official) (removeOrder lane s.placing.order))

/-! ### The archive (R148, R149) -/

/-- The reaction as the archive keeps it (R149). -/
def archiveReaction : Reaction → ArchivedReaction
  | .measured ticks => .measured (signedHundredths ticks) (clamped ticks)
  | .absent reason => .absent reason
  | .notKnown => .none
  | .preStart _ => .none

/-- An exchange as the archive keeps it (R149). -/
def archiveExchange (r : ExchangeRecord) : ArchivedExchange :=
  ⟨r.verdict, r.margin.map fun m => (signedHundredths m, clamped m)⟩

/-- The result of a lane as the lane record stands (R149). -/
def laneResult (lane : Lane) (r : LaneRecord) : LaneResult where
  lane := lane
  status := r.status
  disqualified := r.disqualified
  hundredths := r.finalTime.map hundredths
  source := r.finalSource
  place := r.place
  reaction := archiveReaction r.reaction
  exchanges := r.exchanges.map archiveExchange
  revisions := r.revisions

/-- The lane results of a heat, one per entered lane in lane order (R149). -/
def State.laneResults (h : HeatRecord) (s : State) : List LaneResult :=
  (allLanes.filter h.enters).map fun lane => laneResult lane s.lanes[lane]

/-- A new entry from the current heat and the lane table (R148). -/
def State.newEntry (h : HeatRecord) (s : State) : ArchiveEntry :=
  ⟨h.event, h.heat, h.lengths, h.relay, s.heat.flags, s.laneResults h⟩

/-- A revision copies status, disqualified mark, official hundredths, source, place and revision count
of a lane afresh; the reaction and the exchanges stay (R146, R149). -/
def reviseResult (s : State) (r : LaneResult) : LaneResult :=
  let now := laneResult r.lane s.lanes[r.lane]
  { now with reaction := r.reaction, exchanges := r.exchanges }

/-- The newest entry's lane results are brought up to date in place (R146). -/
def reviseNewest (s : State) : List ArchiveEntry → List ArchiveEntry
  | [] => []
  | [e] => [{ e with results := e.results.map (reviseResult s) }]
  | e :: rest => e :: reviseNewest s rest

/-- The archive changes, and its integrity check value is brought up to date in the same event (R154). -/
def State.setArchive (archive : List ArchiveEntry) (linked : Bool) (s : State) : State :=
  { s with placing :=
      { s.placing with archive := archive, check := Config.checkValue archive, linked := linked } }

/-- Steps 1 to 3 of R148: the oldest of 24 entries goes, the new one comes in newest, and the current
heat is linked to it. -/
def State.appendEntry (h : HeatRecord) (s : State) : State :=
  let kept :=
    if s.placing.archive.length < Config.archiveMax then s.placing.archive else s.placing.archive.drop 1
  s.setArchive (kept ++ [s.newEntry h]) true

/-- An amendment in OFFICIAL is a revision: it is counted, up to 255, and the linked entry is brought up
to date (R146). -/
def State.revise (lane : Lane) (s : State) : State :=
  if s.heat.race = .official then
    let s' := s.updLane lane fun r => { r with revisions := min 255 (r.revisions + 1) }
    if s'.placing.linked then s'.setArchive (reviseNewest s' s'.placing.archive) true else s'
  else s

/-! ### Amendments (R141 to R146) -/

/-- The checks of AMEND that follow the kind's own field: lane, time, race state, lock and the lane's
status (R141, steps 2 to 6). `time` is absent but for SET_TIME. -/
def State.amendRefusal (lane : Nat) (time : Option Nat) (s : State) : Option Denial :=
  if 9 < lane then some (.badField 2 none)
  else if 359999 < time.getD 0 then some (.badField 3 none)
  else if ¬(s.heat.race = .judging ∨ s.heat.race = .official) then some .wrongState
  else if s.heat.race = .official ∧ s.placing.locked = true then some .locked
  else if (s.lanes[lane]?.map (·.status)).getD .idle = .idle then some .wrongState
  else none

/-- The lane a payload byte names, once R141 has found it to be 0 to 9. -/
def laneOf (n : Nat) : Lane := ⟨n % 10, Nat.mod_lt _ (by decide)⟩

/-- SET_TIME's change (R142). -/
def State.amendTime (lane : Lane) (h : Nat) (s : State) : State :=
  let s' := s.updLane lane fun r =>
    { r with
      finalTime := some (limitTicks h), finalSource := .manual, reasons := r.reasons.dropTimes
      status := .finished }
  if (s.lanes[lane]).disqualified then s'
  else s'.setOrder (insertOrder (lane, h) (removeOrder lane s.placing.order))

/-- DQ's change; of a lane already disqualified, none (R143). -/
def State.amendDq (lane : Lane) (s : State) : State :=
  if (s.lanes[lane]).disqualified then s
  else
    let s' := s.updLane lane fun r => { r with disqualified := true }
    s'.setOrder (removeOrder lane s.placing.order)

/-- REINSTATE's change (R144). -/
def State.amendReinstate (lane : Lane) (s : State) : State :=
  let r := s.lanes[lane]
  let s' := s.updLane lane fun r => { r with disqualified := false }
  if r.disqualified then
    match r.status, r.finalTime with
    | .finished, some t => s'.setOrder (insertOrder (lane, hundredths t) (removeOrder lane s.placing.order))
    | _, _ => s'
  else s'

/-- CLEAR_REVIEW's change (R145). -/
def State.amendClearReview (lane : Lane) (s : State) : State :=
  s.updLane lane fun r => { r with reasons := .empty }

/-- The change of an amendment's kind. -/
def State.amendChange (kind : AmendKind) (lane : Lane) (time : Nat) (s : State) : State :=
  match kind with
  | .setTime => s.amendTime lane time
  | .dq => s.amendDq lane
  | .reinstate => s.amendReinstate lane
  | .clearReview => s.amendClearReview lane

/-- An accepted amendment: the change of its kind, the revision in OFFICIAL, the PLACES notice, and the
reply with the lane as it stands after (R140, R141, R146). -/
def State.amend (kind : AmendKind) (lane : Lane) (time : Nat) (s : State) : Handled :=
  let s' := ((s.amendChange kind lane time).revise lane).notifyPlaces (.amendment lane kind) s.lanes
  let revision :=
    if s.heat.race = .official then some ((s'.lanes[lane]).revisions, s.placing.linked) else none
  s'.accept (.amended s'.lanes[lane] revision)

/-- The kind byte of AMEND (section 10.6). -/
def amendKindOf : Nat → Option AmendKind
  | 0 => some .setTime
  | 1 => some .dq
  | 2 => some .reinstate
  | 3 => some .clearReview
  | _ => none

/-- AMEND by placing's rule (R141): five bytes, kind, lane and time. -/
def State.handleAmend (payload : List Byte) (s : State) : Handled :=
  match payload with
  | [kindByte, laneByte, t2, t1, t0] =>
    match amendKindOf kindByte.toNat with
    | none => s.deny (.badField 1 none)
    | some kind =>
      let time := t2.toNat * 65536 + t1.toNat * 256 + t0.toNat
      match s.amendRefusal laneByte.toNat (if kind = .setTime then some time else none) with
      | some denial => s.deny denial
      | none => s.amend kind (laneOf laneByte.toNat) time
  | _ => s.deny (.badField 0 none)

/-- The entered lanes that hold back officialisation, with their reasons (R147). -/
def State.lanesUnderReview (h : HeatRecord) (s : State) : List (Lane × ReviewReasons) :=
  (allLanes.filter fun lane =>
      h.enters lane && !(s.lanes[lane]).disqualified && (s.lanes[lane]).reasons.any).map
    fun lane => (lane, (s.lanes[lane]).reasons)

/-- OFFICIALISE by placing's rule (R147, R148). -/
def State.handleOfficialise (payload : List Byte) (s : State) : Handled :=
  if payload ≠ [] then s.deny (.badField 0 none)
  else if s.heat.race ≠ .judging then s.deny .wrongState
  else
    match s.heat.current with
    | none => s.deny .wrongState
    | some h =>
      match s.lanesUnderReview h with
      | [] =>
        let s' := s.appendEntry h
        let s' := { s' with heat := { s'.heat with race := .official } }
        (s'.notifyHeat .judging .officialise).accept
          (.officialised s'.placing.archive.length
            (decide (Config.archiveMax ≤ s.placing.archive.length)))
      | lanes => s.deny (.reviewPending lanes)

/-- LOCK_RESULTS (R152). -/
def State.handleLockResults (payload : List Byte) (s : State) : Handled :=
  if payload ≠ [] then s.deny (.badField 0 none)
  else
    ({ s with placing := { s.placing with locked := true } } : State).accept
      (.lockSet (!s.placing.locked))

/-- QUERY_ARCHIVE: index 0 is the newest entry (R150). -/
def State.handleQueryArchive (payload : List Byte) (s : State) : Handled :=
  match payload with
  | [index] =>
    match s.placing.archive.reverse[index.toNat]? with
    | none => s.deny .notFound
    | some e =>
      s.accept (.archiveReport e s.placing.archive.length (s.placing.linked && index.toNat == 0))
  | _ => s.deny (.badField 0 none)

/-- ARCHIVE_CLEAR (R151). -/
def State.handleArchiveClear (payload : List Byte) (s : State) : Handled :=
  if payload ≠ [] then s.deny (.badField 0 none)
  else if s.placing.locked then s.deny .locked
  else
    (s.setArchive [] false).accept (.cleared s.placing.archive.length)

end Sys2Proof.Machine
end

