-- ==== Sys2Proof/Machine/Encode.lean ====
section
/-!
DEFINITION. The bytes of the two frames the part sends: the console frame of R184 with the payloads of
replies and notices, and the board row frame of R185; the CRC-16 of R174; and how long each frame
occupies its line (R172, R185).

A name is numbered by its place in its owning rule's list, which is its constructor's place in
Machine/State.lean. A yes or a no takes one byte, 0 or 1 (log entry 20).
-/

namespace Sys2Proof.Machine

/-! ### Values inside a payload (R184) -/

/-- A name's number, in one byte. -/
def nameByte (number : Nat) : List Byte := natBytes 1 number

/-- A yes or a no. -/
def flagByte (b : Bool) : List Byte := [boolByte b]

/-- A time in ticks, 4 bytes, two's complement where it may be negative. -/
def tickBytes (t : Int) : List Byte := natBytes 4 (t % 4294967296).toNat

/-- A master time, 5 bytes. -/
def masterBytes (t : Nat) : List Byte := natBytes 5 (min t Config.masterLimit)

/-- Official hundredths, 3 bytes. -/
def hundredthBytes (h : Nat) : List Byte := natBytes 3 h

/-- Signed hundredths, 2 bytes, and the byte of flags with CLAMPED. -/
def signedBytes (h : Int) (isClamped : Bool) : List Byte :=
  natBytes 2 (h % 65536).toNat ++ flagByte isClamped

/-- A value that may be absent, after its presence byte. -/
def presentBytes {α : Type} (f : α → List Byte) : Option α → List Byte
  | none => [0]
  | some a => 1 :: f a

/-- A text: a length byte and its characters. -/
def textBytes (t : Text) : List Byte := natBytes 1 t.length ++ t

/-- A list whose length is not fixed: a count and its entries. -/
def countedBytes {α : Type} (f : α → List Byte) (l : List α) : List Byte :=
  natBytes 1 l.length ++ (l.map f).flatten

/-- A set as one bit per member, the first least significant, in `n` bytes. -/
def setBytes (n : Nat) (members : List Bool) : List Byte :=
  natBytes n (members.foldr (fun b v => 2 * v + b.toNat) 0)

/-- A set of review reasons. -/
def reasonBytes (r : ReviewReasons) : List Byte :=
  setBytes 1 [r.noPad, r.discrepant, r.noTime, r.earlyStart, r.earlyExchange, r.unjudgedExchange]

/-- A set of length flags. -/
def lengthFlagBytes (f : LengthFlags) : List Byte := setBytes 1 [f.noPad, f.discrepant, f.padDead]

/-- A set of heat flags. -/
def heatFlagBytes (f : HeatFlags) : List Byte := setBytes 1 [f.holdover, f.overtime, f.scannerFault]

/-- An event number and a heat number. -/
def numberBytes (n : Nat × Nat) : List Byte := natBytes 2 n.1 ++ natBytes 1 n.2

/-- A lane number. -/
def laneByte (lane : Lane) : List Byte := natBytes 1 lane.val

/-- A pad, as lane and wall. -/
def padBytes (pad : PadIx) : List Byte := laneByte (padLane pad) ++ nameByte (padWall pad).ctorIdx

/-- A button number, 1 to 3, and its press time. -/
def pressBytes (e : Button × Nat) : List Byte := natBytes 1 (e.1.val + 1) ++ tickBytes e.2

/-- An official time: ticks with their hundredths (R106). -/
def officialBytes (t : Nat) : List Byte := tickBytes t ++ hundredthBytes (hundredths t)

/-- A signed value: ticks, hundredths and CLAMPED (R15). -/
def signedValueBytes (t : Int) : List Byte := tickBytes t ++ signedBytes (signedHundredths t) (clamped t)

/-- A reading. -/
def readingBytes (r : Reading) : List Byte := natBytes 2 r.val

/-- A self-test: Z, F and PASS or FAIL. -/
def testBytes (t : SelfTest) : List Byte :=
  readingBytes t.zero ++ readingBytes t.full ++ nameByte (if t.pass then 0 else 1)

/-- A reading with its sample time. -/
def sampleBytes (r : Reading × Nat) : List Byte := readingBytes r.1 ++ masterBytes r.2

/-- A reaction in a REACTION notice: measured, or absent with its reason (R124). It is sent as a value that
may be absent, 1 when it is measured and 0 when it is absent, with the reason behind the 0; R74's numbers of
the forms stand in QUERY_LANE only (R184; log entry 51: DESIGN CHOICE). -/
def settledReactionBytes : Reaction → List Byte
  | .measured ticks => 1 :: signedValueBytes ticks
  | .absent reason => 0 :: nameByte reason.ctorIdx
  | _ => [0]

/-- A reaction in the form in which it stands, numbered in R74's order; the form says what stands behind it,
without a presence byte (R74, R95; log entry 50: DESIGN CHOICE). -/
def reactionBytes (r : Reaction) : List Byte :=
  nameByte r.ctorIdx ++
    match r with
    | .notKnown => []
    | .preStart departure => natBytes 5 (departure % 1099511627776).toNat
    | .measured ticks => signedValueBytes ticks
    | .absent reason => nameByte reason.ctorIdx

/-- An exchange record in the order of section 7.5: leg, leg-end state, incoming touch, departure, margin,
verdict. R95's list leaves the leg-end state out, and section 7.5 says that QUERY_LANE reports it with the
record; its place in the record's bytes is the model's (log entry 43: DESIGN CHOICE). -/
def exchangeBytes (e : ExchangeRecord) : List Byte :=
  natBytes 1 e.leg ++ nameByte e.legEnd.ctorIdx ++ presentBytes (fun t : Nat => tickBytes t) e.incoming ++
    presentBytes tickBytes e.departure ++ presentBytes signedValueBytes e.margin ++
    nameByte e.verdict.ctorIdx

/-- A length record (R77). -/
def lengthBytes (r : LengthRecord) : List Byte :=
  natBytes 1 r.number ++ nameByte r.wall.ctorIdx ++ nameByte r.kind.ctorIdx ++
    nameByte r.outcome.ctorIdx ++ presentBytes (fun t : Nat => tickBytes t) r.padTime ++
    countedBytes pressBytes r.buttons ++ presentBytes (fun t : Nat => tickBytes t) r.backup ++
    presentBytes officialBytes r.official ++ nameByte r.source.ctorIdx ++ lengthFlagBytes r.flags

/-- A finish window (R85). Its pad touch's latency takes one byte, as a number of the range 0 to 100 and
not as a time in ticks (log entry 43: DESIGN CHOICE). -/
def windowBytes (w : FinishWindow) : List Byte :=
  tickBytes w.openedBy ++ tickBytes w.closesAt ++ tickBytes w.gateOpen ++
    presentBytes (fun t : PadTouch => tickBytes t.time ++ tickBytes t.raw ++ natBytes 1 t.latency) w.pad ++
    countedBytes pressBytes w.buttons

/-- A lane record's fields in the order of R74, without the finish window and the length list, which are
items of the reply of their own behind it (R95). R95 gives the final official time and the gate base 'with
the gate-open time' and does not say where in the record's bytes that time stands: directly behind the gate
base, by the model's choice (log entry 57: DESIGN CHOICE). -/
def laneRecordBytes (r : LaneRecord) (gate : Nat) : List Byte :=
  nameByte r.status.ctorIdx ++ flagByte r.disqualified ++ reasonBytes r.reasons ++ textBytes r.label ++
    natBytes 1 r.leg ++ natBytes 1 r.expected ++ tickBytes r.gateBase ++ tickBytes gate ++
    reactionBytes r.reaction ++ natBytes 1 r.departures ++ countedBytes exchangeBytes r.exchanges ++
    presentBytes officialBytes r.finalTime ++ nameByte r.finalSource.ctorIdx ++
    presentBytes (natBytes 1) r.place ++ natBytes 1 r.revisions

/-- A heat record's fields 1 to 14 and its course (R18, R31). -/
def heatRecordBytes (h : HeatRecord) : List Byte :=
  numberBytes (h.event, h.heat) ++ natBytes 1 h.lengths ++ flagByte h.relay ++
    nameByte h.startType.ctorIdx ++ lanesBytes h.entered ++
    (allLanes.map fun lane => textBytes h.labels[lane]).flatten ++ textBytes h.banner ++
    natBytes 2 h.inhibit ++ natBytes 2 h.buttonWindow ++ natBytes 1 h.discrepancy ++ [signedByte h.lo] ++
    natBytes 2 h.hi.toNat ++ nameByte h.notify.ctorIdx ++ [courseByte h.course]

/-- A summary entry of QUERY_QUEUE (R31). -/
def summaryBytes (e : Nat × HeatRecord) : List Byte :=
  natBytes 1 e.1 ++ numberBytes (e.2.event, e.2.heat) ++ natBytes 1 e.2.lengths ++ flagByte e.2.relay ++
    nameByte e.2.startType.ctorIdx ++ [courseByte e.2.course] ++ lanesBytes e.2.entered

/-- An exchange of the archive (R149). -/
def archivedExchangeBytes (e : ArchivedExchange) : List Byte :=
  nameByte e.verdict.ctorIdx ++ presentBytes (fun m : Int × Bool => signedBytes m.1 m.2) e.margin

/-- A reaction of the archive, as in `settledReactionBytes` (R149; log entry 51: DESIGN CHOICE). -/
def archivedReactionBytes : ArchivedReaction → List Byte
  | .measured h isClamped => 1 :: signedBytes h isClamped
  | .absent reason => 0 :: nameByte reason.ctorIdx
  | .none => [0]

/-- A lane result of the archive (R149). R149 lists the status as 'FINISHED or CLOSED' and R74 as five names;
the status has its number of R74, so 3 or 4 (R184; log entry 58: DESIGN CHOICE). -/
def laneResultBytes (r : LaneResult) : List Byte :=
  laneByte r.lane ++ nameByte r.status.ctorIdx ++ flagByte r.disqualified ++
    presentBytes hundredthBytes r.hundredths ++ nameByte r.source.ctorIdx ++
    presentBytes (natBytes 1) r.place ++ archivedReactionBytes r.reaction ++
    countedBytes archivedExchangeBytes r.exchanges ++ natBytes 1 r.revisions

/-- An archive entry (R149). -/
def entryBytes (e : ArchiveEntry) : List Byte :=
  numberBytes (e.event, e.heat) ++ natBytes 1 e.lengths ++ flagByte e.relay ++ heatFlagBytes e.flags ++
    countedBytes laneResultBytes e.results

/-! ### The STATUS reply, chapter by chapter (R182) -/

/-- The timebase's part (R16). 'Not monitored', the window indication of the INTERNAL source, is sent as an
absent value, like that of an EXTERNAL source without a window yet; R16 and R184 do not say whether it is a
name of its own (log entry 54: DESIGN CHOICE). -/
def timebaseStatus (r : StatusReport) : List Byte :=
  nameByte r.timebase.ctorIdx ++ nameByte r.source.ctorIdx ++ masterBytes r.master ++
    natBytes 2 r.goodCount ++ presentBytes flagByte r.lastWindow ++ presentBytes flagByte r.holdover

/-- The heat controller's part (R32). -/
def heatStatus (r : StatusReport) : List Byte :=
  nameByte r.race.ctorIdx ++ presentBytes numberBytes r.numbers ++ natBytes 1 r.queued ++
    presentBytes heatFlagBytes r.flags

/-- The heat cycle's part (R52). The guard end and whether the stamp is before it stand behind one presence
byte (R184; log entry 43: DESIGN CHOICE). -/
def cycleStatus (r : StatusReport) : List Byte :=
  presentBytes masterBytes r.setMark ++ presentBytes masterBytes r.startMark ++
    presentBytes tickBytes r.raceTime ++
    presentBytes (fun g : Nat × Bool => masterBytes g.1 ++ flagByte g.2) r.guardEnd ++
    flagByte r.padsArmed

/-- The step of a pad in leveling: WAITING or DRIVING (section 4.6). -/
def LevelStep.number : LevelStep → Nat
  | .waiting _ => 0
  | .driving _ _ => 1

/-- The pad in turn and its step, while MEASURING (R72). -/
def LevelPhase.turn : LevelPhase → Option (PadIx × LevelStep)
  | .measuring pad step _ => some (pad, step)
  | _ => none

/-- The leveling phase; while MEASURING the pad in turn, its step and the results so far (R72). Values
that are absent together stand behind one presence byte (R184; log entry 43: DESIGN CHOICE). -/
def levelBytes (phase : LevelPhase) (count : Nat) : List Byte :=
  nameByte phase.ctorIdx ++
    presentBytes
      (fun t : PadIx × LevelStep => padBytes t.1 ++ nameByte t.2.number ++ natBytes 1 count) phase.turn

/-- Wall capture's part (R72). A line level is the number 0 for open and 1 for closed, in section 4.2's
order; R12 names closed first (log entry 46: DESIGN CHOICE). -/
def wallStatus (r : StatusReport) : List Byte :=
  (r.pads.toList.map fun p =>
    nameByte p.level.ctorIdx ++ nameByte p.capture.ctorIdx ++ natBytes 1 p.splash).flatten ++
  (r.buttons.toList.map fun b => nameByte b.1.ctorIdx ++ flagByte b.2).flatten ++
  levelBytes r.level r.levelCount

/-- Lane accounting's part (R96). The presence byte of the closes-at says whether a window is open (R184; log
entry 50: DESIGN CHOICE). -/
def laneStatus (r : StatusReport) : List Byte :=
  (r.lanes.toList.map fun l =>
    nameByte l.status.ctorIdx ++ flagByte l.disqualified ++ flagByte l.reasons.any ++
      natBytes 1 l.leg ++ natBytes 1 l.expected ++ natBytes 1 l.lengths.length ++
      presentBytes (fun w : FinishWindow => tickBytes w.closesAt) l.window).flatten

/-- A load state that may be none. -/
def loadBytes : Option LoadState → List Byte := presentBytes fun l => nameByte l.ctorIdx

/-- The scanner's part (R135). The settling end stands behind a presence byte (R184; log entry 50: DESIGN
CHOICE). -/
def scannerStatus (r : StatusReport) : List Byte :=
  nameByte r.scanner.ctorIdx ++ presentBytes masterBytes r.settlingEnd ++
    presentBytes testBytes r.lastTest ++ flagByte r.probing ++
    (r.channels.toList.map fun c =>
      loadBytes c.load ++ presentBytes sampleBytes c.latest ++ loadBytes c.startLoad).flatten

/-- The lanes under review, with whether each is disqualified (R153). -/
def reviewBytes (r : StatusReport) : List Byte :=
  countedBytes (fun lane : Lane => laneByte lane ++ flagByte (r.lanes[lane]).disqualified)
    (allLanes.filter fun lane => (r.lanes[lane]).reasons.any)

/-- Placing's part (R153). -/
def placingStatus (r : StatusReport) : List Byte :=
  countedBytes
      (fun e : Lane × Nat => laneByte e.1 ++ hundredthBytes e.2 ++
        natBytes 1 ((placeIn r.order e.1).getD 0)) r.order ++
    flagByte r.locked ++ natBytes 1 r.archived ++ flagByte r.linked ++ reviewBytes r

/-- A row kind's byte (R185). -/
def rowKindByte : RowKind → Byte
  | .blank => 0x00
  | .banner => 0x01
  | .clock => 0x02
  | .lane => 0x03
  | .test => 0x04

/-- The lane a row shows, for a LANE row (R170). -/
def Row.shownLane (row : Row) : Option Byte := if row.kind = .lane then some (row.laneChar - 48) else none

/-- A row in STATUS: its kind and, for a LANE row, the lane it shows, behind a presence byte (R170, R184; log
entry 50: DESIGN CHOICE). -/
def rowStatus (row : Row) : List Byte :=
  rowKindByte row.kind :: presentBytes (fun b : Byte => [b]) row.shownLane

/-- What the refresh mode in force adds: in CONTINUOUS the cursor, in ON_CHANGE the pending rows and the
next full pass, each behind a presence byte (R170, R184; log entry 50: DESIGN CHOICE). While the board test
is on R169 has dropped the image's cursor and no rule says what STATUS gives for it: it is the cursor of the
test frames then (log entry 52: DESIGN CHOICE). -/
def refreshStatus (r : StatusReport) : List Byte :=
  presentBytes (fun _ => natBytes 1 r.cursor.val) (r.refresh.filter (· == .continuous)) ++
    presentBytes (fun _ => setBytes 2 r.pendingRows.toList ++ presentBytes masterBytes r.periodic)
      (r.refresh.filter (· == .onChange))

/-- The hold end while HOLDING (R161). -/
def holdEnd : Hold → Option Nat
  | .holding ends => some ends
  | _ => none

/-- The first-finish hold with its hold end while HOLDING, behind a presence byte (R170, R184; log entry 50:
DESIGN CHOICE). -/
def holdBytes (h : Hold) : List Byte := nameByte h.ctorIdx ++ presentBytes masterBytes (holdEnd h)

/-- The board driver's part (R170). -/
def boardStatus (r : StatusReport) : List Byte :=
  flagByte r.silent ++ presentBytes (fun m => [refreshByte m]) r.refresh ++ flagByte r.test ++
    presentBytes textBytes r.override ++ holdBytes r.hold ++ presentBytes hundredthBytes r.frozen ++
    refreshStatus r ++ (r.image.toList.map rowStatus).flatten

/-- The profile store's part (R191); the setup window is reported OPEN or CLOSED (R190). The presence byte of
the completion time says whether a write is in flight (R184; log entry 50: DESIGN CHOICE). -/
def storeStatus (r : StatusReport) : List Byte :=
  nameByte r.mode.ctorIdx ++ flagByte r.configured ++ presentBytes masterBytes r.writeDone ++
    nameByte (if r.setupOpen then 0 else 1) ++ nameByte r.record.kind.ctorIdx ++
    nameByte r.record.cause.ctorIdx ++ flagByte r.record.profileOk ++ flagByte r.record.archiveOk

/-- The link's part (R182). -/
def linkStatus (r : StatusReport) : List Byte :=
  natBytes 1 r.buffered ++ natBytes 1 r.replies ++ flagByte r.probeAwaited ++ natBytes 1 r.notices ++
    flagByte r.gap ++ natBytes 2 r.discards

/-- The STATUS reply: chapters 1 to 9, the profile store, the link (R182). -/
def statusBytes (r : StatusReport) : List Byte :=
  timebaseStatus r ++ heatStatus r ++ cycleStatus r ++ wallStatus r ++ laneStatus r ++ scannerStatus r ++
    placingStatus r ++ boardStatus r ++ storeStatus r ++ linkStatus r

/-! ### Replies -/

/-- The content of an accepted request's reply, field by field of its owning rule. Three points that R184
leaves open are the model's, all in log entry 50 (DESIGN CHOICE): the placement of LOAD_HEAT says whether the
position and the count follow, so they stand without presence bytes (R26); the revision count of AMEND and
whether the entry was updated stand behind one presence byte (R141); the test and each reading of a probe
stand behind presence bytes of their own, behind the result COMPLETE too (R134). -/
def contentBytes : Content → List Byte
  | .empty => []
  | .placedCurrent => [0]
  | .placedQueued position count => 1 :: (natBytes 1 position ++ natBytes 1 count)
  | .withdrawn position left => natBytes 1 position ++ natBytes 1 left
  | .newCurrent numbers => presentBytes numberBytes numbers
  | .queueSummary race entries hasCurrent =>
    let first := if hasCurrent then 0 else 1
    nameByte race.ctorIdx ++
      countedBytes summaryBytes (entries.mapIdx fun i h => (i + first, h))
  | .queueRecord record banner flags =>
    heatRecordBytes record ++ textBytes banner ++ presentBytes heatFlagBytes flags
  | .armed powered => nameByte RaceState.armed.ctorIdx ++ flagByte powered
  | .started mark => masterBytes mark
  | .laneClosed lane status => laneByte lane ++ nameByte status.ctorIdx
  | .amended r revision =>
    nameByte r.status.ctorIdx ++ flagByte r.disqualified ++ presentBytes officialBytes r.finalTime ++
      nameByte r.finalSource.ctorIdx ++ presentBytes (natBytes 1) r.place ++ reasonBytes r.reasons ++
      presentBytes (fun v : Nat × Bool => natBytes 1 v.1 ++ flagByte v.2) revision
  | .officialised count removed => natBytes 1 count ++ flagByte removed
  | .lockSet byThis => 1 :: flagByte byThis
  | .statusReport report => statusBytes report
  | .laneReport race r gate records =>
    nameByte race.ctorIdx ++ laneRecordBytes r gate ++ presentBytes windowBytes r.window ++
      natBytes 1 r.lengths.length ++ countedBytes lengthBytes records
  | .archiveReport entry count linked => entryBytes entry ++ natBytes 1 count ++ flagByte linked
  | .cleared count => natBytes 1 count
  | .boardMode mode => (mode.map refreshByte).toList
  | .boardTest on => flagByte on
  | .boardText override cut => presentBytes textBytes override ++ flagByte cut
  | .timebase state source master =>
    nameByte state.ctorIdx ++ nameByte source.ctorIdx ++ masterBytes master
  | .profile profile => profilePayload profile
  | .leveling pads => natBytes 1 pads
  | .probed complete test readings =>
    nameByte (if complete then 0 else 1) ++ presentBytes testBytes test ++
      (readings.toList.map (presentBytes sampleBytes)).flatten

/-- A refusal: its code and what follows it (section 10.5). The field that PROTECTED names stands without a
presence byte, since the request says whether there is one (R190; log entry 50: DESIGN CHOICE). -/
def denialBytes : Denial → List Byte
  | .wrongState => [0x01]
  | .badField field detail =>
    0x02 :: (natBytes 1 field ++ [(detail.map (BitVec.ofNat 8)).getD 0xFF])
  | .duplicate => [0x03]
  | .queueFull => [0x04]
  | .notFound => [0x05]
  | .busy => [0x06]
  | .notReady => [0x07]
  | .notConfigured => [0x08]
  | .guarded field => 0x09 :: (field.map (BitVec.ofNat 8)).toList
  | .locked => [0x0A]
  | .tooLate => [0x0B]
  | .reviewPending lanes =>
    0x0C :: countedBytes (fun e : Lane × ReviewReasons => laneByte e.1 ++ reasonBytes e.2) lanes
  | .testActive => [0x0D]
  | .unknownRequest kind => [0x0E, kind]

/-- The payload of a reply: the outcome byte and its content. -/
def answerBytes : Answer → List Byte
  | .accepted content => 0x00 :: contentBytes content
  | .refused denial => denialBytes denial

/-! ### Notices (R181) -/

/-- What a SPLIT notice carries for a record's outcome (R94). The outcome says which fields follow, so they
stand without presence bytes (R184; log entry 50: DESIGN CHOICE). -/
def splitBytes (r : LengthRecord) : List Byte :=
  match r.outcome with
  | .touched => officialBytes (r.padTime.getD 0)
  | .timed =>
    officialBytes (r.official.getD 0) ++ nameByte r.source.ctorIdx ++ lengthFlagBytes r.flags ++
      presentBytes (fun t : Nat => tickBytes t) r.padTime ++
      presentBytes (fun t : Nat => tickBytes t) r.backup
  | _ => []

/-- The notice kind codes (section 10.5). -/
def noticeKind : NoticeBody → Byte
  | .heatState .. => 0x41
  | .split .. => 0x42
  | .finish .. => 0x43
  | .exchange .. => 0x44
  | .reaction .. => 0x45
  | .places .. => 0x46
  | .timebase .. => 0x47
  | .scanner .. => 0x48
  | .profileDone .. => 0x49
  | .levelDone .. => 0x4A

/-- The cause of a PLACES notice with what it names (R140). The cause says whether a lane and a kind follow,
so they stand without presence bytes (R184; log entry 43: DESIGN CHOICE). -/
def placesCauseBytes : PlacesCause → List Byte
  | .finish lane => 0 :: laneByte lane
  | .amendment lane kind => 1 :: (laneByte lane ++ nameByte kind.ctorIdx)
  | .recall => [2]

/-- A lane of a PLACES notice (R140). -/
def placeChangeBytes (c : PlaceChange) : List Byte :=
  laneByte c.lane ++ presentBytes (natBytes 1) c.before ++ presentBytes (natBytes 1) c.after ++
    presentBytes hundredthBytes c.hundredths

/-- A lane of a REACTION notice (R124). -/
def reactionEntryBytes (e : ReactionEntry) : List Byte :=
  laneByte e.lane ++ settledReactionBytes e.reaction ++ loadBytes e.startLoad ++ reasonBytes e.reasons

/-- A leveling result: a latency with its value, DEAD or BUSY_PAD (R70). The latency takes one byte, as in
`windowBytes` (log entry 43: DESIGN CHOICE), and stands without a presence byte (log entry 50: DESIGN
CHOICE). -/
def levelResultBytes (r : PadIx × LevelResult) : List Byte :=
  padBytes r.1 ++
    match r.2 with
    | .latency v => 0 :: natBytes 1 v
    | .dead => [1]
    | .busyPad => [2]

/-- The content of a notice after its head, field by field of its owning rule. In FINISH the number of
presses k stands with the backup time, and is absent with it (R110; log entry 43: DESIGN CHOICE). The source
of a FINISH, a SPLIT and a length record has its number of R74 and R77 where R110 names PAD and BACKUP only
(log entry 58: DESIGN CHOICE). -/
def noticeBytes : NoticeBody → List Byte
  | .heatState new previous cause numbers flags startMark guardEnd =>
    nameByte new.ctorIdx ++ nameByte previous.ctorIdx ++ nameByte cause.ctorIdx ++
      presentBytes numberBytes numbers ++ heatFlagBytes flags ++ presentBytes masterBytes startMark ++
      presentBytes masterBytes guardEnd
  | .split lane r leg =>
    laneByte lane ++ natBytes 1 r.number ++ nameByte r.wall.ctorIdx ++ nameByte r.kind.ctorIdx ++
      nameByte r.outcome.ctorIdx ++ natBytes 1 leg ++ splitBytes r
  | .finish lane label r leg reasons cause =>
    laneByte lane ++ textBytes label ++ natBytes 1 r.number ++ natBytes 1 leg ++
      nameByte r.outcome.ctorIdx ++ officialBytes (r.official.getD 0) ++ nameByte r.source.ctorIdx ++
      lengthFlagBytes r.flags ++ presentBytes (fun t : Nat => tickBytes t) r.padTime ++
      presentBytes (fun t : Nat => tickBytes t ++ natBytes 1 r.buttons.length) r.backup ++
      countedBytes pressBytes r.buttons ++ reasonBytes reasons ++ nameByte cause.ctorIdx
  | .exchange lane e cause reasons =>
    laneByte lane ++ natBytes 1 e.leg ++ nameByte e.verdict.ctorIdx ++ nameByte e.legEnd.ctorIdx ++
      presentBytes (fun t : Nat => tickBytes t) e.incoming ++ presentBytes tickBytes e.departure ++
      presentBytes signedValueBytes e.margin ++ nameByte cause.ctorIdx ++ reasonBytes reasons
  | .reaction entries => countedBytes reactionEntryBytes entries
  | .places cause changes count =>
    placesCauseBytes cause ++ countedBytes placeChangeBytes changes ++ natBytes 1 count
  | .timebase new previous source cause =>
    nameByte new.ctorIdx ++ nameByte previous.ctorIdx ++ nameByte source.ctorIdx ++
      nameByte cause.ctorIdx
  | .scanner ready zero full event heat =>
    nameByte (if ready then 0 else 1) ++ readingBytes zero ++ readingBytes full ++
      numberBytes (event, heat)
  | .profileDone changed became => setBytes 2 changed.toList ++ flagByte became
  | .levelDone complete results =>
    nameByte (if complete then 0 else 1) ++ countedBytes levelResultBytes results

/-! ### The console frame (R174, R184) -/

/-- The kind code of a request (section 10.5). -/
def RequestKind.code : RequestKind → Byte
  | .loadHeat => 0x01
  | .withdrawHeat => 0x02
  | .queryQueue => 0x03
  | .arm => 0x04
  | .disarm => 0x05
  | .start => 0x06
  | .recall => 0x07
  | .endHeat => 0x08
  | .closeLane => 0x09
  | .nextHeat => 0x0A
  | .amend => 0x0B
  | .officialise => 0x0C
  | .lockResults => 0x0D
  | .status => 0x0E
  | .queryLane => 0x0F
  | .queryArchive => 0x10
  | .archiveClear => 0x11
  | .boardMode => 0x12
  | .boardTest => 0x13
  | .boardText => 0x14
  | .timebaseRestart => 0x15
  | .profileRead => 0x16
  | .profileWrite => 0x17
  | .levelPads => 0x18
  | .probeBlocks => 0x19
  | .restart => 0x1A

/-- The requests in the order of their kind codes. -/
def allRequestKinds : List RequestKind :=
  [.loadHeat, .withdrawHeat, .queryQueue, .arm, .disarm, .start, .recall, .endHeat, .closeLane,
    .nextHeat, .amend, .officialise, .lockResults, .status, .queryLane, .queryArchive, .archiveClear,
    .boardMode, .boardTest, .boardText, .timebaseRestart, .profileRead, .profileWrite, .levelPads,
    .probeBlocks, .restart]

/-- The request a kind byte names (section 10.5). -/
def requestKindOf (kind : Byte) : Option RequestKind := allRequestKinds.find? fun k => k.code == kind

/-- One bit of the CRC-16 with generator x^16 + x^12 + x^5 + 1, most significant bit first (R174). -/
def crcBit (c : BitVec 16) : BitVec 16 := if c.msb then (c <<< 1) ^^^ 0x1021#16 else c <<< 1

/-- One byte of the CRC-16. -/
def crcByte (c : BitVec 16) (b : Byte) : BitVec 16 :=
  crcBit (crcBit (crcBit (crcBit (crcBit (crcBit (crcBit (crcBit
    (c ^^^ (b.setWidth 16 <<< 8)))))))))

/-- The CRC-16 over some bytes, from the initial value 0xFFFF (R174). -/
def crc16 (bytes : List Byte) : BitVec 16 := bytes.foldl crcByte 0xFFFF#16

/-- The console frame of a kind, a tag and a payload (R184). -/
def consoleFrame (kind tag : Byte) (payload : List Byte) : List Byte :=
  let body := [kind, tag] ++ natBytes 2 payload.length ++ payload
  0xA5 :: (body ++ natBytes 2 (crc16 body).toNat)

/-- The frame of a reply: the request's kind with 0x80 added, or the generic reply kind 0xFF (R175,
R176). -/
def replyFrame (r : Reply) : List Byte :=
  consoleFrame ((r.kind.map fun k => k.code + 0x80).getD 0xFF) r.tag (answerBytes r.answer)

/-- The frame of a notice: tag 0, the creation master time, the flags byte with GAP, the content
(R181). -/
def noticeFrame (n : Notice) (gap : Bool) : List Byte :=
  consoleFrame (noticeKind n.body) 0 (masterBytes n.created ++ flagByte gap ++ noticeBytes n.body)

/-- The bytes the transmitter sends for a message. -/
def messageFrame : Message → List Byte
  | .reply r => replyFrame r
  | .notice n gap => noticeFrame n gap

/-- The whole ticks a console frame of `n` bytes occupies the line: ten bit times a byte at 230,400
bit/s, 125/288 of a tick a byte (R172). -/
def consoleTicks (n : Nat) : Nat := n * 125 / 288

/-! ### The board row frame (R185) -/

/-- The checksum: the two's complement of the sum of the bytes (R185). -/
def checksum (bytes : List Byte) : Byte := -(bytes.foldl (· + ·) 0)

/-- The frame of a row (R185). -/
def rowFrame (f : BoardFrame) : List Byte :=
  let c := f.content
  let body := [BitVec.ofNat 8 f.row.val, rowKindByte c.kind, c.laneChar] ++ c.place ++ c.marker ++ c.time ++ c.text
  0x5A :: (body ++ [checksum body])

/-- The whole ticks a row frame of `n` bytes occupies the board line: ten bit times a byte at 115,200
bit/s, 125/144 of a tick a byte (R185). -/
def boardTicks (n : Nat) : Nat := n * 125 / 144

end Sys2Proof.Machine
end

