-- ==== Sys2Proof/Machine/Scanner.lean ====
section
/-!
DEFINITION. The platform scanner's own state (sections 7.1 to 7.3, 7.6): power, settling, self-test,
the sweep and the channels.
-/

namespace Sys2Proof.Machine

/-- OFF is left for SETTLING: the load cells are powered, and settle for 200 ticks (R114). -/
def State.powerScanner (s : State) : State :=
  { s with scanner :=
      { s.scanner with state := .settling, settlingEnd := some (s.clock + Config.settlingTicks) } }

/-- The scanner goes to OFF: every channel loses its load state, latest reading and start load, and the
last test is kept (R116). -/
def State.scannerOff (s : State) : State :=
  { s with scanner :=
      { s.scanner with
        state := .off, settlingEnd := none, sweepStart := none
        channels := tab fun _ => ⟨none, none, none⟩
        probe := none, probeTest := none, probeReadings := tab fun _ => none } }

/-- The self-test's outcome: it passes when Z is at most 16 and F is at least 1007 (R115). -/
def selfTest (zero full : Reading) : SelfTest :=
  ⟨zero, full, decide (zero.val ≤ Config.zeroMax ∧ Config.fullMin ≤ full.val)⟩

/-- The scanner enters SCANNING; its first sweep begins in the next tick (R115). -/
def State.beginScanning (s : State) : State :=
  { s with scanner :=
      { s.scanner with state := .scanning, settlingEnd := none, sweepStart := some (s.clock + 1) } }

/-- The sample time of a channel's first conversion at or after `moment`, in sweeps of 5 ticks that
begin at `first`: channels 2j and 2j + 1 complete in tick j of a sweep (R113). -/
def sampleTime (first : Nat) (lane : Lane) (moment : Nat) : Nat :=
  let base := first + lane.val / 2
  base + (moment - base + (Config.sweepTicks - 1)) / Config.sweepTicks * Config.sweepTicks

/-- The next conversion of a channel at or after `moment`: one not yet taken (R113). -/
def Channel.nextSample (c : Channel) (first : Nat) (lane : Lane) (moment : Nat) : Nat :=
  match c.latest with
  | none => sampleTime first lane moment
  | some (_, last) => sampleTime first lane (max moment (last + 1))

/-- The load state a reading gives, by the profile's limits: the first after the scanner enters
SCANNING, then each later one by the state before it (R117). -/
def nextLoad (profile : Profile) (load : Option LoadState) (reading : Reading) : LoadState :=
  match load with
  | none => if profile.loadedLimit ≤ reading.val then .loaded else .unloaded
  | some .unloaded => if profile.loadedLimit ≤ reading.val then .loaded else .unloaded
  | some .loaded => if reading.val < profile.unloadedLimit then .unloaded else .loaded

/-- A channel takes a reading (R117). -/
def State.takeReading (profile : Profile) (lane : Lane) (reading : Reading) (time : Nat) (s : State) :
    State :=
  let c := s.scanner.channels[lane]
  { s with scanner :=
      { s.scanner with
        channels := s.scanner.channels.set lane
          { c with load := some (nextLoad profile c.load reading), latest := some (reading, time) } } }

/-- A probe's conversion of a channel; a conversion already taken stands (R134). -/
def State.takeProbeReading (lane : Lane) (reading : Reading) (s : State) : State :=
  match s.scanner.probeReadings[lane], s.scanner.sweepStart with
  | none, some first =>
    { s with scanner :=
        { s.scanner with
          probeReadings := s.scanner.probeReadings.set lane
            (some (reading, first + lane.val / 2)) } }
  | _, _ => s

/-- All ten conversions of the probe's sweep are taken. -/
def State.probeSwept (s : State) : Bool := allLanes.all fun lane => (s.scanner.probeReadings[lane]).isSome

/-- The probe ends: its deferred reply carries what has been taken, and the scanner goes to OFF
(R134, R177). R178's list holds at most one deferred reply and does not say what becomes of a second one,
made while the first still waits; both stand in the list here (log entry 48: DESIGN CHOICE). -/
def State.endProbe (complete : Bool) (s : State) : State :=
  match s.scanner.probe with
  | none => s
  | some tag =>
    State.scannerOff
      (s.pushReply ⟨.deferred, some .probeBlocks, tag,
        .accepted (.probed complete s.scanner.probeTest s.scanner.probeReadings)⟩)

/-- The start loads at a START: the load states when the scanner is SCANNING, else none (R122). -/
def State.setStartLoads (s : State) : State :=
  { s with scanner :=
      { s.scanner with
        channels := tab fun lane =>
          let c := s.scanner.channels[lane]
          { c with startLoad := if s.scanner.state = .scanning then c.load else none } } }

end Sys2Proof.Machine
end

