-- ==== Sys2Proof/Machine/Exchange.lean ====
section
/-!
DEFINITION. The exchange judge (sections 7.4 and 7.5): departures, reactions and relay exchanges.
-/

namespace Sys2Proof.Machine

/-! ### Reactions -/

/-- The entry of a lane in a REACTION notice (R124). -/
def State.reactionEntry (s : State) (lane : Lane) : ReactionEntry :=
  ⟨lane, (s.lanes[lane]).reaction, (s.scanner.channels[lane]).startLoad, (s.lanes[lane]).reasons⟩

/-- A REACTION notice for the lanes settled in one event, when there are any (R124). -/
def State.notifyReactions (lanes : List Lane) (s : State) : State :=
  match lanes with
  | [] => s
  | _ => s.notify (.reaction (lanes.map s.reactionEntry))

/-- A measured reaction, with EARLY_START or not, and one departure counted (R121, R122). -/
def measureReaction (early : Bool) (ticks : Int) (r : LaneRecord) : LaneRecord :=
  { r with
    reaction := .measured ticks
    reasons := if early then r.reasons.union .onlyEarlyStart else r.reasons
    departures := 1 }

/-- A reaction that is absent, with the departure passed over (R122, R123). -/
def noReaction (reason : NoReaction) (r : LaneRecord) : LaneRecord :=
  { r with reaction := .absent reason, departures := 1 }

/-- NOT_ON_PLATFORM: a lane whose departures counted is still 0 at its first evidence, or when it leaves
RACING, has no reaction to measure (R123). -/
def State.notOnPlatform (lane : Lane) (s : State) : State :=
  if (s.lanes[lane]).departures = 0 then
    (s.updLane lane (noReaction .notOnPlatform)).notifyReactions [lane]
  else s

/-- What a START makes of an entered lane's reaction: the first row of R122's table that applies. A
departure held before the start is an early start whatever its ticks (R41, R122; log entry 31). -/
def startReaction (h : HeatRecord) (scanner : ScannerState) (startMark : Nat) (r : LaneRecord) :
    LaneRecord :=
  match h.startType with
  | .inWater => noReaction .notApplicable r
  | .platform =>
    if startWall h = .b then noReaction .noSensor r
    else
      match scanner with
      | .settling | .testing => noReaction .sensorNotReady r
      | .fault => noReaction .sensorFault r
      | .scanning =>
        match r.reaction with
        | .preStart departure => measureReaction true (departure - startMark) r
        | _ => { r with reaction := .notKnown, departures := 0 }
      | .off => { r with reaction := .notKnown, departures := 0 }

/-- The settlement of the start: every entered lane's reaction, and the channels' start loads (R122). -/
def State.settleStart (h : HeatRecord) (startMark : Nat) (s : State) : State :=
  let s := s.setStartLoads
  { s with lanes := tab fun lane =>
      if h.enters lane then startReaction h s.scanner.state startMark s.lanes[lane] else s.lanes[lane] }

/-- The entered lanes whose reaction the start has settled (R122, R124). -/
def State.settledAtStart (h : HeatRecord) (s : State) : List Lane :=
  allLanes.filter fun lane => h.enters lane && (s.lanes[lane]).departures != 0

/-! ### Exchanges -/

/-- The EXCHANGE notices a notify region lets through (R131). -/
def reportsVerdict (region : NotifyRegion) (verdict : Verdict) : Bool :=
  match region, verdict with
  | _, .pending => false
  | .all, _ => true
  | .outside, .clean => false
  | .outside, _ => true
  | .early, .early => true
  | .early, .unjudged => true
  | .early, _ => false
  | .nothing, _ => false

/-- The review reason a verdict adds (R131). -/
def verdictReasons : Verdict → ReviewReasons
  | .early => .onlyEarlyExchange
  | .unjudged => .onlyUnjudged
  | _ => .empty

/-- Replace the exchange record of a leg. -/
def putExchange (record : ExchangeRecord) (list : List ExchangeRecord) : List ExchangeRecord :=
  list.map fun r => if r.leg = record.leg then record else r

/-- The exchange record of a leg. -/
def exchangeOf (leg : Nat) (r : LaneRecord) : Option ExchangeRecord :=
  r.exchanges.find? fun e => e.leg == leg

/-- A verdict is given: the record is stored, its review reason added, and an EXCHANGE notice sent as
the notify region allows (R131). A record settled without its departure passes that departure over:
departures counted goes from its leg to the next (R130). -/
def State.giveVerdict (h : HeatRecord) (lane : Lane) (record : ExchangeRecord) (cause : SettleCause)
    (s : State) : State :=
  let s := s.updLane lane fun r =>
    { r with
      exchanges := putExchange record r.exchanges
      reasons := r.reasons.union (verdictReasons record.verdict)
      departures :=
        if record.verdict = .unjudged ∧ r.departures = record.leg then record.leg + 1
        else r.departures }
  if reportsVerdict h.notify record.verdict then
    s.notify (.exchange lane record cause (s.lanes[lane]).reasons)
  else s

/-- A record is settled UNJUDGED without evaluation (R130). -/
def State.settleUnjudged (h : HeatRecord) (lane : Lane) (cause : SettleCause) (record : ExchangeRecord)
    (s : State) : State :=
  s.giveVerdict h lane { record with verdict := .unjudged } cause

/-- Every PENDING record of a lane is settled UNJUDGED, in order of leg (R130). -/
def State.settlePending (h : HeatRecord) (lane : Lane) (cause : SettleCause) (s : State) : State :=
  ((s.lanes[lane]).exchanges.filter fun r => r.verdict == .pending).foldl
    (fun s r => s.settleUnjudged h lane cause r) s

/-- The verdict on a margin in ticks (R129). -/
def marginVerdict (h : HeatRecord) (margin : Int) : Verdict :=
  if margin < h.lo * 100 then .early
  else if h.hi * 100 < margin then .late
  else .clean

/-- The evaluation of a record that holds a departure and whose leg end has closed: margin and verdict
when it closed with source PAD, else UNJUDGED (R128, R129). -/
def evaluated (h : HeatRecord) (record : ExchangeRecord) : ExchangeRecord :=
  match record.legEnd, record.incoming, record.departure with
  | .pad, some touch, some departure =>
    { record with
      margin := some (departure - touch)
      verdict := marginVerdict h (departure - touch) }
  | _, _, _ => { record with verdict := .unjudged }

/-- A PENDING record is evaluated once it holds its departure and its leg end has closed (R128). -/
def State.evaluateExchange (h : HeatRecord) (lane : Lane) (leg : Nat) (cause : SettleCause) (s : State) :
    State :=
  match exchangeOf leg s.lanes[lane] with
  | none => s
  | some record =>
    if record.verdict = .pending ∧ record.departure.isSome ∧ record.legEnd ≠ .opened then
      s.giveVerdict h lane (evaluated h record) cause
    else s

/-- The exchange record of a leg is created PENDING; while the scanner is FAULT, UNJUDGED (R126). -/
def State.createExchange (h : HeatRecord) (lane : Lane) (leg : Nat) (s : State) : State :=
  let record : ExchangeRecord := ⟨leg, .opened, none, none, none, .pending⟩
  let s' := s.updLane lane fun r => { r with exchanges := r.exchanges ++ [record] }
  if s.scanner.state = .fault then
    (s'.updLane lane fun r => { r with departures := leg + 1 }).settleUnjudged h lane .scannerFault record
  else s'

/-- The leg-end state a derivation's source closes with (R127). -/
def legEndOf : OfficialSource → LegEndState
  | .pad => .pad
  | .backup => .backup
  | _ => .none

/-- The judge learns how a leg end closed; with source PAD the incoming touch is the pad time (R127). -/
def State.legEndClosed (h : HeatRecord) (lane : Lane) (leg : Nat) (source : OfficialSource)
    (padTime : Option Nat) (cause : SettleCause) (s : State) : State :=
  match exchangeOf leg s.lanes[lane] with
  | none => s
  | some record =>
    let record :=
      { record with
        legEnd := legEndOf source
        incoming := if source = .pad then padTime else none }
    (s.updLane lane fun r => { r with exchanges := putExchange record r.exchanges }).evaluateExchange
      h lane leg cause

/-- Lane accounting reports a turn acceptance: the lane's first evidence, the settling of PENDING
exchanges, then the creation of the next one when the lane now expects a leg end (R91, R123, R126,
R130). -/
def State.judgeTurn (h : HeatRecord) (lane : Lane) (s : State) : State :=
  let s := (s.notOnPlatform lane).settlePending h lane .nextTurn
  let r := s.lanes[lane]
  if lengthKind h r.expected = .legEnd then s.createExchange h lane (lengthLeg h r.expected) else s

/-! ### Departures -/

/-- Whether a departure is the takeover of the leg its count names (R125). -/
def takesOver (h : HeatRecord) (r : LaneRecord) : Bool :=
  let leg := r.departures
  let atLegEnd := lengthKind h r.expected == .legEnd && lengthLeg h r.expected == leg
  let afterLegEnd := r.leg == leg + 1 && (exchangeOf leg r).any fun e => e.verdict == .pending
  h.relay && (1 ≤ leg && leg ≤ 3) && (atLegEnd || afterLegEnd)

/-- A takeover is stored in its leg's record as a race time, and counted; the record is evaluated when
its leg end has closed (R125, R128). -/
def State.storeTakeover (h : HeatRecord) (lane : Lane) (departure : Int) (s : State) : State :=
  let leg := (s.lanes[lane]).departures
  let s := s.updLane lane fun r =>
    { r with
      exchanges := r.exchanges.map fun e => if e.leg = leg then { e with departure := some departure } else e
      departures := leg + 1 }
  s.evaluateExchange h lane leg .evaluated

/-- The exchange judge takes a departure event by R119's table; one that fits no row is ignored. The
departure time is a master time. -/
def State.takeDeparture (h : HeatRecord) (lane : Lane) (departure : Int) (s : State) : State :=
  let r := s.lanes[lane]
  match s.heat.race, r.status with
  | .armed, .entered =>
    if r.departures = 0 ∧ h.startType = .platform ∧ s.heat.setMark.isSome then
      s.updLane lane fun r => { r with reaction := .preStart departure, departures := 1 }
    else s
  | .running, .racing =>
    match s.heat.startMark with
    | none => s
    | some start =>
      if r.departures = 0 then
        let ticks := departure - start
        (s.updLane lane (measureReaction (decide (ticks < 0)) ticks)).notifyReactions [lane]
      else if takesOver h r then s.storeTakeover h lane (departure - start)
      else s
  | _, _ => s

/-- The scanner enters FAULT in a heat: the heat's SCANNER_FAULT flag is set, and in RUNNING every
SENSOR_NOT_READY reaction becomes SENSOR_FAULT, in one REACTION notice (R115, R132). -/
def State.scannerFault (h : HeatRecord) (s : State) : State :=
  let s := { s with heat := { s.heat with flags := { s.heat.flags with scannerFault := true } } }
  let hit := allLanes.filter fun lane =>
    h.enters lane && (s.lanes[lane]).reaction == .absent .sensorNotReady
  if s.heat.race = .running then
    State.notifyReactions hit
      { s with lanes := tab fun lane =>
          let r := s.lanes[lane]
          if h.enters lane && r.reaction == .absent .sensorNotReady then
            { r with reaction := .absent .sensorFault }
          else r }
  else s

end Sys2Proof.Machine
end

