-- ==== Sys2Proof/Machine/Lanes.lean ====
section
/-!
DEFINITION. Time derivation (chapter 6) and lane accounting (chapter 5): gates, turns, the skip rule
and finish windows.
-/

namespace Sys2Proof.Machine

/-! ### Time derivation (R98 to R106) -/

/-- The median of three times (R100). -/
def median (a b c : Nat) : Nat := max (min a b) (min (max a b) c)

/-- The backup time of the presses: the median of three, the mean of two rounded down, the single one,
or absent (R100). -/
def backupTime : List Nat → Option Nat
  | [] => none
  | [a] => some a
  | [a, b] => some ((a + b) / 2)
  | a :: b :: c :: _ => some (median a b c)

/-- The absolute difference of two times (R101). -/
def absDiff (a b : Nat) : Nat := (a - b) + (b - a)

/-- What a derivation gives (R102). -/
structure Derived where
  official : Option Nat
  source : OfficialSource
  flags : LengthFlags
  reasons : ReviewReasons

/-- The derivation: the first row of R102's table whose condition holds. `limit` is D in ticks, `dead`
the wall-A pad's dead mark. -/
def derive (padTime backup : Option Nat) (limit : Nat) (dead : Bool) : Derived :=
  match padTime, backup with
  | some p, none => ⟨some p, .pad, .clear, .empty⟩
  | some p, some b =>
    if absDiff p b ≤ limit then ⟨some p, .pad, .clear, .empty⟩
    else
      ⟨some b, .backup, { LengthFlags.clear with discrepant := true },
        { ReviewReasons.empty with discrepant := true }⟩
  | none, some b =>
    if dead then ⟨some b, .backup, ⟨true, false, true⟩, .empty⟩
    else ⟨some b, .backup, ⟨true, false, false⟩, { ReviewReasons.empty with noPad := true }⟩
  | none, none => ⟨none, .none, .clear, .onlyNoTime⟩

/-- The dead mark of a lane's wall-A pad in the profile in force (R99). -/
def State.deadWallA (lane : Lane) (s : State) : Bool :=
  (s.store.inForce.map fun p => p.dead[padIx lane .a]).getD false

/-- The derivation of a finish window (R99). -/
def State.deriveWindow (h : HeatRecord) (lane : Lane) (w : FinishWindow) (s : State) : Derived :=
  derive (w.pad.map (·.time)) (backupTime (w.buttons.map (·.2))) (limitTicks h.discrepancy)
    (s.deadWallA lane)

/-- The length record a window's close adds (R89, R103). -/
def closedRecord (h : HeatRecord) (n : Nat) (w : FinishWindow) (d : Derived) : LengthRecord where
  number := n
  wall := lengthWall h n
  kind := lengthKind h n
  outcome := if d.official.isSome then .timed else .noTime
  padTime := w.pad.map (·.time)
  buttons := w.buttons
  backup := backupTime (w.buttons.map (·.2))
  official := d.official
  source := d.source
  flags := d.flags

/-! ### Turns (R81) -/

/-- The record of a turn touched at a pad time (R81). -/
def touchedRecord (h : HeatRecord) (n time : Nat) : LengthRecord :=
  ⟨n, lengthWall h n, .turn, .touched, some time, [], none, none, .none, .clear⟩

/-- The record of a turn found missed (R83). -/
def missedRecord (h : HeatRecord) (n : Nat) : LengthRecord :=
  ⟨n, lengthWall h n, .turn, .missed, none, [], none, none, .none, .clear⟩

/-- The record of a leg end passed without time (R84). -/
def noTimeRecord (h : HeatRecord) (n : Nat) : LengthRecord :=
  ⟨n, lengthWall h n, .legEnd, .noTime, none, [], none, none, .none, .clear⟩

/-- A SPLIT notice for a record just added, with the current leg after the event (R94). -/
def State.sendSplit (lane : Lane) (record : LengthRecord) (leg : Nat) (s : State) : State :=
  s.notify (.split lane record leg)

/-- A turn is accepted: its record, the gate base, the expected length, the SPLIT notice and the report
to the exchange judge (R81). -/
def State.acceptTurn (h : HeatRecord) (lane : Lane) (time : Nat) (s : State) : State :=
  let r := s.lanes[lane]
  let record := touchedRecord h r.expected time
  let s := s.updLane lane fun r =>
    { r with lengths := r.lengths ++ [record], gateBase := time, expected := r.expected + 1 }
  (s.sendSplit lane record r.leg).judgeTurn h lane

/-! ### Finish windows (R85 to R90) -/

/-- What opens a window, or is collected into one. -/
inductive Evidence where
  | touch (touch : PadTouch)
  | press (button : Button) (time : Nat)
  deriving DecidableEq, Repr

/-- The time of a piece of evidence (R78). -/
def Evidence.time : Evidence → Nat
  | .touch t => t.time
  | .press _ time => time

/-- The window that evidence opens (R85). -/
def newWindow (h : HeatRecord) (r : LaneRecord) (e : Evidence) : FinishWindow where
  openedBy := e.time
  closesAt := e.time + limitTicks h.buttonWindow
  gateOpen := gateOpen h r
  pad := match e with | .touch t => some t | .press _ _ => none
  buttons := match e with | .touch _ => [] | .press b time => [(b, time)]

/-- A window opens, and the exchange judge takes it as the lane's evidence (R85, R123). -/
def State.openWindow (h : HeatRecord) (lane : Lane) (e : Evidence) (s : State) : State :=
  (s.updLane lane fun r => { r with window := some (newWindow h r e) }).notOnPlatform lane

/-- An open window collects a wall-A pad touch, or ignores it (R86). -/
def collectPad (w : FinishWindow) (touch : PadTouch) : FinishWindow :=
  if w.pad = none ∧ w.gateOpen ≤ touch.time ∧ touch.time < w.closesAt then { w with pad := some touch }
  else w

/-- An open window collects a press, or ignores it (R87). -/
def collectPress (w : FinishWindow) (button : Button) (time : Nat) : FinishWindow :=
  if (w.buttons.all fun e => e.1 != button) ∧ w.gateOpen ≤ time ∧ time < w.closesAt then
    { w with buttons := w.buttons ++ [(button, time)] }
  else w

/-- The first-finish hold starts at the first finish in RUNNING, for 5.0 s (R161). -/
def State.startHold (s : State) : State :=
  if s.board.hold = .none ∧ s.heat.race = .running then
    { s with board := { s.board with hold := .holding (s.clock + Config.holdTicks) } }
  else s

/-- A LEG_END window closes: record, gate base, leg, expected length, SPLIT notice, and the result to
the exchange judge, with the pad time when the source is PAD (R89, R108). -/
def State.closeLegEnd (h : HeatRecord) (lane : Lane) (w : FinishWindow) (s : State) : State :=
  let r := s.lanes[lane]
  let d := s.deriveWindow h lane w
  let record := closedRecord h r.expected w d
  let s := s.updLane lane fun r =>
    { r with
      lengths := r.lengths ++ [record]
      reasons := r.reasons.union d.reasons
      gateBase := d.official.getD r.gateBase
      leg := r.leg + 1
      expected := r.expected + 1
      window := none }
  (s.sendSplit lane record (r.leg + 1)).legEndClosed h lane r.leg d.source (w.pad.map (·.time)) .evaluated

/-- A FINAL window closes. With an official time the lane is FINISHED and placed, the FINISH notice
before the PLACES notice; without one it stays RACING, with no window (R90, R109, R110). -/
def State.closeFinal (h : HeatRecord) (lane : Lane) (w : FinishWindow) (cause : CloseCause) (s : State) :
    State :=
  let r := s.lanes[lane]
  let d := s.deriveWindow h lane w
  match d.official with
  | some official =>
    let record := closedRecord h r.expected w d
    let s := s.updLane lane fun r =>
      { r with
        lengths := r.lengths ++ [record]
        reasons := r.reasons.union d.reasons
        window := none
        finalTime := some official
        finalSource := d.source
        status := .finished }
    let s := s.notify (.finish lane r.label record (if h.relay then 4 else 1)
      (r.reasons.union d.reasons) cause)
    (s.placeFinish lane official).startHold
  | none =>
    s.updLane lane fun r => { r with reasons := r.reasons.union d.reasons, window := none }

/-- The open window of a lane closes with derivation, by the kind of its length (R89, R90, R98). -/
def State.closeWindow (h : HeatRecord) (cause : CloseCause) (lane : Lane) (s : State) : State :=
  let r := s.lanes[lane]
  match r.window with
  | none => s
  | some w =>
    match lengthKind h r.expected with
    | .turn => s
    | .legEnd => s.closeLegEnd h lane w
    | .final => s.closeFinal h lane w cause

/-! ### The skip rule (R82 to R84) -/

/-- Whether a touch at the wall that is not the expected one is credited to length n + 1 (R82). -/
def skips (h : HeatRecord) (r : LaneRecord) (time : Nat) : Bool :=
  let n := r.expected
  let passable :=
    match lengthKind h n with
    | .turn => true
    | .legEnd =>
      r.window.isNone && ((exchangeOf (lengthLeg h n) r).any fun e => e.departure.isSome)
    | .final => false
  decide (n < h.lengths) && decide (r.gateBase + 2 * limitTicks h.inhibit ≤ time) && passable

/-- The touch is credited across a TURN: a MISSED record, then the touch for the next length (R83). -/
def State.skipTurn (h : HeatRecord) (lane : Lane) (touch : PadTouch) (s : State) : State :=
  let r := s.lanes[lane]
  let record := missedRecord h r.expected
  let s := s.updLane lane fun r => { r with lengths := r.lengths ++ [record], expected := r.expected + 1 }
  let s := s.sendSplit lane record r.leg
  match lengthKind h (r.expected + 1) with
  | .turn => s.acceptTurn h lane touch.time
  | .legEnd =>
    let s := s.updLane lane fun r => { r with gateBase := r.gateBase + limitTicks h.inhibit }
    ((s.notOnPlatform lane).createExchange h lane (lengthLeg h (r.expected + 1))).openWindow h lane
      (.touch touch)
  | .final =>
    let s := s.updLane lane fun r => { r with gateBase := r.gateBase + limitTicks h.inhibit }
    s.openWindow h lane (.touch touch)

/-- The touch is credited across a LEG_END: a NO_TIME record with its review reason and SPLIT notice,
the leg end to the exchange judge, the next leg, then the touch as a turn (R84). -/
def State.skipLegEnd (h : HeatRecord) (lane : Lane) (touch : PadTouch) (s : State) : State :=
  let r := s.lanes[lane]
  let record := noTimeRecord h r.expected
  let s := s.updLane lane fun r =>
    { r with
      lengths := r.lengths ++ [record]
      reasons := r.reasons.union .onlyNoTime
      expected := r.expected + 1 }
  let s := s.sendSplit lane record (r.leg + 1)
  let s := s.legEndClosed h lane (lengthLeg h r.expected) .none none .legEndMissed
  (s.updLane lane fun r => { r with leg := r.leg + 1 }).acceptTurn h lane touch.time

/-- A touch at the wall that is not the expected one: credited to the next length, or ignored (R82). -/
def State.skip (h : HeatRecord) (lane : Lane) (touch : PadTouch) (s : State) : State :=
  let r := s.lanes[lane]
  if skips h r touch.time then
    match lengthKind h r.expected with
    | .turn => s.skipTurn h lane touch
    | .legEnd => s.skipLegEnd h lane touch
    | .final => s
  else s

/-! ### Taking evidence (R80) -/

/-- Lane accounting takes a pad touch (R80). -/
def State.takePad (h : HeatRecord) (lane : Lane) (wall : Wall) (touch : PadTouch) (s : State) : State :=
  let r := s.lanes[lane]
  if r.status ≠ .racing then s
  else if wall ≠ lengthWall h r.expected then s.skip h lane touch
  else
    match r.window with
    | some w => s.updLane lane fun r => { r with window := some (collectPad w touch) }
    | none =>
      if touch.time < gateOpen h r then s
      else
        match lengthKind h r.expected with
        | .turn => s.acceptTurn h lane touch.time
        | _ => s.openWindow h lane (.touch touch)

/-- Lane accounting takes a press (R80). -/
def State.takePress (h : HeatRecord) (lane : Lane) (button : Button) (time : Nat) (s : State) : State :=
  let r := s.lanes[lane]
  if r.status ≠ .racing then s
  else
    match r.window with
    | some w => s.updLane lane fun r => { r with window := some (collectPress w button time) }
    | none =>
      if lengthKind h r.expected = .turn ∨ time < gateOpen h r then s
      else s.openWindow h lane (.press button time)

/-- No entered lane is RACING (R47). -/
def State.allDone (h : HeatRecord) (s : State) : Bool :=
  allLanes.all fun lane => !(h.enters lane) || (s.lanes[lane]).status != .racing

end Sys2Proof.Machine
end

