-- ==== Sys2Proof/Machine/Timebase.lean ====
section
/-!
DEFINITION. The timebase (chapter 1): its states, the reference monitor, HOLDOVER and its return.
-/

namespace Sys2Proof.Machine

/-- The timebase changes state for a cause: the TIMEBASE notice carries the new state, the state before
the event, the source in use after it and the cause (R11). -/
def State.notifyTimebase (previous : TimebaseState) (cause : TimebaseCause) (s : State) : State :=
  s.notify (.timebase s.timebase.state previous s.timebase.source cause)

/-- Entry to ACQUIRING: steering stops, the good-window count is 0, and an INTERNAL acquisition lasts
0.5 s from now (R4). -/
def State.enterAcquiring (s : State) : State :=
  { s with timebase :=
      { s.timebase with
        state := .acquiring, goodCount := 0, steering := false
        acquiringEnd := s.clock + Config.acquiringTicks } }

/-- Entry to LOCKED; with the EXTERNAL source steering begins (R4, R6). -/
def State.enterLocked (cause : TimebaseCause) (s : State) : State :=
  State.notifyTimebase s.timebase.state cause
    { s with timebase :=
        { s.timebase with state := .locked, steering := s.timebase.source == .external } }

/-- HOLDOVER returns to LOCKED with the count at 20,000 and the race neither ARMED nor RUNNING (R6). -/
def State.holdoverReturn (s : State) : State :=
  if s.timebase.state = .holdover ∧ s.timebase.goodCount = Config.goodWindows ∧
      s.armedOrRunning = false then
    s.enterLocked .referenceRestored
  else s

/-- The reference monitor runs with the EXTERNAL source in ACQUIRING, LOCKED and HOLDOVER (R3). -/
def State.monitoring (s : State) : Bool :=
  s.timebase.source == .external && s.timebase.state != .unlocked

/-- A window with 999 to 1,001 reference cycles is good (R3). -/
def goodWindow (cycles : Nat) : Bool := decide (999 ≤ cycles ∧ cycles ≤ 1001)

/-- A good window: the count rises, to 20,000 at most; at 20,000 an acquisition or a return out of
ARMED and RUNNING is done (R3, R4, R6). -/
def State.goodWindowEnd (s : State) : State :=
  let count := min Config.goodWindows (s.timebase.goodCount + 1)
  let s := { s with timebase := { s.timebase with goodCount := count, lastWindow := some true } }
  if count = Config.goodWindows ∧ s.timebase.state = .acquiring then s.enterLocked .acquired
  else s.holdoverReturn

/-- A bad window: the count goes to 0. In LOCKED the reference is lost: steering stops, HOLDOVER is
entered and the HOLDOVER flag of an ARMED or RUNNING heat set (R3, R5, R7). -/
def State.badWindowEnd (s : State) : State :=
  let s' := { s with timebase := { s.timebase with goodCount := 0, lastWindow := some false } }
  if s.timebase.state = .locked then
    let s' := { s' with
      timebase := { s'.timebase with state := .holdover, steering := false }
      heat := { s'.heat with
        flags := { s'.heat.flags with
          holdover := s'.heat.flags.holdover || s.armedOrRunning } } }
    s'.notifyTimebase .locked .referenceLost
  else s'

/-- A window is judged by the reference cycles it counted (R3). -/
def State.judgeWindow (cycles : Nat) (s : State) : State :=
  if goodWindow cycles then s.goodWindowEnd else s.badWindowEnd

/-- The good-window count reaches 20,000 with this window (R3). -/
def State.lastGoodWindow (s : State) : Bool :=
  s.timebase.source == .external && decide (Config.goodWindows ≤ s.timebase.goodCount + 1)

/-- A good window now ends the acquisition (R4). -/
def State.acquires (s : State) : Bool := s.lastGoodWindow && s.timebase.state == .acquiring

/-- A good window now ends HOLDOVER (R6). -/
def State.restores (s : State) : Bool :=
  s.lastGoodWindow && s.timebase.state == .holdover && !s.armedOrRunning

/-- A completed PROFILE_WRITE gives the timebase its source: a different one is in use from this event,
and out of UNLOCKED acquisition starts afresh (R9). -/
def State.changeSource (source : TimeSource) (s : State) : State :=
  if source = s.timebase.source then s
  else
    let s' := { s with timebase := { s.timebase with source := source, lastWindow := none } }
    if s.timebase.state = .unlocked then s'
    else s'.enterAcquiring.notifyTimebase s.timebase.state .sourceChanged

/-- TIMEBASE_RESTART by the timebase's rule (R10). -/
def State.handleTimebaseRestart (payload : List Byte) (s : State) : Handled :=
  if payload ≠ [] then s.deny (.badField 0 none)
  else if s.armedOrRunning then s.deny .wrongState
  else if s.timebase.state = .unlocked then s.deny .notReady
  else
    let s' := s.enterAcquiring
    (s'.notifyTimebase s.timebase.state .restartRequest).accept
      (.timebase s'.timebase.state s'.timebase.source s'.masterTime)

end Sys2Proof.Machine
end

