-- ==== Sys2Proof/Machine/Profile.lean ====
section
/-!
DEFINITION. The profile store (chapter 11): its write, the completion of the write, PROFILE_READ and
PROFILE_WRITE.
-/

namespace Sys2Proof.Machine

/-- A profile write, a leveling procedure or a probe is in flight (R36, R67, R133, R189). -/
def State.busy (s : State) : Bool :=
  s.store.write.isSome || s.wall.level != .idle || s.scanner.probe.isSome

/-- A store write begins: the store's content is incomplete until it ends, 400 ticks from now (R189). -/
def State.startWrite (profile : Profile) (leveling : Bool) (s : State) : State :=
  { s with store :=
      { s.store with
        stored := none
        write := some ⟨profile, s.clock + Config.writeTicks, leveling⟩ } }

/-- PROFILE_DONE: the fields that differ from the profile in force before, or all twelve, and whether
the part became configured (R189). -/
def profileDone (before : Option Profile) (now : Profile) : NoticeBody :=
  match before with
  | none => .profileDone (tab fun _ => true) true
  | some p => .profileDone (changedFields p now) false

/-- A store write completes: the new profile is in force, with PROFILE_DONE, or LEVEL_DONE for the
leveling write; then the timebase compares sources and the board makes a full pass, in the new default
mode when the part has just become configured (R9, R70, R167, R189). -/
def State.completeWrite (w : StoreWrite) (s : State) : State :=
  let before := s.store.inForce
  let s' := { s with store :=
      { s.store with inForce := some w.profile, stored := some w.profile, write := none } }
  let s' :=
    if w.leveling then
      State.notify (.levelDone true s.wall.results)
        { s' with wall := { s'.wall with level := .idle, results := [] } }
    else s'.notify (profileDone before w.profile)
  let s' := s'.changeSource w.profile.source
  let s' :=
    if before.isNone then { s' with board := { s'.board with mode := some w.profile.defaultMode } }
    else s'
  s'.askPass

/-- The first of course, installed lanes and timebase source that differs (R190). -/
def guardedField (a b : Profile) : Option Nat :=
  if a.course ≠ b.course then some 1
  else if a.installed ≠ b.installed then some 2
  else if a.source ≠ b.source then some 3
  else none

/-- The setup window's rule: in COMPETITION mode with the window closed, fields 1 to 3 may not change
(R190). -/
def State.setupRefusal (new : Profile) (s : State) : Option Nat :=
  if s.store.mode = .competition ∧ s.store.setupOpen = false then
    match s.store.inForce with
    | none => none
    | some p => guardedField p new
  else none

/-- PROFILE_WRITE (R189). -/
def State.handleProfileWrite (payload : List Byte) (s : State) : Handled :=
  match profileFault payload with
  | some (field, detail) => s.deny (.badField field detail)
  | none =>
    if s.armedOrRunning then s.deny .wrongState
    else if s.busy then s.deny .busy
    else
      match s.setupRefusal (profileOf payload) with
      | some field => s.deny (.guarded (some field))
      | none => (s.startWrite (profileOf payload) false).accept .empty

/-- PROFILE_READ (R188, R191). -/
def State.handleProfileRead (payload : List Byte) (s : State) : Handled :=
  if payload ≠ [] then s.deny (.badField 0 none)
  else
    match s.store.inForce with
    | none => s.deny .notConfigured
    | some p => s.accept (.profile p)

end Sys2Proof.Machine
end

