-- ==== Sys2Proof/Machine/Wall.lean ====
section
/-!
DEFINITION. Wall capture (chapter 4): pads, buttons and leveling.
-/

namespace Sys2Proof.Machine

/-! ### Pads (R54 to R63) -/

/-- Change the capture record of a pad. -/
def State.updPad (pad : PadIx) (f : PadRecord → PadRecord) (s : State) : State :=
  { s with wall := { s.wall with pads := s.wall.pads.set pad (f (s.wall.pads[pad])) } }

/-- The qualification time Q of the profile in force; its default while there is none. -/
def State.qualifyTicks (s : State) : Nat := (s.store.inForce.map (·.qualify)).getD 3

/-- The latency of a pad in the profile in force. -/
def State.padLatency (pad : PadIx) (s : State) : Nat :=
  (s.store.inForce.map fun p => p.latencies[pad]).getD 0

/-- The compensated touch of a closure: the raw race time of its leading edge less the pad's latency,
held at 0 (R61, R62). -/
def compensate (startMark lead latency : Nat) : PadTouch :=
  ⟨lead - startMark - latency, lead - startMark, latency⟩

/-- A qualified closure is compensated and delivered to lane accounting (R58, R62). One whose leading
edge is not below the race-time limit is not: it can only be a line held closed when a START edge is
handled an hour late, and the heat leaves no path for a later stamp (R48, law 1). -/
def State.deliverTouch (pad : PadIx) (lead : Nat) (s : State) : State :=
  match s.heat.current, s.heat.startMark with
  | some h, some start =>
    if lead < start + Config.raceLimit then
      s.takePad h (padLane pad) (padWall pad) (compensate start lead (s.padLatency pad))
    else s
  | _, _ => s

/-- What a pad's line at arming makes of its record: OPEN, QUALIFYING or BLOCKED, and no splash (R55). -/
def armRecord (startMark : Nat) (r : PadRecord) : PadRecord :=
  { r with
    splash := 0
    capture :=
      match r.level, r.closing with
      | .opened, _ => .opened
      | .closed, some t => if startMark ≤ t then .qualifying t else .blocked
      | .closed, none => .blocked }

/-- The pads are armed (R55). -/
def State.armPads (startMark : Nat) (s : State) : State :=
  { s with wall :=
      { s.wall with armed := true, pads := tab fun pad => armRecord startMark s.wall.pads[pad] } }

/-- The pads are disarmed: every record becomes UNARMED, levels, closing edges and splash counts kept
(R56). -/
def State.disarmPads (s : State) : State :=
  { s with wall :=
      { s.wall with
        armed := false, pads := tab fun pad => { s.wall.pads[pad] with capture := .unarmed } } }

/-- A closure that has lasted Q ticks qualifies: it is delivered, and held (R58). -/
def State.qualifyPad (pad : PadIx) (s : State) : State :=
  match (s.wall.pads[pad]).capture with
  | .qualifying lead =>
    if lead + s.qualifyTicks ≤ s.clock then
      (s.updPad pad fun r => { r with capture := .held }).deliverTouch pad lead
    else s
  | _ => s

/-- The closures that have lasted Q ticks at the arming qualify in that event (R55). -/
def State.qualifyArmed (s : State) : State := allPads.foldl (fun s pad => s.qualifyPad pad) s

/-- A closing edge on a pad (R54, R57). One that is handled in OPEN when master time has already reached
its stamp plus Q stays QUALIFYING until the next PAD_QUALIFY_TIME or opening edge: R55 qualifies such a
closure at once in the arming event only, and R58 says nothing of a late edge (log entry 40: DESIGN
CHOICE). -/
def State.padCloses (pad : PadIx) (stamp : Nat) (s : State) : State :=
  s.updPad pad fun r =>
    { r with
      level := .closed
      closing := some stamp
      capture :=
        match r.capture with
        | .opened =>
          if s.heat.startMark.getD 0 ≤ stamp then .qualifying stamp else .blocked
        | c => c }

/-- An opening edge on a pad: it ends a closure that is held or blocked, drops one shorter than Q ticks
as a splash, and qualifies one that has lasted Q ticks (R54, R58, R59, R60). -/
def State.padOpens (pad : PadIx) (stamp : Nat) (s : State) : State :=
  match (s.wall.pads[pad]).capture with
  | .qualifying lead =>
    if stamp < lead + s.qualifyTicks then
      s.updPad pad fun r =>
        { r with level := .opened, capture := .opened, splash := min 255 (r.splash + 1) }
    else
      (s.updPad pad fun r => { r with level := .opened, capture := .opened }).deliverTouch pad lead
  | .held => s.updPad pad fun r => { r with level := .opened, capture := .opened }
  | .blocked => s.updPad pad fun r => { r with level := .opened, capture := .opened }
  | _ => s.updPad pad fun r => { r with level := .opened }

/-! ### Buttons (R64, R65) -/

/-- Change the record of a button. -/
def State.updButton (ix : ButtonIx) (f : ButtonRecord → ButtonRecord) (s : State) : State :=
  { s with wall := { s.wall with buttons := s.wall.buttons.set ix (f (s.wall.buttons[ix])) } }

/-- Whether a lockout is in force for a stamp (R64). -/
def lockedOut (lockout : Option Nat) (stamp : Nat) : Bool := (lockout.map fun t => decide (stamp < t)).getD false

/-- A press is delivered to lane accounting with its raw race time (R65). -/
def State.deliverPress (lane : Lane) (button : Button) (stamp : Nat) (s : State) : State :=
  match s.heat.current, s.heat.startMark with
  | some h, some start => s.takePress h lane button (stamp - start)
  | _, _ => s

/-- A closing edge on a button line: a press when the pads are armed, the stamp is at or after the start
mark and no lockout is in force (R64). -/
def State.buttonCloses (lane : Lane) (button : Button) (stamp : Nat) (s : State) : State :=
  let ix := buttonIx lane button
  let r := s.wall.buttons[ix]
  if s.wall.armed = true ∧ s.heat.startMark.getD 0 ≤ stamp ∧ lockedOut r.lockout stamp = false then
    (s.updButton ix fun r =>
      { r with level := .closed, lockout := some (stamp + Config.lockoutTicks) }).deliverPress
        lane button stamp
  else s.updButton ix fun r => { r with level := .closed }

/-! ### Leveling (R67 to R71) -/

/-- The pads of the installed lanes, in pad order (R67). -/
def installedPads (p : Profile) : List PadIx := allPads.filter fun pad => p.installed[padLane pad]

/-- What leveling's results make of a profile: a latency is stored and clears the dead mark, DEAD sets
it, BUSY_PAD changes nothing (R70). -/
def leveledProfile (p : Profile) (results : List (PadIx × LevelResult)) : Profile :=
  results.foldl
    (fun p r =>
      match r.2 with
      | .latency v => { p with latencies := p.latencies.set r.1 v, dead := p.dead.set r.1 false }
      | .dead => { p with dead := p.dead.set r.1 true }
      | .busyPad => p)
    p

/-- The next pad's turn begins with a look at its line; after the last pad the writing begins (R68 to
R70). -/
def State.nextTurn (rest : List PadIx) (s : State) : State :=
  match rest with
  | pad :: rest =>
    let step : LevelStep :=
      match (s.wall.pads[pad]).level with
      | .opened => .driving s.clock none
      | .closed => .waiting s.clock
    { s with wall := { s.wall with level := .measuring pad step rest } }
  | [] =>
    let s' := { s with wall := { s.wall with level := .writing } }
    match s.store.inForce with
    | none => s'
    | some p => s'.startWrite (leveledProfile p s.wall.results) true

/-- A result is appended and the next pad's turn begins (R68, R69). -/
def State.levelResult (pad : PadIx) (result : LevelResult) (rest : List PadIx) (s : State) : State :=
  State.nextTurn rest { s with wall := { s.wall with results := s.wall.results ++ [(pad, result)] } }

/-- An edge of the pad in turn: an opening edge stamped within the wait begins the drive; the first
closing edge at most 100 ticks after the drive start is the answer (R68, R69). -/
def State.levelEdge (pad : PadIx) (level : Level) (stamp : Nat) (s : State) : State :=
  match s.wall.level with
  | .measuring p step rest =>
    if p ≠ pad then s
    else
      match step, level with
      | .waiting began, .opened =>
        if stamp < began + Config.levelWaitTicks then
          { s with wall := { s.wall with level := .measuring p (.driving s.clock none) rest } }
        else s
      | .driving start none, .closed =>
        if start ≤ stamp ∧ stamp ≤ start + Config.levelAnswerTicks then
          { s with wall := { s.wall with level := .measuring p (.driving start (some (stamp - start))) rest } }
        else s
      | _, _ => s
  | _ => s

/-- Whether the test line of a pad is driven (R69, R73). -/
def State.testLine (s : State) (pad : PadIx) : Bool :=
  match s.wall.level with
  | .measuring p (.driving _ _) _ => p == pad
  | _ => false

/-- The timebase reaching UNLOCKED while MEASURING: the phase becomes IDLE without a write, and
LEVEL_DONE reports what was measured (R71). -/
def State.abandonLeveling (s : State) : State :=
  match s.wall.level with
  | .measuring _ _ _ =>
    State.notify (.levelDone false s.wall.results)
      { s with wall := { s.wall with level := .idle, results := [] } }
  | _ => s

/-- LEVEL_PADS (R67). -/
def State.handleLevelPads (payload : List Byte) (s : State) : Handled :=
  if payload ≠ [] then s.deny (.badField 0 none)
  else if s.store.mode = .competition then s.deny (.guarded none)
  else
    match s.store.inForce with
    | none => s.deny .notConfigured
    | some p =>
      if ¬(s.heat.race = .idle ∨ s.heat.race = .loaded) then s.deny .wrongState
      else if s.busy then s.deny .busy
      else if s.timebase.state = .unlocked then s.deny .notReady
      else
        (State.nextTurn (installedPads p) { s with wall := { s.wall with results := [] } }).accept
          (.leveling (installedPads p).length)

/-- PROBE_BLOCKS: accepted, it makes no reply yet (R133, R177). -/
def State.handleProbeBlocks (tag : Byte) (payload : List Byte) (s : State) : Handled :=
  if payload ≠ [] then s.deny (.badField 0 none)
  else if s.store.mode = .competition then s.deny (.guarded none)
  else if ¬(s.heat.race = .idle ∨ s.heat.race = .loaded) then s.deny .wrongState
  else if s.busy then s.deny .busy
  else if s.timebase.state = .unlocked then s.deny .notReady
  else
    let s := s.powerScanner
    ⟨{ s with scanner :=
        { s.scanner with probe := some tag, probeTest := none, probeReadings := tab fun _ => none } },
      none⟩

end Sys2Proof.Machine
end

