-- ==== Sys2Proof/Machine/Heat.lean ====
section
/-!
DEFINITION. The heat controller (chapters 2 and 3): the current heat and the queue, arming, start,
recall, the end of a heat, and the master-time limit (R8).
-/

namespace Sys2Proof.Machine

/-! ### Current heat and queue (R25 to R30) -/

/-- The labels the lane table gets from a heat, empty with none (R27, R29). -/
def State.setLabels (current : Option HeatRecord) (s : State) : State :=
  { s with lanes := tab fun lane =>
      { s.lanes[lane] with
        label := match current with
          | none => []
          | some h => if h.enters lane then h.labels[lane] else [] } }

/-- A heat record becomes current, or none does: the race state, the flags and the marks, the labels,
the board and the HEAT_STATE notice (R27, R29, R30). -/
def State.setCurrent (current : Option HeatRecord) (cause : HeatCause) (s : State) : State :=
  let previous := s.heat.race
  let s := { s with heat :=
      { s.heat with
        current := current, flags := .clear, setMark := none, startMark := none, guardEnd := none
        race := if current.isSome then .loaded else .idle } }
  ((s.setLabels current).boardNewHeat).notifyHeat previous cause

/-- The queue head is promoted, or no heat is current (R29, R30). -/
def State.promote (cause : HeatCause) (s : State) : State :=
  match s.heat.queue with
  | [] => s.setCurrent none cause
  | h :: rest => ({ s with heat := { s.heat with queue := rest } } : State).setCurrent (some h) cause

/-- Two records carry the same event and heat numbers (R25). -/
def sameNumbers (event heat : Nat) (h : HeatRecord) : Bool := h.event == event && h.heat == heat

/-- LOAD_HEAT (R26). -/
def State.handleLoadHeat (payload : List Byte) (s : State) : Handled :=
  match s.store.inForce with
  | none => s.deny .notConfigured
  | some p =>
    match heatFault p.installed payload with
    | some (field, detail) => s.deny (.badField field detail)
    | none =>
      let h := heatOf p.course payload
      if s.heat.current.any (sameNumbers h.event h.heat) || s.heat.queue.any (sameNumbers h.event h.heat)
      then s.deny .duplicate
      else if s.heat.race = .idle then (s.setCurrent (some h) .load).accept .placedCurrent
      else if Config.queueMax ≤ s.heat.queue.length then s.deny .queueFull
      else
        ({ s with heat := { s.heat with queue := s.heat.queue ++ [h] } } : State).accept
          (.placedQueued (s.heat.queue.length + 1) (s.heat.queue.length + 1))

/-- WITHDRAW_HEAT: a queued record first, then the current heat in LOADED (R28, R29). -/
def State.handleWithdrawHeat (payload : List Byte) (s : State) : Handled :=
  if payload.length ≠ 3 then s.deny (.badField 0 none)
  else
    let event := wordAt payload 0
    let heat := byteAt payload 2
    match s.heat.queue.findIdx? (sameNumbers event heat) with
    | some i =>
      let queue := s.heat.queue.eraseIdx i
      ({ s with heat := { s.heat with queue := queue } } : State).accept (.withdrawn (i + 1) queue.length)
    | none =>
      if s.heat.current.any (sameNumbers event heat) then
        if s.heat.race = .loaded then
          let s' := s.promote .withdraw
          s'.accept (.newCurrent s'.numbers)
        else s.deny .wrongState
      else s.deny .notFound

/-- QUERY_QUEUE: the summary, or the full record at an index (R31). -/
def State.handleQueryQueue (payload : List Byte) (s : State) : Handled :=
  match payload with
  | [] =>
    s.accept (.queueSummary s.heat.race (s.heat.current.toList ++ s.heat.queue) s.heat.current.isSome)
  | [index] =>
    if index = 0#8 then
      match s.heat.current with
      | none => s.deny .notFound
      | some h => s.accept (.queueRecord h (effectiveBanner h) (some s.heat.flags))
    else
      match s.heat.queue[index.toNat - 1]? with
      | none => s.deny .notFound
      | some h => s.accept (.queueRecord h (effectiveBanner h) none)
  | _ => s.deny (.badField 0 none)

/-- NEXT_HEAT: the lane table cleared, the place order emptied without a notice, the board's hold and
frozen time gone, and the next heat promoted (R30, R75, R139, R161, R162). -/
def State.handleNextHeat (payload : List Byte) (s : State) : Handled :=
  if payload ≠ [] then s.deny (.badField 0 none)
  else if s.heat.race ≠ .official then s.deny .wrongState
  else
    let s' := { s with
      lanes := tab fun lane => .cleared .idle (s.lanes[lane]).label
      placing := { s.placing with order := [], linked := false }
      board := { s.board with hold := .none, frozen := none } }
    let s' := s'.promote .nextHeat
    s'.accept (.newCurrent s'.numbers)

/-! ### Arming (R36 to R38) -/

/-- Every entered lane in its cleared form, with a status and its label (R75). -/
def State.clearEntered (h : HeatRecord) (status : LaneStatus) (s : State) : State :=
  { s with lanes := tab fun lane =>
      if h.enters lane then .cleared status (s.lanes[lane]).label else s.lanes[lane] }

/-- The lowest entered lane that is not installed (R21, R36). -/
def missingLane (p : Profile) (h : HeatRecord) : Option Lane :=
  allLanes.find? fun lane => h.enters lane && !p.installed[lane]

/-- A taken ARM (R37). -/
def State.armHeat (h : HeatRecord) (s : State) : State :=
  let s := { s with
    heat := { s.heat with race := .armed, setMark := none, startMark := none, guardEnd := none }
    store := { s.store with setupOpen := false } }
  let s := s.clearEntered h .entered
  let s := if startWall h = .a then s.powerScanner else s
  s.notifyHeat .loaded .arm

/-- ARM (R36). -/
def State.handleArm (payload : List Byte) (s : State) : Handled :=
  if payload ≠ [] then s.deny (.badField 0 none)
  else
    match s.store.inForce with
    | none => s.deny .notConfigured
    | some p =>
      match s.heat.current with
      | none => s.deny .wrongState
      | some h =>
        if s.heat.race ≠ .loaded then s.deny .wrongState
        else
          match missingLane p h with
          | some lane => s.deny (.badField 6 (some lane.val))
          | none =>
            if s.timebase.state ≠ .locked then s.deny .notReady
            else if s.busy then s.deny .busy
            else if s.board.test then s.deny .testActive
            else (s.armHeat h).accept (.armed (decide (startWall h = .a)))

/-- An ARMED heat returns to LOADED: by DISARM (R38), or by the timebase reaching UNLOCKED (R8). -/
def State.disarmHeat (cause : HeatCause) (s : State) : State :=
  let s := { s with heat := { s.heat with race := .loaded, setMark := none, guardEnd := none } }
  let s := match s.heat.current with
    | none => s
    | some h => s.clearEntered h .idle
  (s.scannerOff.notifyHeat .armed cause).holdoverReturn

/-- DISARM (R38). -/
def State.handleDisarm (payload : List Byte) (s : State) : Handled :=
  if payload ≠ [] then s.deny (.badField 0 none)
  else if s.heat.race ≠ .armed then s.deny .wrongState
  else (s.disarmHeat .disarm).accept .empty

/-! ### Start (R40, R41) -/

/-- A stamp within the re-trigger guard (R40, R42). -/
def State.withinGuard (stamp : Nat) (s : State) : Bool :=
  (s.heat.guardEnd.map fun t => decide (stamp < t)).getD false

/-- Every entered lane becomes RACING, with leg 1, expected length 1 and gate base 0 (R41, R76, R79). -/
def State.raceEntered (h : HeatRecord) (s : State) : State :=
  { s with lanes := tab fun lane =>
      if h.enters lane then
        { s.lanes[lane] with status := .racing, leg := 1, expected := 1, gateBase := 0 }
      else s.lanes[lane] }

/-- A START signal is taken (R41): the marks, the lanes, the pads, the reactions, the HEAT_STATE notice
and after it the REACTION notice; then the closures that have already lasted Q ticks (R51, R55). -/
def State.startHeat (h : HeatRecord) (stamp : Nat) (cause : HeatCause) (s : State) : State :=
  let s := { s with
    heat := { s.heat with race := .running, startMark := some stamp, guardEnd := none }
    board := { s.board with hold := .none } }
  let s := ((s.raceEntered h).armPads stamp).settleStart h stamp
  ((s.notifyHeat .armed cause).notifyReactions (s.settledAtStart h)).qualifyArmed

/-- The START request (R40). -/
def State.handleStart (payload : List Byte) (s : State) : Handled :=
  if payload ≠ [] then s.deny (.badField 0 none)
  else if s.heat.race ≠ .armed then s.deny .wrongState
  else if s.withinGuard s.masterTime then s.deny .busy
  else
    match s.heat.current with
    | none => s.deny .wrongState
    | some h => (s.startHeat h s.masterTime .startRequest).accept (.started s.masterTime)

/-! ### Recall (R42 to R44) -/

/-- The recall window of the profile in force, in ticks (R43). -/
def State.recallTicks (s : State) : Nat :=
  limitTicks ((s.store.inForce.map (·.recallWindow)).getD 0)

/-- A stamp whose race time is less than the recall window; none is under a window of 0 (R43). -/
def State.withinRecall (stamp : Nat) (s : State) : Bool :=
  match s.heat.startMark with
  | none => false
  | some start =>
    decide (raceTimeOf start stamp < (s.recallTicks : Int)) && s.recallTicks != 0

/-- A recall is taken (R44). -/
def State.recallHeat (h : HeatRecord) (stamp : Nat) (cause : HeatCause) (s : State) : State :=
  let before := s.lanes
  let s := { s with
    heat := { s.heat with
      race := .armed, startMark := none, setMark := none
      guardEnd := some (stamp + Config.guardTicks) }
    board := { s.board with hold := .none }
    placing := { s.placing with order := [] } }
  let s := s.disarmPads.clearEntered h .entered
  (s.notifyPlaces .recall before).notifyHeat .running cause

/-- The RECALL request (R43). -/
def State.handleRecall (payload : List Byte) (s : State) : Handled :=
  if payload ≠ [] then s.deny (.badField 0 none)
  else if s.heat.race ≠ .running then s.deny .wrongState
  else if s.withinRecall s.masterTime = false then s.deny .tooLate
  else
    match s.heat.current with
    | none => s.deny .wrongState
    | some h => (s.recallHeat h s.masterTime .recallRequest).accept .empty

/-! ### The end of a heat (R46, R92, R93) -/

/-- Step 3 of the ending: a lane still RACING becomes CLOSED; with no departure counted its reaction is
NOT_ON_PLATFORM (R93, R123). Each lane has a REACTION notice of its own, by R124's last sentence, though its
first one could be read as one notice for all of them (log entry 55: DESIGN CHOICE). -/
def State.closeRacing (h : HeatRecord) (lane : Lane) (s : State) : State :=
  if h.enters lane = true ∧ (s.lanes[lane]).status = .racing then
    (s.updLane lane fun r => { r with status := .closed }).notOnPlatform lane
  else s

/-- Step 2 of the ending, for an entered lane (R93). -/
def State.closeOpen (h : HeatRecord) (lane : Lane) (s : State) : State :=
  if h.enters lane then s.closeWindow h .heatEnd lane else s

/-- The board driver at the entry to JUDGING: the end time is frozen, and a hold in force is spent
(R161, R162). -/
def State.freezeBoard (s : State) : State :=
  { s with board :=
      { s.board with
        frozen := some (hundredths s.raceTicks)
        hold := match s.board.hold with
          | .holding _ => .spent
          | other => other } }

/-- Step 2 of the ending: every open window of the heat closes with derivation, in lane order (R46,
R93). -/
def State.closeWindows (h : HeatRecord) (s : State) : State := s.eachLane (State.closeOpen h)

/-- Step 3: every lane still RACING becomes CLOSED, in lane order (R46, R93). -/
def State.closeLanes (h : HeatRecord) (s : State) : State := s.eachLane (State.closeRacing h)

/-- Step 4: every PENDING exchange is settled UNJUDGED, in lane order (R46, R130). -/
def State.settleExchanges (h : HeatRecord) (s : State) : State :=
  s.eachLane fun lane s => s.settlePending h lane .heatEnd

/-- Step 6: the race state becomes JUDGING (R46). -/
def State.enterJudging (s : State) : State :=
  ({ s with heat := { s.heat with race := .judging } } : State).freezeBoard

/-- A heat is ended from RUNNING, in the steps of R46; a HOLDOVER that waited returns after the
HEAT_STATE notice (R6). -/
def State.endHeat (h : HeatRecord) (cause : HeatCause) (s : State) : State :=
  let s := ((s.disarmPads.closeWindows h).closeLanes h).settleExchanges h
  (s.scannerOff.enterJudging.notifyHeat .running cause).holdoverReturn

/-- The heat is ended when the event leaves no entered lane RACING (R47). -/
def State.endIfDone (h : HeatRecord) (s : State) : State :=
  if s.allDone h then s.endHeat h .allLanesDone else s

/-- END_HEAT (R45). -/
def State.handleEndHeat (payload : List Byte) (s : State) : Handled :=
  if payload ≠ [] then s.deny (.badField 0 none)
  else if s.heat.race ≠ .running then s.deny .wrongState
  else
    match s.heat.current with
    | none => s.deny .wrongState
    | some h => (s.endHeat h .endRequest).accept .empty

/-- CLOSE_LANE (R92). -/
def State.handleCloseLane (payload : List Byte) (s : State) : Handled :=
  match payload with
  | [byte] =>
    if 9 < byte.toNat then s.deny (.badField 1 none)
    else if s.heat.race ≠ .running then s.deny .wrongState
    else
      let lane := laneOf byte.toNat
      match s.heat.current with
      | none => s.deny .wrongState
      | some h =>
        if (s.lanes[lane]).status ≠ .racing then s.deny .wrongState
        else
          let s' := s.updLane lane fun r => { r with status := .closed, window := none }
          let s' := (s'.notOnPlatform lane).settlePending h lane .laneClosed
          (s'.endIfDone h).accept (.laneClosed lane .closed)
  | _ => s.deny (.badField 0 none)

/-- The race-time limit: OVERTIME is set, then the heat ends (R48). -/
def State.overtime (s : State) : State :=
  match s.heat.current with
  | none => s
  | some h =>
    State.endHeat h .overtime
      { s with heat := { s.heat with flags := { s.heat.flags with overtime := true } } }

/-! ### The master-time limit (R8) -/

/-- The timebase at the limit: UNLOCKED, with the monitor and steering stopped (R1, R8). -/
def State.stopTimebase (s : State) : State :=
  { s with
    clock := max s.clock Config.masterLimit
    timebase := { s.timebase with state := .unlocked, goodCount := 0, steering := false } }

/-- The heat at the limit: an ARMED one is disarmed, a RUNNING one ended (R8). -/
def State.limitHeat (s : State) : State :=
  match s.heat.race, s.heat.current with
  | .armed, _ => s.disarmHeat .timebaseLimit
  | .running, some h => s.endHeat h .timebaseLimit
  | _, _ => s

/-- Master time reaches its limit: the timebase and the heat, then a measurement and a probe abandoned,
and the TIMEBASE notice after every notice these make (R8, R71, R134). -/
def State.reachLimit (s : State) : State :=
  State.notifyTimebase s.timebase.state .limitReached
    ((s.stopTimebase.limitHeat.abandonLeveling).endProbe false)

/-- QUERY_LANE (R95). With no heat current there is no inhibit, and the gate-open time is given as the gate
base itself, a point R95 leaves open (log entry 42: DESIGN CHOICE). -/
def State.handleQueryLane (payload : List Byte) (s : State) : Handled :=
  match payload with
  | [byte, first] =>
    if 9 < byte.toNat then s.deny (.badField 1 none)
    else if first = 0#8 ∨ 60 < first.toNat then s.deny (.badField 2 none)
    else
      let r := s.lanes[laneOf byte.toNat]
      let gate := (s.heat.current.map fun h => gateOpen h r).getD r.gateBase
      s.accept (.laneReport s.heat.race r gate ((r.lengths.drop (first.toNat - 1)).take 12))
  | _ => s.deny (.badField 0 none)

end Sys2Proof.Machine
end

