-- ==== Sys2Proof/Machine/Link.lean ====
section
/-!
DEFINITION. The console link (chapter 10): the requests and their owners, STATUS, the request buffer and
the reply list, the transmitter and the receiver.
-/

namespace Sys2Proof.Machine

/-! ### STATUS and RESTART -/

/-- What STATUS reports, taken at execution (R16, R32, R52, R72, R96, R135, R153, R170, R182, R191). A
button's lockout is in force while the execution stamp is before its end, as R64 holds a press against it;
master time held at its limit so shows a lockout that ends beyond the limit until the next reset (log
entry 41: DESIGN CHOICE). -/
def State.statusReport (s : State) : StatusReport where
  timebase := s.timebase.state
  source := s.timebase.source
  master := s.masterTime
  goodCount := if s.timebase.source = .external then s.timebase.goodCount else 0
  lastWindow := if s.timebase.source = .external then s.timebase.lastWindow else none
  holdover := s.heat.current.map fun _ => s.heat.flags.holdover
  race := s.heat.race
  numbers := s.numbers
  queued := s.heat.queue.length
  flags := s.heat.current.map fun _ => s.heat.flags
  setMark := s.heat.setMark
  startMark := s.heat.startMark
  raceTime := s.raceTime
  guardEnd := s.heat.guardEnd.map fun t => (t, decide (s.masterTime < t))
  padsArmed := s.wall.armed
  pads := s.wall.pads
  buttons := tab fun ix =>
    ((s.wall.buttons[ix]).level, lockedOut (s.wall.buttons[ix]).lockout s.masterTime)
  level := s.wall.level
  levelCount := s.wall.results.length
  lanes := s.lanes
  scanner := s.scanner.state
  settlingEnd := s.scanner.settlingEnd
  lastTest := s.scanner.lastTest
  probing := s.scanner.probe.isSome
  channels := s.scanner.channels
  order := s.placing.order
  locked := s.placing.locked
  archived := s.placing.archive.length
  linked := s.placing.linked
  silent := !s.configured
  refresh := s.board.mode
  test := s.board.test
  override := s.board.override
  hold := s.board.hold
  frozen := s.board.frozen
  cursor := s.board.cursor
  pendingRows := s.board.pendingRows
  periodic := s.board.periodic
  image := s.board.image
  mode := s.store.mode
  configured := s.configured
  writeDone := s.store.write.map (·.done)
  setupOpen := s.store.setupOpen
  record := s.store.record
  buffered := s.link.buffer.length
  replies := s.link.replies.length
  probeAwaited := s.scanner.probe.isSome
  notices := s.link.notices.length
  gap := s.link.gap
  discards := s.link.discards

/-- STATUS, accepted in every state (R182). -/
def State.handleStatus (payload : List Byte) (s : State) : Handled :=
  if payload ≠ [] then s.deny (.badField 0 none) else s.accept (.statusReport s.statusReport)

/-- RESTART, accepted in every state: no further request is executed, and the warm reset follows its
reply (R177, R187). -/
def State.handleRestart (payload : List Byte) (s : State) : Handled :=
  if payload ≠ [] then s.deny (.badField 0 none)
  else ({ s with link := { s.link with restarting := true } } : State).accept .empty

/-! ### Execution (R176) -/

/-- A request is taken by its owning block's rule (section 10.5). -/
def State.handle (r : Request) (s : State) : Handled :=
  match r.kind with
  | .loadHeat => s.handleLoadHeat r.payload
  | .withdrawHeat => s.handleWithdrawHeat r.payload
  | .queryQueue => s.handleQueryQueue r.payload
  | .arm => s.handleArm r.payload
  | .disarm => s.handleDisarm r.payload
  | .start => s.handleStart r.payload
  | .recall => s.handleRecall r.payload
  | .endHeat => s.handleEndHeat r.payload
  | .closeLane => s.handleCloseLane r.payload
  | .nextHeat => s.handleNextHeat r.payload
  | .amend => s.handleAmend r.payload
  | .officialise => s.handleOfficialise r.payload
  | .lockResults => s.handleLockResults r.payload
  | .status => s.handleStatus r.payload
  | .queryLane => s.handleQueryLane r.payload
  | .queryArchive => s.handleQueryArchive r.payload
  | .archiveClear => s.handleArchiveClear r.payload
  | .boardMode => s.handleBoardMode r.payload
  | .boardTest => s.handleBoardTest r.payload
  | .boardText => s.handleBoardText r.payload
  | .timebaseRestart => s.handleTimebaseRestart r.payload
  | .profileRead => s.handleProfileRead r.payload
  | .profileWrite => s.handleProfileWrite r.payload
  | .levelPads => s.handleLevelPads r.payload
  | .probeBlocks => s.handleProbeBlocks r.tag r.payload
  | .restart => s.handleRestart r.payload

/-- The reply of an executed request joins the reply list; an accepted PROBE_BLOCKS makes none (R176,
R177). -/
def Handled.replied (h : Handled) (r : Request) : State :=
  match h.answer with
  | none => h.state
  | some answer => h.state.pushReply ⟨.execution, some r.kind, r.tag, answer⟩

/-- A request that has left the buffer is executed: its effect, its reply, and what it changes on the
board (R176). -/
def State.executed (r : Request) (s : State) : State := ((s.handle r).replied r).eventEnd

/-- The request at the head of the buffer leaves it and is executed (R176). -/
def State.executeHead (s : State) : State :=
  match s.link.buffer with
  | [] => s
  | r :: rest => State.executed r { s with link := { s.link with buffer := rest } }

/-- The reply list holds an execution reply (R176). -/
def Link.executionWaits (l : Link) : Bool := l.replies.any fun r => r.cls == .execution

/-- The head of the buffer is executed: no execution reply waits, and no RESTART has been executed (R176,
R177). -/
def Link.canExecute (l : Link) : Bool := !l.buffer.isEmpty && !l.executionWaits && !l.restarting

/-! ### The transmitter (R179, R180) -/

/-- The line is free and something is ready to send (R179). -/
def Link.canBegin (l : Link) : Bool := l.line.isNone && (!l.replies.isEmpty || !l.notices.isEmpty)

/-- A frame begins: the oldest reply, or else the oldest notice, which carries the GAP flag and clears
the mark (R179, R180). -/
def Link.begin (clock : Nat) (l : Link) : Link :=
  match l.replies, l.notices with
  | r :: rest, _ => { l with replies := rest, line := some ⟨.reply r, clock⟩ }
  | [], n :: rest => { l with notices := rest, gap := false, line := some ⟨.notice n l.gap, clock⟩ }
  | [], [] => l

/-- The transmitter begins the next frame when it can (R179). -/
def State.transmit (s : State) : State :=
  if s.link.canBegin then { s with link := s.link.begin s.clock } else s

/-- The frame on the console line is the reply to an accepted RESTART (R177). -/
def Link.sendsRestart (l : Link) : Bool :=
  match l.line with
  | some ⟨.reply r, _⟩ =>
    r.cls == .execution && r.kind == some .restart && r.answer == .accepted .empty
  | _ => false

/-- Execution and transmission go on while they can: an execution whenever no execution reply waits, a
frame whenever the line is free (R176, R179). -/
def State.serve : Nat → State → State
  | 0, s => s
  | fuel + 1, s =>
    if s.link.canExecute then s.executeHead.serve fuel
    else if s.link.canBegin then s.transmit.serve fuel
    else s

/-- Every waiting request can be executed and one frame begun, so this many rounds are enough. -/
def State.serveAll (s : State) : State := s.serve (s.link.buffer.length + 2)

/-- What an event that is not of the link leaves to do: its end, and a free line begins what is ready
(R155, R179). -/
def State.settle (s : State) : State := s.eventEnd.transmit

/-! ### Arriving requests (R175, R178) -/

/-- An immediate reply is made, or as a seventh is not: its frame is then dropped (R178). -/
def State.immediate (reply : Reply) (s : State) : State :=
  if (s.link.replies.filter fun r => r.cls == .immediate).length < Config.immediateMax then
    s.pushReply reply
  else s.discard 1

/-- A request frame that passed its check joins the buffer, or is answered BUSY (R175). -/
def State.joinBuffer (r : Request) (s : State) : State :=
  if s.link.buffer.length < Config.bufferMax then
    { s with link := { s.link with buffer := s.link.buffer ++ [r] } }
  else s.immediate ⟨.immediate, some r.kind, r.tag, .refused .busy⟩

/-- A request arrives complete; it is executed at once when nothing stands in its way (R175, R176). -/
def State.submit (r : Request) (s : State) : State := (s.joinBuffer r).serveAll

/-- A frame that passed its check: a request, or a kind that names none (R175). -/
def State.acceptFrame (bytes : List Byte) (s : State) : State :=
  let kind := bytes.getD 1 0
  let tag := bytes.getD 2 0
  match requestKindOf kind with
  | some k => s.submit ⟨k, tag, (bytes.drop 5).dropLast.dropLast⟩
  | none => (s.immediate ⟨.immediate, none, tag, .refused (.unknownRequest kind)⟩).serveAll

/-! ### The receiver (R173, R174) -/

/-- What a byte makes of the frame in progress: it goes on (or HUNT does), it is complete and passes, or
it is dropped with these bytes held. -/
inductive Received where
  | more (held : List Byte)
  | complete (frame : List Byte)
  | dropped (held : List Byte)
  deriving DecidableEq, Repr

/-- The payload length a frame in progress states, once five bytes are held (R173). -/
def statedLength (held : List Byte) : Nat := wordAt held 3

/-- A complete frame's check: the CRC-16 from the kind byte through the payload equals the last two
bytes (R174). -/
def crcPasses (frame : List Byte) : Bool :=
  (crc16 (frame.drop 1).dropLast.dropLast).toNat == wordAt frame (frame.length - 2)

/-- The receiver takes a byte (R173, R174). -/
def receiveByte (held : List Byte) (b : Byte) : Received :=
  if held = [] ∧ b ≠ 0xA5#8 then .more []
  else
    let held := held ++ [b]
    if held.length < 5 then .more held
    else if Config.payloadMax < statedLength held then .dropped held
    else if held.length < 7 + statedLength held then .more held
    else if crcPasses held then .complete held
    else .dropped held

/-- What the receiver hands on: a frame that passed, or a dropped frame to count. -/
inductive RxEvent where
  | frame (bytes : List Byte)
  | drop
  deriving DecidableEq, Repr

/-- The receiver takes bytes in order. A dropped frame's bytes after its start byte are hunted through
before the bytes that follow (R174). -/
def receiveBytes : Nat → List Byte → List Byte → List Byte × List RxEvent
  | 0, held, _ => (held, [])
  | _ + 1, held, [] => (held, [])
  | fuel + 1, held, b :: rest =>
    match receiveByte held b with
    | .more held => receiveBytes fuel held rest
    | .complete frame =>
      let r := receiveBytes fuel [] rest
      (r.1, .frame frame :: r.2)
    | .dropped held =>
      let r := receiveBytes fuel [] (held.drop 1 ++ rest)
      (r.1, .drop :: r.2)

/-- Rounds enough for `n` bytes: each drop takes one byte for good. -/
def receiveFuel (n : Nat) : Nat := (n + 1) * (n + 1)

/-- Bytes arrive behind those held. -/
def receive (held bytes : List Byte) : List Byte × List RxEvent :=
  receiveBytes (receiveFuel (held.length + bytes.length)) held bytes

/-- The frame in progress is dropped, and the bytes after its start byte are hunted through (R173,
R174). -/
def dropFrame (held : List Byte) : List Byte × List RxEvent :=
  let r := receive [] (held.drop 1)
  (r.1, .drop :: r.2)

/-- A silence drops the frame in progress, and every incomplete frame found among its bytes, whose last
byte is as old (R173; log entry 16). -/
def dropAll : Nat → List Byte → List RxEvent
  | 0, _ => []
  | fuel + 1, held =>
    if held = [] then []
    else
      let r := dropFrame held
      r.2 ++ dropAll fuel r.1

/-- The link takes up what the receiver hands on, in order. -/
def State.takeReceived (events : List RxEvent) (s : State) : State :=
  events.foldl
    (fun s e =>
      match e with
      | .frame bytes => s.acceptFrame bytes
      | .drop => s.discard 1)
    s

/-- The receiver's state after bytes taken now. -/
def State.setHeld (held : List Byte) (s : State) : State :=
  { s with link := { s.link with held := held } }

/-- Bytes arrive on the console line now (R173 to R175). -/
def State.receiveNow (bytes : List Byte) (s : State) : State :=
  let r := receive s.link.held bytes
  let s := { s with link := { s.link with held := r.1, lastByte := s.clock } }
  s.takeReceived r.2

/-- A byte with a framing error: discarded in HUNT, and otherwise the frame in progress is dropped
(R173). -/
def State.framingError (s : State) : State :=
  if s.link.held = [] then s
  else
    let r := dropFrame s.link.held
    (s.setHeld r.1).takeReceived r.2

/-- The silence ends the frame in progress (R173). -/
def State.silence (s : State) : State :=
  (s.setHeld []).takeReceived (dropAll s.link.held.length s.link.held)

end Sys2Proof.Machine
end

