-- ==== Sys2Proof/Machine/Timers.lean ====
section
/-!
DEFINITION. How time passes, with the two limits it can come to and the windows of the reference monitor
in it; and when an event comes about: at a moment the state fixes, or that the command gives. The moments
themselves stand in one place, for the events and for the idle tick.
-/

namespace Sys2Proof.Machine

/-! ### The limits (R1, R8, R13, R48) and the monitored ticks (R3) -/

/-- The race-time limit of a RUNNING heat, as a master time (R13). -/
def State.raceLimitDeadline (s : State) : Option Nat :=
  match s.heat.race, s.heat.startMark with
  | .running, some start => some (start + Config.raceLimit)
  | _, _ => none

/-- The race-time limit comes at or before a moment: below the master-time limit, which otherwise ends the
heat instead (R13). -/
def State.raceLimitBy (moment : Nat) (s : State) : Bool :=
  s.raceLimitDeadline.any fun t => decide (t ≤ max s.clock moment ∧ t < Config.masterLimit)

/-- The master-time limit comes at or before a moment (R1, R8). -/
def State.masterLimitBy (moment : Nat) (s : State) : Bool :=
  s.timebase.state != .unlocked && decide (Config.masterLimit ≤ max s.clock moment)

/-- No limit comes at or before a moment. -/
def State.noLimitBy (moment : Nat) (s : State) : Bool :=
  !s.raceLimitBy moment && !s.masterLimitBy moment

/-- A window without a reference cycle would change the timebase: the monitor runs, and there is still a
lock, a count or a better last window to lose (R3, R5, R16). -/
def State.watches (s : State) : Bool :=
  s.monitoring &&
    !(s.timebase.state != .locked && s.timebase.goodCount == 0 && s.timebase.lastWindow == some false)

/-- Nothing of its own happens as time passes up to a moment: no limit comes at or before it, and no tick
on the way is a window that loses anything. -/
def State.quietUntil (moment : Nat) (s : State) : Bool :=
  s.noLimitBy moment && !(s.watches && decide (s.clock < moment))

/-- The race-time limit's own event, at its tick (R48). -/
def State.takeRaceLimit (s : State) : State :=
  match s.raceLimitDeadline with
  | none => s
  | some t => (s.advance t).overtime.settle

/-- The master-time limit's own event (R8). -/
def State.takeMasterLimit (s : State) : State := s.reachLimit.settle

/-- The clock comes to a moment, or stays when that is past. A limit that comes by then is an event of its
own before whatever happens at the moment: no stamp at or past the race-time limit finds the heat RUNNING,
and none at the master-time limit finds it ARMED or RUNNING (R1, R8, R48; log entry 8). -/
def State.reach (moment : Nat) (s : State) : State :=
  let s := if s.raceLimitBy moment then s.takeRaceLimit else s
  let s := if s.masterLimitBy moment then s.takeMasterLimit else s
  s.advance moment

/-- A window of the reference monitor ends with the tick in progress, when it is one that the event is
about, before the tick and at its end (R1, R3). -/
def State.windowEnds (applies : State → Bool) (f : State → State) (s : State) : State :=
  if applies s then
    let s := s.reach (s.clock + 1)
    if applies s then (f s).settle else s
  else s

/-- The tick in progress ends as a window in which no reference cycle came: a bad one (R3, R5). -/
def State.missWindow (s : State) : State := s.windowEnds State.monitoring (State.judgeWindow 0)

/-- Time passes up to a moment, with what it brings by itself. A REFERENCE_WINDOW_END ends every tick that
has reference cycles; a monitored tick that passes without one has none, and is a bad window. The first
such window takes all there is to lose, so those behind it up to the moment change nothing (R3, R5; log
entry 13). Then come the limits. -/
def State.pass (moment : Nat) (s : State) : State :=
  let s := if s.watches && decide (s.clock < moment) then s.missWindow else s
  s.reach moment

/-! ### Events at a deadline -/

/-- A deadline has come. -/
def State.comes (deadline : Option Nat) (s : State) : Bool := deadline.any fun t => decide (t ≤ s.clock)

/-- Something happens at a deadline that the state gives: time passes up to it, or is past it already,
and then it happens, unless what comes on the way has taken the deadline away. Without a deadline it has no
effect. -/
def State.atDeadline (deadline : State → Option Nat) (f : State → State) (s : State) : State :=
  match deadline s with
  | none => s
  | some t =>
    let s := s.pass t
    if s.comes (deadline s) then f s else s

/-- An event at a deadline, with what it leaves for the board and the console line. -/
def State.ifDue (deadline : State → Option Nat) (f : State → State) (s : State) : State :=
  s.atDeadline deadline fun s => (f s).settle

/-! ### Deadlines -/

/-- The end of an INTERNAL acquisition (R4). -/
def State.acquiringDeadline (s : State) : Option Nat :=
  if s.timebase.state = .acquiring ∧ s.timebase.source = .internal then some s.timebase.acquiringEnd
  else none

/-- The first multiple of 1,000 ticks of race time that is not before `moment`, while RUNNING and below
the race-time limit (R13). -/
def State.tenthDeadline (moment : Nat) (s : State) : Option Nat :=
  match s.heat.race, s.heat.startMark with
  | .running, some start =>
    let count := (max moment s.clock - start + 999) / 1000
    if count * 1000 < Config.raceLimit then some (start + count * 1000) else none
  | _, _ => none

/-- When a QUALIFYING pad's closure has lasted Q ticks (R58). -/
def State.qualifyDeadline (pad : PadIx) (s : State) : Option Nat :=
  match (s.wall.pads[pad]).capture with
  | .qualifying lead => some (lead + s.qualifyTicks)
  | _ => none

/-- The closes-at of a lane's window while RUNNING, as a master time (R88). One that lies at or past the
race-time limit is never reached with the window open: the limit comes first and closes it (R111; log
entry 8). -/
def State.windowDeadline (lane : Lane) (s : State) : Option Nat :=
  match s.heat.race, s.heat.startMark, (s.lanes[lane]).window with
  | .running, some start, some w => some (start + w.closesAt)
  | _, _, _ => none

/-- The settling end while SETTLING (R114). -/
def State.settlingDeadline (s : State) : Option Nat :=
  if s.scanner.state = .settling then s.scanner.settlingEnd else none

/-- The end of the wait of a pad in leveling (R68). -/
def State.levelWaitDeadline (s : State) : Option Nat :=
  match s.wall.level with
  | .measuring _ (.waiting began) _ => some (began + Config.levelWaitTicks)
  | _ => none

/-- The end of the drive of a pad in leveling (R69). -/
def State.levelDriveDeadline (s : State) : Option Nat :=
  match s.wall.level with
  | .measuring _ (.driving start _) _ => some (start + Config.levelDriveTicks)
  | _ => none

/-- The board slot: of the image in CONTINUOUS, or of the test (R166, R169). -/
def State.slotDeadline (s : State) : Option Nat :=
  if s.configured = true ∧ (s.board.mode = some .continuous ∨ s.board.test = true) then s.board.nextSlot
  else none

/-- The periodic full pass of ON_CHANGE (R167). -/
def State.passDeadline (s : State) : Option Nat :=
  if s.configured = true ∧ s.board.mode = some .onChange ∧ s.board.test = false then s.board.periodic
  else none

/-- The hold end while HOLDING in RUNNING (R161). -/
def State.holdDeadline (s : State) : Option Nat :=
  match s.heat.race, s.board.hold with
  | .running, .holding ends => some ends
  | _, _ => none

/-- The end of the receiver's silence, while a frame is in progress (R173). -/
def State.silenceDeadline (s : State) : Option Nat :=
  if s.link.held = [] then none else some (s.link.lastByte + Config.silenceTicks)

/-- When the last byte of the frame on the console line has left, at the line's rate (R172). -/
def State.transmitDeadline (s : State) : Option Nat :=
  s.link.line.map fun f => f.began + consoleTicks (messageFrame f.message).length

/-- When the last byte of the frame on the board line has left, at the line's rate (R185). -/
def State.boardDeadline (s : State) : Option Nat :=
  s.board.line.map fun f => f.began + boardTicks (rowFrame f).length

/-- The next conversion of a channel not before `moment`: of a heat's sweeps one not yet taken, of a
probe's sweep the one there is (R113, R134). -/
def State.sampleDeadline (lane : Lane) (moment : Nat) (s : State) : Option Nat :=
  match s.scanner.state, s.scanner.sweepStart with
  | .scanning, some first =>
    if s.scanner.probe.isSome then
      if (s.scanner.probeReadings[lane]).isSome then none else some (first + lane.val / 2)
    else some ((s.scanner.channels[lane]).nextSample first lane (max s.clock moment))
  | _, _ => none

/-- The last conversion of a probe's sweep (R134). -/
def State.sweepDeadline (s : State) : Option Nat :=
  match s.scanner.state, s.scanner.sweepStart, s.scanner.probe with
  | .scanning, some first, some _ => some (first + 4)
  | _, _, _ => none

/-- When the store write in flight completes (R189). -/
def State.writeDeadline (s : State) : Option Nat := s.store.write.map (·.done)

/-- When the reply to an accepted RESTART has left the console line (R177). -/
def State.restartDeadline (s : State) : Option Nat :=
  if s.link.sendsRestart then s.transmitDeadline else none

end Sys2Proof.Machine
end

