-- ==== Sys2Proof/Machine/Power.lean ====
section
/-!
DEFINITION. Resets and start-up (sections 11.2 and 11.3): power, the RESET pin, the warm reset behind
RESTART, and the seven steps.
-/

namespace Sys2Proof.Machine

/-- Every pad's record after a reset: the line's level kept, nothing else (R73). -/
def resetPad (r : PadRecord) : PadRecord := ⟨r.level, none, .unarmed, 0⟩

/-- Every button's record after a reset: the line's level kept, no lockout (R73). -/
def resetButton (r : ButtonRecord) : ButtonRecord := ⟨r.level, none⟩

/-- What a reset leaves: the levels of the lines, the archive, the profile store's content, the standby
latch and the mode, and everything else as after a reset (R17, R33, R53, R73, R97, R136, R154, R171,
R183, R192). A store write in flight has left no content that passes its check (R189). -/
def State.cutShort (power : Power) (s : State) : State :=
  { State.reset with
    power := power
    standbyLatch := s.standbyLatch
    heat := { State.reset.heat with
      setLine := s.heat.setLine, startLine := s.heat.startLine, recallLine := s.heat.recallLine }
    wall := { State.reset.wall with
      pads := tab fun pad => resetPad s.wall.pads[pad]
      buttons := tab fun ix => resetButton s.wall.buttons[ix] }
    placing := { State.reset.placing with archive := s.placing.archive, check := s.placing.check }
    store := { s.store with inForce := none, write := none, setupOpen := true }
    pending := s.pending }

/-- Power is applied: the standby latch is read and cleared (R187). What was read is held until START_UP
fixes the kind of reset. When power goes again before that, the next start reads a clear latch: a point
the manual leaves open (log entry 45: DESIGN CHOICE). -/
def State.applyPower (s : State) : State :=
  match s.power with
  | .off => { (s.cutShort (.held .power s.standbyLatch)) with standbyLatch := false }
  | _ => s

/-- The RESET pin is asserted on a running part (R187). A part that is already held in reset stays held, with
the cause of the reset it is in (log entry 53: DESIGN CHOICE). -/
def State.assertReset (s : State) : State :=
  match s.power with
  | .running => s.cutShort (.held .resetPin false)
  | _ => s

/-- The warm reset behind an accepted RESTART (R177, R187). -/
def State.warmReset (s : State) : State := s.cutShort (.held .restartRequest false)

/-- Main power goes (R187): everything but the store, the archive memory and the standby latch is
lost. -/
def State.removePower (s : State) : State :=
  match s.power with
  | .off => s
  | _ => s.cutShort .off

/-- The standby supply falls too low while main power is off (R187). -/
def State.setLatch (s : State) : State :=
  match s.power with
  | .off => { s with standbyLatch := true }
  | _ => s

/-- The kind of a reset (R187). -/
def resetKind (cause : ResetCause) (latchWasSet archiveSound : Bool) : ResetKind :=
  match cause with
  | .power => if latchWasSet || !archiveSound then .coldStart else .standbyRestart
  | _ => .warmReset

/-- The mode a strap gives (R186). -/
def strapMode (high : Bool) : Mode := if high then .service else .competition

/-- What the archive memory reads as at start-up, entries and check value: what was written to it while
it has been held, and otherwise a free value of as many entries as it can hold (R154, R187; log
entry 10). -/
def readMemory (held : Bool) (p : Placing) : List ArchiveEntry × Nat :=
  if held then (p.archive, p.check)
  else
    let found := Config.disturbed p.archive p.check
    (found.1.take Config.archiveMax, found.2)

/-- The archive passes its check: the check value agrees with the entries (R154). -/
def passesCheck (memory : List ArchiveEntry × Nat) : Bool :=
  decide (Config.checkValue memory.1 = memory.2)

/-- Start-up from a reset: the strap, the profile check, the archive check and the kind of reset, the
timebase's acquisition, IDLE, the setup window, and the board's full pass when configured (R171,
R188). -/
def State.startUp (cause : ResetCause) (latchWasSet strapHigh memoryHeld : Bool) (s : State) : State :=
  let memory := readMemory memoryHeld s.placing
  let archiveSound := passesCheck memory
  let kind := resetKind cause latchWasSet archiveSound
  let inForce := s.store.stored.filter Profile.inRange
  let archive := if kind = .coldStart ∨ archiveSound = false then [] else memory.1
  { s.setArchive archive s.placing.linked with
    power := .running
    timebase :=
      { State.reset.timebase with
        source := (inForce.map (·.source)).getD .internal
        acquiringEnd := s.clock + Config.acquiringTicks }
    board := { s.board with mode := inForce.map (·.defaultMode), passDue := true }
    store :=
      { s.store with
        mode := strapMode strapHigh
        inForce := inForce
        setupOpen := true
        record := ⟨kind, cause, inForce.isSome, archiveSound⟩ } }

/-- Start-up, of a part held in reset (R188). -/
def State.beginRunning (strapHigh memoryHeld : Bool) (s : State) : State :=
  match s.power with
  | .held cause latchWasSet => (s.startUp cause latchWasSet strapHigh memoryHeld).settle
  | _ => s

/-- The last byte of a frame leaves the console line: behind a RESTART reply comes the warm reset,
otherwise the line is free (R177, R179). -/
def State.lineFree (s : State) : State :=
  if s.link.sendsRestart then s.warmReset
  else ({ s with link := { s.link with line := none } } : State).serveAll

end Sys2Proof.Machine
end

