-- ==== Sys2Proof/Machine/Events.lean ====
section
/-!
DEFINITION. The events as commands: lines, timers, the scanner, the board line and the console line. An
event that has no place in the present state (its deadline is not set, its unit is off) has no effect.
While the part does not run, a line only takes its level (log entry 9).
-/

namespace Sys2Proof.Machine

/-! ### Power and resets (R177, R187, R188) -/

/-- POWER_UP (R187). -/
def execPowerUp (s : State) : Host.Outcome State Fault Refusal := .next s.applyPower

/-- RESET_PIN (R187). -/
def execResetPin (s : State) : Host.Outcome State Fault Refusal := .next s.assertReset

/-- STANDBY_LATCH_SET (R187). -/
def execStandbyLatchSet (s : State) : Host.Outcome State Fault Refusal := .next s.setLatch

/-- START_UP (R188). -/
def execStartUp (strapHigh memoryHeld : Bool) (s : State) : Host.Outcome State Fault Refusal :=
  .next (s.beginRunning strapHigh memoryHeld)

/-- RESTART_RESET (R177): the last byte of the RESTART reply leaves the line. -/
def execRestartReset (s : State) : Host.Outcome State Fault Refusal :=
  .next (s.whenRunning fun s => s.atDeadline State.restartDeadline State.warmReset)

/-- MAIN_POWER_OFF (R187). -/
def execMainPowerOff (s : State) : Host.Outcome State Fault Refusal := .next s.removePower

/-! ### The timebase (R3 to R8) -/

/-- MASTER_TIME_LIMIT (R8): time passes up to the limit. -/
def execMasterTimeLimit (s : State) : Host.Outcome State Fault Refusal :=
  .next (s.whenRunning fun s =>
    if s.timebase.state = .unlocked then s else s.pass Config.masterLimit)

/-- ACQUIRING_INTERVAL_END (R4). -/
def execAcquiringIntervalEnd (s : State) : Host.Outcome State Fault Refusal :=
  .next (s.whenRunning fun s => s.ifDue State.acquiringDeadline (State.enterLocked .acquired))

/-- REFERENCE_WINDOW_END (R3, R5). -/
def execReferenceWindowEnd (cycles : Nat) (s : State) : Host.Outcome State Fault Refusal :=
  .next (s.whenRunning fun s => s.windowEnds State.monitoring (State.judgeWindow cycles))

/-- REFERENCE_ACQUIRED (R4): the good window that makes the count 20,000 in ACQUIRING. -/
def execReferenceAcquired (s : State) : Host.Outcome State Fault Refusal :=
  .next (s.whenRunning fun s => s.windowEnds State.acquires State.goodWindowEnd)

/-- REFERENCE_RESTORED (R6): the good window that makes the count 20,000 in HOLDOVER, with the race
neither ARMED nor RUNNING. -/
def execReferenceRestored (s : State) : Host.Outcome State Fault Refusal :=
  .next (s.whenRunning fun s => s.windowEnds State.restores State.goodWindowEnd)

/-! ### Race time (R13, R48) -/

/-- TENTH_BOUNDARY (R13): the running clock advances, which the board takes up (R155, R160). -/
def execTenthBoundary (moment : Nat) (s : State) : Host.Outcome State Fault Refusal :=
  .next (s.whenRunning fun s => s.ifDue (State.tenthDeadline moment) id)

/-- RACE_TIME_LIMIT (R48): time passes up to the limit. -/
def execRaceTimeLimit (s : State) : Host.Outcome State Fault Refusal :=
  .next (s.whenRunning fun s =>
    match s.raceLimitDeadline with
    | none => s
    | some t => s.pass t)

/-! ### The starter's lines (R39, R40, R43) -/

/-- The SET line takes a level. -/
def State.putSetLine (level : Level) (s : State) : State :=
  { s with heat := { s.heat with setLine := level } }

/-- An active edge on the SET line in ARMED is the SET mark (R39). -/
def State.setEdge (stamp : Nat) (s : State) : State :=
  if s.heat.race = .armed then { s with heat := { s.heat with setMark := some (stampOf stamp) } } else s

/-- SET_LINE_EDGE (R39). -/
def execSetLineEdge (level : Level) (stamp : Nat) (s : State) : Host.Outcome State Fault Refusal :=
  .next
    (if s.heat.setLine = level then s
    else if s.isRunning = false then s.putSetLine level
    else
      let s := (s.pass stamp).putSetLine level
      (if level = .closed then s.setEdge stamp else s).settle)

/-- The START line takes a level. -/
def State.putStartLine (level : Level) (s : State) : State :=
  { s with heat := { s.heat with startLine := level } }

/-- An active edge on the START line (R40). -/
def State.startEdge (stamp : Nat) (s : State) : State :=
  match s.heat.race, s.heat.current with
  | .armed, some h =>
    if s.withinGuard (stampOf stamp) then s else s.startHeat h (stampOf stamp) .startLine
  | _, _ => s

/-- START_LINE_EDGE (R40, R41). -/
def execStartLineEdge (level : Level) (stamp : Nat) (s : State) : Host.Outcome State Fault Refusal :=
  .next
    (if s.heat.startLine = level then s
    else if s.isRunning = false then s.putStartLine level
    else
      let s := (s.pass stamp).putStartLine level
      (if level = .closed then s.startEdge stamp else s).settle)

/-- The RECALL line takes a level. -/
def State.putRecallLine (level : Level) (s : State) : State :=
  { s with heat := { s.heat with recallLine := level } }

/-- An active edge on the RECALL line (R43). -/
def State.recallEdge (stamp : Nat) (s : State) : State :=
  match s.heat.race, s.heat.current with
  | .running, some h =>
    if s.withinRecall (stampOf stamp) then s.recallHeat h (stampOf stamp) .recallLine else s
  | _, _ => s

/-- RECALL_LINE_EDGE (R43, R44). -/
def execRecallLineEdge (level : Level) (stamp : Nat) (s : State) : Host.Outcome State Fault Refusal :=
  .next
    (if s.heat.recallLine = level then s
    else if s.isRunning = false then s.putRecallLine level
    else
      let s := (s.pass stamp).putRecallLine level
      (if level = .closed then s.recallEdge stamp else s).settle)

/-! ### The wall (R54, R58, R64, R68, R69) -/

/-- An edge on a pad line: its capture, then its part in leveling (R54, R68, R69). -/
def State.padEdge (pad : PadIx) (level : Level) (stamp : Nat) (s : State) : State :=
  let s := match level with
    | .closed => s.padCloses pad stamp
    | .opened => s.padOpens pad stamp
  s.levelEdge pad level stamp

/-- PAD_EDGE (R54). -/
def execPadEdge (lane : Lane) (wall : Wall) (level : Level) (stamp : Nat) (s : State) :
    Host.Outcome State Fault Refusal :=
  let pad := padIx lane wall
  .next
    (if (s.wall.pads[pad]).level = level then s
    else if s.isRunning = false then s.updPad pad fun r => { r with level := level }
    else ((s.pass stamp).padEdge pad level (stampOf stamp)).settle)

/-- PAD_QUALIFY_TIME (R58). -/
def execPadQualifyTime (lane : Lane) (wall : Wall) (s : State) : Host.Outcome State Fault Refusal :=
  let pad := padIx lane wall
  .next (s.whenRunning fun s => s.ifDue (State.qualifyDeadline pad) (State.qualifyPad pad))

/-- An edge on a button line: a closing edge may be a press, an opening edge sets the level (R64). -/
def State.buttonEdge (lane : Lane) (button : Button) (level : Level) (stamp : Nat) (s : State) : State :=
  match level with
  | .closed => s.buttonCloses lane button stamp
  | .opened => s.updButton (buttonIx lane button) fun r => { r with level := .opened }

/-- BUTTON_EDGE (R64). -/
def execButtonEdge (lane : Lane) (button : Button) (level : Level) (stamp : Nat) (s : State) :
    Host.Outcome State Fault Refusal :=
  let ix := buttonIx lane button
  .next
    (if (s.wall.buttons[ix]).level = level then s
    else if s.isRunning = false then s.updButton ix fun r => { r with level := level }
    else ((s.pass stamp).buttonEdge lane button level (stampOf stamp)).settle)

/-- A pad's wait in leveling expires: BUSY_PAD (R68). -/
def State.levelWaitEnds (s : State) : State :=
  match s.wall.level with
  | .measuring pad (.waiting _) rest => s.levelResult pad .busyPad rest
  | _ => s

/-- LEVEL_WAIT_EXPIRY (R68). -/
def execLevelWaitExpiry (s : State) : Host.Outcome State Fault Refusal :=
  .next (s.whenRunning fun s => s.ifDue State.levelWaitDeadline State.levelWaitEnds)

/-- A pad's drive in leveling ends: its latency, or DEAD (R69). -/
def State.levelDriveEnds (s : State) : State :=
  match s.wall.level with
  | .measuring pad (.driving _ answer) rest =>
    s.levelResult pad (match answer with | some v => .latency v | none => .dead) rest
  | _ => s

/-- LEVEL_DRIVE_END (R69). -/
def execLevelDriveEnd (s : State) : Host.Outcome State Fault Refusal :=
  .next (s.whenRunning fun s => s.ifDue State.levelDriveDeadline State.levelDriveEnds)

/-! ### Finish windows (R88) -/

/-- A window closes at its closes-at, and the heat ends when no lane is left RACING (R47, R88). -/
def State.windowTimeout (lane : Lane) (s : State) : State :=
  match s.heat.current with
  | none => s
  | some h => (s.closeWindow h .window lane).endIfDone h

/-- FINISH_WINDOW_CLOSE (R88). -/
def execFinishWindowClose (lane : Lane) (s : State) : Host.Outcome State Fault Refusal :=
  .next (s.whenRunning fun s => s.ifDue (State.windowDeadline lane) (State.windowTimeout lane))

/-! ### The platform scanner (R113 to R119, R134) -/

/-- The last test is kept until the next one (R115). -/
def State.keepTest (t : SelfTest) (s : State) : State :=
  { s with scanner := { s.scanner with lastTest := some t } }

/-- The scanner enters FAULT (R115). -/
def State.enterFault (s : State) : State :=
  { s with scanner := { s.scanner with state := .fault, settlingEnd := none } }

/-- The self-test of a heat: SCANNING or FAULT, with the SCANNER notice and what follows it (R115,
R132). -/
def State.heatTest (t : SelfTest) (s : State) : State :=
  match s.heat.current with
  | none => if t.pass then s.beginScanning else s.enterFault
  | some h =>
    if t.pass then s.beginScanning.notify (.scanner true t.zero t.full h.event h.heat)
    else (s.enterFault.notify (.scanner false t.zero t.full h.event h.heat)).scannerFault h

/-- The self-test of a probe: recorded, and the sweep follows whatever its outcome (R134). -/
def State.probeTested (t : SelfTest) (s : State) : State :=
  State.beginScanning { s with scanner := { s.scanner with probeTest := some t } }

/-- Settling ends: both references are converted in that tick, and the outcome is taken (R114, R115). -/
def State.settled (zero full : Reading) (s : State) : State :=
  let t := selfTest zero full
  if s.scanner.probe.isSome then (s.keepTest t).probeTested t else (s.keepTest t).heatTest t

/-- SCANNER_SETTLING_END (R114, R115, R134). -/
def execScannerSettlingEnd (zero full : Reading) (s : State) : Host.Outcome State Fault Refusal :=
  .next (s.whenRunning fun s => s.ifDue State.settlingDeadline (State.settled zero full))

/-- A reading of a heat's sweep: the channel's load state, and the departure that going from LOADED to
UNLOADED is (R117, R118). -/
def State.heatSample (lane : Lane) (reading : Reading) (time : Nat) (s : State) : State :=
  match s.store.inForce with
  | none => s
  | some p =>
    let before := (s.scanner.channels[lane]).load
    let s := s.takeReading p lane reading time
    match s.heat.current with
    | none => s
    | some h =>
      if before = some .loaded ∧ (s.scanner.channels[lane]).load = some .unloaded then
        s.takeDeparture h lane ((time : Int) - (p.platformLatency : Int))
      else s

/-- A reading of a probe's sweep; the last one completes the probe (R134). -/
def State.probeSample (lane : Lane) (reading : Reading) (s : State) : State :=
  let s := s.takeProbeReading lane reading
  if s.probeSwept then s.endProbe true else s

/-- A conversion gives its reading to the probe in flight, or to the heat. -/
def State.sample (lane : Lane) (reading : Reading) (time : Nat) (s : State) : State :=
  if s.scanner.probe.isSome then s.probeSample lane reading else s.heatSample lane reading time

/-- CHANNEL_SAMPLE (R117): the channel's first conversion not before `moment`. -/
def execChannelSample (lane : Lane) (reading : Reading) (moment : Nat) (s : State) :
    Host.Outcome State Fault Refusal :=
  .next (s.whenRunning fun s =>
    s.ifDue (State.sampleDeadline lane moment) fun s => s.sample lane reading s.masterTime)

/-- The rest of a probe's sweep, in lane order (R134). -/
def State.restOfSweep (readings : Vector Reading 10) (s : State) : State :=
  (allLanes.foldl (fun s lane => s.takeProbeReading lane readings[lane]) s).endProbe true

/-- PROBE_SWEEP_COMPLETE (R134). -/
def execProbeSweepComplete (readings : Vector Reading 10) (s : State) :
    Host.Outcome State Fault Refusal :=
  .next (s.whenRunning fun s => s.ifDue State.sweepDeadline (State.restOfSweep readings))

/-! ### The profile store (R189) -/

/-- The store write in flight completes. -/
def State.writeEnds (s : State) : State :=
  match s.store.write with
  | none => s
  | some w => s.completeWrite w

/-- PROFILE_WRITE_COMPLETE (R189). -/
def execProfileWriteComplete (s : State) : Host.Outcome State Fault Refusal :=
  .next (s.whenRunning fun s => s.ifDue State.writeDeadline State.writeEnds)

/-! ### The board line (R161, R165 to R169) -/

/-- A slot comes: the frame of the row at the cursor begins when the line is free (R166). -/
def State.slotComes (s : State) : State :=
  match s.board.nextSlot with
  | none => s
  | some t => { s with board := takeSlot t s.board }

/-- BOARD_SLOT (R166, R169). -/
def execBoardSlot (s : State) : Host.Outcome State Fault Refusal :=
  .next (s.whenRunning fun s => s.ifDue State.slotDeadline State.slotComes)

/-- The board line falls free. -/
def State.boardLineFree (s : State) : State := { s with board := { s.board with line := none } }

/-- BOARD_FRAME_END (R165, R167). -/
def execBoardFrameEnd (moment : Nat) (s : State) : Host.Outcome State Fault Refusal :=
  .next (s.whenRunning fun s => s.ifDue (fun s => s.boardDeadline.map (max moment)) State.boardLineFree)

/-- BOARD_PERIODIC_PASS (R167). -/
def execBoardPeriodicPass (s : State) : Host.Outcome State Fault Refusal :=
  .next (s.whenRunning fun s => s.ifDue State.passDeadline State.askPass)

/-- The hold runs out. -/
def State.holdEnds (s : State) : State := { s with board := { s.board with hold := .spent } }

/-- FIRST_FINISH_HOLD_END (R161). -/
def execFirstFinishHoldEnd (s : State) : Host.Outcome State Fault Refusal :=
  .next (s.whenRunning fun s => s.ifDue State.holdDeadline State.holdEnds)

/-! ### The console line (R173 to R179) -/

/-- Time passes up to what the console line brings at a moment. A silence that comes by then is an event of
its own before it, in its tick: the frame in progress is dropped, and what comes finds HUNT (R173). The
manual does not order a byte and a silence of the same tick; the silence comes first (log entry 49: DESIGN
CHOICE). -/
def State.listen (moment : Nat) (s : State) : State :=
  let s :=
    if s.silenceDeadline.any fun t => decide (t ≤ max s.clock moment) then
      s.ifDue State.silenceDeadline State.silence
    else s
  s.pass moment

/-- CONSOLE_FRAME_RECEIVED (R174, R175). -/
def execConsoleFrameReceived (bytes : List Byte) (moment : Nat) (s : State) :
    Host.Outcome State Fault Refusal :=
  .next (s.whenRunning fun s => (s.listen moment).receiveNow bytes)

/-- CONSOLE_BYTE_RECEIVED (R173). -/
def execConsoleByteReceived (byte : Byte) (moment : Nat) (s : State) :
    Host.Outcome State Fault Refusal :=
  .next (s.whenRunning fun s => (s.listen moment).receiveNow [byte])

/-- BYTE_FRAMING_ERROR (R173). -/
def execByteFramingError (moment : Nat) (s : State) : Host.Outcome State Fault Refusal :=
  .next (s.whenRunning fun s => (s.listen moment).framingError)

/-- The byte is the fifth of a frame and makes its payload length more than 512 (R173). -/
def Link.tooLong (l : Link) (fifth : Byte) : Bool :=
  l.held.length == 4 && decide (Config.payloadMax < statedLength (l.held ++ [fifth]))

/-- PAYLOAD_LENGTH_TOO_LONG (R173). When a silence comes before the byte, the byte is the first behind it. -/
def execPayloadLengthTooLong (fifth : Byte) (moment : Nat) (s : State) :
    Host.Outcome State Fault Refusal :=
  .next (s.whenRunning fun s =>
    if s.link.tooLong fifth then (s.listen moment).receiveNow [fifth] else s)

/-- RECEIVER_SILENCE (R173). -/
def execReceiverSilence (s : State) : Host.Outcome State Fault Refusal :=
  .next (s.whenRunning fun s => s.ifDue State.silenceDeadline State.silence)

/-- TRANSMIT_FRAME_END (R179). -/
def execTransmitFrameEnd (moment : Nat) (s : State) : Host.Outcome State Fault Refusal :=
  .next (s.whenRunning fun s =>
    s.atDeadline (fun s => s.transmitDeadline.map (max moment)) State.lineFree)

end Sys2Proof.Machine
end

