-- ==== Sys2Proof/Machine/Requests.lean ====
section
/-!
DEFINITION. The requests as commands. A request command is the arrival of the complete request on the
console line at its moment (R175): it joins the request buffer and is executed at once when no execution
reply waits, or stays there until one has begun to leave (R176; log entry 6). What it does at its
execution is its `handle` operation.
-/

namespace Sys2Proof.Machine

/-- A request arrives at a moment; a part that does not run receives nothing (R175, R188). -/
def State.request (kind : RequestKind) (moment : Nat) (tag : Byte) (payload : List Byte) (s : State) :
    State :=
  s.whenRunning fun s => (s.pass moment).submit ⟨kind, tag, payload⟩

/-- LOAD_HEAT (R26). -/
def execLoadHeat (moment : Nat) (tag : Byte) (payload : List Byte) (s : State) :
    Host.Outcome State Fault Refusal :=
  .next (s.request .loadHeat moment tag payload)

/-- WITHDRAW_HEAT (R28, R29). -/
def execWithdrawHeat (moment : Nat) (tag : Byte) (payload : List Byte) (s : State) :
    Host.Outcome State Fault Refusal :=
  .next (s.request .withdrawHeat moment tag payload)

/-- QUERY_QUEUE (R31). -/
def execQueryQueue (moment : Nat) (tag : Byte) (payload : List Byte) (s : State) :
    Host.Outcome State Fault Refusal :=
  .next (s.request .queryQueue moment tag payload)

/-- ARM (R36, R37). -/
def execArm (moment : Nat) (tag : Byte) (payload : List Byte) (s : State) :
    Host.Outcome State Fault Refusal :=
  .next (s.request .arm moment tag payload)

/-- DISARM (R38). -/
def execDisarm (moment : Nat) (tag : Byte) (payload : List Byte) (s : State) :
    Host.Outcome State Fault Refusal :=
  .next (s.request .disarm moment tag payload)

/-- START (R40, R41). -/
def execStart (moment : Nat) (tag : Byte) (payload : List Byte) (s : State) :
    Host.Outcome State Fault Refusal :=
  .next (s.request .start moment tag payload)

/-- RECALL (R43, R44). -/
def execRecall (moment : Nat) (tag : Byte) (payload : List Byte) (s : State) :
    Host.Outcome State Fault Refusal :=
  .next (s.request .recall moment tag payload)

/-- END_HEAT (R45, R46). -/
def execEndHeat (moment : Nat) (tag : Byte) (payload : List Byte) (s : State) :
    Host.Outcome State Fault Refusal :=
  .next (s.request .endHeat moment tag payload)

/-- CLOSE_LANE (R92). -/
def execCloseLane (moment : Nat) (tag : Byte) (payload : List Byte) (s : State) :
    Host.Outcome State Fault Refusal :=
  .next (s.request .closeLane moment tag payload)

/-- NEXT_HEAT (R30). -/
def execNextHeat (moment : Nat) (tag : Byte) (payload : List Byte) (s : State) :
    Host.Outcome State Fault Refusal :=
  .next (s.request .nextHeat moment tag payload)

/-- The payload of an AMEND (section 10.6). -/
def amendPayload (kind : Byte) (lane : Byte) (time : BitVec 24) : List Byte :=
  [kind, lane, time.extractLsb' 16 8, time.extractLsb' 8 8, time.extractLsb' 0 8]

/-- AMEND with kind SET_TIME (R141, R142, R146). -/
def execSetTime (moment : Nat) (tag lane : Byte) (time : BitVec 24) (s : State) :
    Host.Outcome State Fault Refusal :=
  .next (s.request .amend moment tag (amendPayload 0 lane time))

/-- AMEND with kind DQ (R141, R143, R146). -/
def execDq (moment : Nat) (tag lane : Byte) (s : State) :
    Host.Outcome State Fault Refusal :=
  .next (s.request .amend moment tag (amendPayload 1 lane 0))

/-- AMEND with kind REINSTATE (R141, R144, R146). -/
def execReinstate (moment : Nat) (tag lane : Byte) (s : State) :
    Host.Outcome State Fault Refusal :=
  .next (s.request .amend moment tag (amendPayload 2 lane 0))

/-- AMEND with kind CLEAR_REVIEW (R141, R145, R146). -/
def execClearReview (moment : Nat) (tag lane : Byte) (s : State) :
    Host.Outcome State Fault Refusal :=
  .next (s.request .amend moment tag (amendPayload 3 lane 0))

/-- OFFICIALISE (R147, R148). -/
def execOfficialise (moment : Nat) (tag : Byte) (payload : List Byte) (s : State) :
    Host.Outcome State Fault Refusal :=
  .next (s.request .officialise moment tag payload)

/-- LOCK_RESULTS (R152). -/
def execLockResults (moment : Nat) (tag : Byte) (payload : List Byte) (s : State) :
    Host.Outcome State Fault Refusal :=
  .next (s.request .lockResults moment tag payload)

/-- STATUS (R182). -/
def execStatus (moment : Nat) (tag : Byte) (payload : List Byte) (s : State) :
    Host.Outcome State Fault Refusal :=
  .next (s.request .status moment tag payload)

/-- QUERY_LANE (R95). -/
def execQueryLane (moment : Nat) (tag : Byte) (payload : List Byte) (s : State) :
    Host.Outcome State Fault Refusal :=
  .next (s.request .queryLane moment tag payload)

/-- QUERY_ARCHIVE (R150). -/
def execQueryArchive (moment : Nat) (tag : Byte) (payload : List Byte) (s : State) :
    Host.Outcome State Fault Refusal :=
  .next (s.request .queryArchive moment tag payload)

/-- ARCHIVE_CLEAR (R151). -/
def execArchiveClear (moment : Nat) (tag : Byte) (payload : List Byte) (s : State) :
    Host.Outcome State Fault Refusal :=
  .next (s.request .archiveClear moment tag payload)

/-- BOARD_MODE (R168). -/
def execBoardMode (moment : Nat) (tag : Byte) (payload : List Byte) (s : State) :
    Host.Outcome State Fault Refusal :=
  .next (s.request .boardMode moment tag payload)

/-- BOARD_TEST on (R169). -/
def execBoardTestOn (moment : Nat) (tag : Byte) (s : State) :
    Host.Outcome State Fault Refusal :=
  .next (s.request .boardTest moment tag [1])

/-- BOARD_TEST off (R169). -/
def execBoardTestOff (moment : Nat) (tag : Byte) (s : State) :
    Host.Outcome State Fault Refusal :=
  .next (s.request .boardTest moment tag [0])

/-- BOARD_TEXT (R163). -/
def execBoardText (moment : Nat) (tag : Byte) (payload : List Byte) (s : State) :
    Host.Outcome State Fault Refusal :=
  .next (s.request .boardText moment tag payload)

/-- TIMEBASE_RESTART (R10). -/
def execTimebaseRestart (moment : Nat) (tag : Byte) (payload : List Byte) (s : State) :
    Host.Outcome State Fault Refusal :=
  .next (s.request .timebaseRestart moment tag payload)

/-- PROFILE_READ (R191). -/
def execProfileRead (moment : Nat) (tag : Byte) (payload : List Byte) (s : State) :
    Host.Outcome State Fault Refusal :=
  .next (s.request .profileRead moment tag payload)

/-- PROFILE_WRITE (R189, R190). -/
def execProfileWrite (moment : Nat) (tag : Byte) (payload : List Byte) (s : State) :
    Host.Outcome State Fault Refusal :=
  .next (s.request .profileWrite moment tag payload)

/-- LEVEL_PADS (R67). -/
def execLevelPads (moment : Nat) (tag : Byte) (payload : List Byte) (s : State) :
    Host.Outcome State Fault Refusal :=
  .next (s.request .levelPads moment tag payload)

/-- PROBE_BLOCKS (R133). -/
def execProbeBlocks (moment : Nat) (tag : Byte) (payload : List Byte) (s : State) :
    Host.Outcome State Fault Refusal :=
  .next (s.request .probeBlocks moment tag payload)

/-- RESTART (R177, R187). -/
def execRestart (moment : Nat) (tag : Byte) (payload : List Byte) (s : State) :
    Host.Outcome State Fault Refusal :=
  .next (s.request .restart moment tag payload)

end Sys2Proof.Machine
end

