-- ==== Sys2Proof/Machine/Dispatch.lean ====
section
/-! DEFINITION. The one match from a command to its meaning. -/

namespace Sys2Proof.Machine

def exec (i : Instr) (s : State) : Host.Outcome State Fault Refusal :=
  match i with
  | .powerUp => Sys2Proof.Machine.execPowerUp s
  | .resetPin => Sys2Proof.Machine.execResetPin s
  | .standbyLatchSet => Sys2Proof.Machine.execStandbyLatchSet s
  | .startUp strapHigh archiveSound => Sys2Proof.Machine.execStartUp strapHigh archiveSound s
  | .restartReset => Sys2Proof.Machine.execRestartReset s
  | .masterTimeLimit => Sys2Proof.Machine.execMasterTimeLimit s
  | .acquiringIntervalEnd => Sys2Proof.Machine.execAcquiringIntervalEnd s
  | .referenceWindowEnd cycles => Sys2Proof.Machine.execReferenceWindowEnd cycles s
  | .referenceAcquired => Sys2Proof.Machine.execReferenceAcquired s
  | .referenceRestored => Sys2Proof.Machine.execReferenceRestored s
  | .tenthBoundary moment => Sys2Proof.Machine.execTenthBoundary moment s
  | .raceTimeLimit => Sys2Proof.Machine.execRaceTimeLimit s
  | .setLineEdge level stamp => Sys2Proof.Machine.execSetLineEdge level stamp s
  | .startLineEdge level stamp => Sys2Proof.Machine.execStartLineEdge level stamp s
  | .recallLineEdge level stamp => Sys2Proof.Machine.execRecallLineEdge level stamp s
  | .padEdge lane wall level stamp => Sys2Proof.Machine.execPadEdge lane wall level stamp s
  | .padQualifyTime lane wall => Sys2Proof.Machine.execPadQualifyTime lane wall s
  | .buttonEdge lane button level stamp => Sys2Proof.Machine.execButtonEdge lane button level stamp s
  | .finishWindowClose lane => Sys2Proof.Machine.execFinishWindowClose lane s
  | .scannerSettlingEnd zero full => Sys2Proof.Machine.execScannerSettlingEnd zero full s
  | .channelSample lane reading moment => Sys2Proof.Machine.execChannelSample lane reading moment s
  | .probeSweepComplete readings => Sys2Proof.Machine.execProbeSweepComplete readings s
  | .levelWaitExpiry => Sys2Proof.Machine.execLevelWaitExpiry s
  | .levelDriveEnd => Sys2Proof.Machine.execLevelDriveEnd s
  | .profileWriteComplete => Sys2Proof.Machine.execProfileWriteComplete s
  | .boardSlot => Sys2Proof.Machine.execBoardSlot s
  | .boardFrameEnd moment => Sys2Proof.Machine.execBoardFrameEnd moment s
  | .boardPeriodicPass => Sys2Proof.Machine.execBoardPeriodicPass s
  | .firstFinishHoldEnd => Sys2Proof.Machine.execFirstFinishHoldEnd s
  | .consoleFrameReceived bytes moment => Sys2Proof.Machine.execConsoleFrameReceived bytes moment s
  | .byteFramingError moment => Sys2Proof.Machine.execByteFramingError moment s
  | .payloadLengthTooLong fifth moment => Sys2Proof.Machine.execPayloadLengthTooLong fifth moment s
  | .receiverSilence => Sys2Proof.Machine.execReceiverSilence s
  | .transmitFrameEnd moment => Sys2Proof.Machine.execTransmitFrameEnd moment s
  | .loadHeat moment tag payload => Sys2Proof.Machine.execLoadHeat moment tag payload s
  | .withdrawHeat moment tag payload => Sys2Proof.Machine.execWithdrawHeat moment tag payload s
  | .queryQueue moment tag payload => Sys2Proof.Machine.execQueryQueue moment tag payload s
  | .arm moment tag payload => Sys2Proof.Machine.execArm moment tag payload s
  | .disarm moment tag payload => Sys2Proof.Machine.execDisarm moment tag payload s
  | .start moment tag payload => Sys2Proof.Machine.execStart moment tag payload s
  | .recall moment tag payload => Sys2Proof.Machine.execRecall moment tag payload s
  | .endHeat moment tag payload => Sys2Proof.Machine.execEndHeat moment tag payload s
  | .closeLane moment tag payload => Sys2Proof.Machine.execCloseLane moment tag payload s
  | .nextHeat moment tag payload => Sys2Proof.Machine.execNextHeat moment tag payload s
  | .setTime moment tag lane time => Sys2Proof.Machine.execSetTime moment tag lane time s
  | .dq moment tag lane => Sys2Proof.Machine.execDq moment tag lane s
  | .reinstate moment tag lane => Sys2Proof.Machine.execReinstate moment tag lane s
  | .clearReview moment tag lane => Sys2Proof.Machine.execClearReview moment tag lane s
  | .officialise moment tag payload => Sys2Proof.Machine.execOfficialise moment tag payload s
  | .lockResults moment tag payload => Sys2Proof.Machine.execLockResults moment tag payload s
  | .status moment tag payload => Sys2Proof.Machine.execStatus moment tag payload s
  | .queryLane moment tag payload => Sys2Proof.Machine.execQueryLane moment tag payload s
  | .queryArchive moment tag payload => Sys2Proof.Machine.execQueryArchive moment tag payload s
  | .archiveClear moment tag payload => Sys2Proof.Machine.execArchiveClear moment tag payload s
  | .boardMode moment tag payload => Sys2Proof.Machine.execBoardMode moment tag payload s
  | .boardTestOn moment tag => Sys2Proof.Machine.execBoardTestOn moment tag s
  | .boardTestOff moment tag => Sys2Proof.Machine.execBoardTestOff moment tag s
  | .boardText moment tag payload => Sys2Proof.Machine.execBoardText moment tag payload s
  | .timebaseRestart moment tag payload => Sys2Proof.Machine.execTimebaseRestart moment tag payload s
  | .profileRead moment tag payload => Sys2Proof.Machine.execProfileRead moment tag payload s
  | .profileWrite moment tag payload => Sys2Proof.Machine.execProfileWrite moment tag payload s
  | .levelPads moment tag payload => Sys2Proof.Machine.execLevelPads moment tag payload s
  | .probeBlocks moment tag payload => Sys2Proof.Machine.execProbeBlocks moment tag payload s
  | .restart moment tag payload => Sys2Proof.Machine.execRestart moment tag payload s
  | .consoleByteReceived byte moment => Sys2Proof.Machine.execConsoleByteReceived byte moment s
  | .mainPowerOff => Sys2Proof.Machine.execMainPowerOff s

end Sys2Proof.Machine
end

