-- ==== Sys2Proof/Machine/Tick.lean ====
section
/-!
DEFINITION. The idle tick: what a step does when no command waits. One tick of the counting clock passes
(R1), and the commands of the events whose moments have come are put in the queue, so that the part's
own timers run without an outside hand (log entry 5). Events that need something from outside, a
reading or the reference, come only as commands.
-/

namespace Sys2Proof.Machine

/-- A command that is put in the queue when its deadline has come. -/
def State.whenComes (deadline : Option Nat) (c : Instr) (s : State) : List Instr :=
  if s.comes deadline then [c] else []

/-- The pads whose closures have lasted Q ticks, in pad order. -/
def State.duePads (s : State) : List Instr :=
  (allPads.map fun pad =>
    s.whenComes (s.qualifyDeadline pad) (.padQualifyTime (padLane pad) (padWall pad))).flatten

/-- The windows whose closes-at has come, in lane order. -/
def State.dueWindows (s : State) : List Instr :=
  (allLanes.map fun lane => s.whenComes (s.windowDeadline lane) (.finishWindowClose lane)).flatten

/-- The events whose moments have come. The manual orders events of one tick only where a rule names the
order; the rest of this order is the model's (log entry 5). The two limits and the monitor's windows are
not among them: they come as time passes. -/
def State.dueEvents (s : State) : List Instr :=
  s.whenComes s.acquiringDeadline .acquiringIntervalEnd ++ s.duePads ++ s.dueWindows ++
    s.whenComes (s.tenthDeadline s.clock) (.tenthBoundary s.clock) ++
    s.whenComes s.holdDeadline .firstFinishHoldEnd ++
    s.whenComes s.levelWaitDeadline .levelWaitExpiry ++
    s.whenComes s.levelDriveDeadline .levelDriveEnd ++
    s.whenComes s.writeDeadline .profileWriteComplete ++
    s.whenComes s.slotDeadline .boardSlot ++
    s.whenComes s.passDeadline .boardPeriodicPass ++
    s.whenComes s.boardDeadline (.boardFrameEnd s.clock) ++
    s.whenComes s.silenceDeadline .receiverSilence ++
    s.whenComes s.transmitDeadline (.transmitFrameEnd s.clock)

/-- One tick with no command waiting; a part that does not run stands still. With the monitor running the
tick is a window without a reference cycle (R3; log entry 13). An interval that ends with the tick ends in
it, the tick in which master time reaches its limit included (R1). -/
def State.tick (s : State) : State :=
  if s.isRunning = false then s
  else
    let s := s.pass (s.clock + 1)
    { s with pending := s.dueEvents }

end Sys2Proof.Machine
end

