-- ==== Sys2Proof/Safety.lean ====
section
/-!
DEFINITION. The terms claims about the LT-10 use: when a request is executed at once, where a reply or a
notice that has been made is and in which order an event's notices stand, what STATUS reports, what a
full pass makes the board line send, which events a tick makes due, what a reset, a start, a recall and the
end of a heat leave, what a window, a departure and an amendment give a lane, what the rows of the board
show, and the laws of the device that hold in every state a run reaches.
-/

namespace Sys2Proof.Machine

/-! ### The console link -/

/-- A request arriving now is executed at once: the buffer is empty, no execution reply waits and no
RESTART has been executed (R176, R177). -/
def State.linkReady (s : State) : Prop :=
  s.link.buffer = [] ∧ s.link.executionWaits = false ∧ s.link.restarting = false

/-- A reply has been made: it is in the reply list, or its frame is on the line (R178, R179). -/
def State.gives (r : Reply) (s : State) : Prop :=
  r ∈ s.link.replies ∨ ∃ began, s.link.line = some ⟨.reply r, began⟩

/-- The execution reply to a request has been made (R176). -/
def State.answers (kind : RequestKind) (tag : Byte) (a : Answer) (s : State) : Prop :=
  s.gives ⟨.execution, some kind, tag, a⟩

/-- A notice has been made: it is in the notice queue, or its frame is on the line (R179, R180). -/
def State.tells (n : Notice) (s : State) : Prop :=
  n ∈ s.link.notices ∨ ∃ gap began, s.link.line = some ⟨.notice n gap, began⟩

/-- The notices that have been made and have not left, oldest first: the one on the line, then the queue
(R179, R180). -/
def State.told (s : State) : List Notice :=
  match s.link.line with
  | some ⟨.notice n _, _⟩ => n :: s.link.notices
  | _ => s.link.notices

/-- The step of R46 that makes a notice of the end of a heat: 2 for the windows, with the places their lanes
take, 3 for the lanes closed, 4 for the exchanges settled, 6 for the race state; 7 for the timebase behind
it (R6, R8, R51). -/
def NoticeBody.endStep : NoticeBody → Nat
  | .split .. => 2
  | .finish .. => 2
  | .places .. => 2
  | .exchange _ _ .evaluated _ => 2
  | .reaction .. => 3
  | .exchange .. => 4
  | .timebase .. => 7
  | _ => 6

/-- The notices made since `s` stand behind those of `s`, in the order of the steps of R46. -/
def State.tellsInSteps (s t : State) : Prop :=
  s.link.fresh = 0 → ∃ older made, t.told = older ++ made ∧ older.Sublist s.told ∧
    made.Pairwise fun a b => a.body.endStep ≤ b.body.endStep

/-- The PLACES notice of a recomputation between `s` and `t`: the lanes whose place it has changed, in lane
order, and the lanes then in the order (R140). -/
def State.placesTold (cause : PlacesCause) (s t : State) : Notice :=
  ⟨t.masterTime, .places cause
    ((allLanes.filter fun lane => (s.lanes[lane]).place != (t.lanes[lane]).place).map fun lane =>
      ⟨lane, (s.lanes[lane]).place, (t.lanes[lane]).place,
        (t.lanes[lane]).finalTime.map (· / 100)⟩)
    t.placing.order.length⟩

/-! ### What STATUS reports -/

/-- The parts of the STATUS reply, taken at execution (R182): the timebase's (R16), the heat controller's
(R32), the heat cycle's (R52), wall capture's (R72), lane accounting's, whose items are read from the lane
records (R96), the scanner's (R135), placing's (R153), the board driver's (R170), the profile store's (R191)
and the link's (R182). -/
structure State.Reports (s : State) (r : StatusReport) : Prop where
  timebase : r.timebase = s.timebase.state ∧ r.source = s.timebase.source ∧ r.master = s.masterTime ∧
    r.goodCount = (if s.timebase.source = .external then s.timebase.goodCount else 0) ∧
    r.lastWindow = (if s.timebase.source = .external then s.timebase.lastWindow else none) ∧
    r.holdover = s.heat.current.map fun _ => s.heat.flags.holdover
  heat : r.race = s.heat.race ∧ r.numbers = (s.heat.current.map fun h => (h.event, h.heat)) ∧
    r.queued = s.heat.queue.length ∧ r.flags = s.heat.current.map fun _ => s.heat.flags
  cycle : r.setMark = s.heat.setMark ∧ r.startMark = s.heat.startMark ∧
    r.raceTime = (s.heat.startMark.map fun start => (s.masterTime : Int) - start) ∧
    r.guardEnd = (s.heat.guardEnd.map fun g => (g, decide (s.masterTime < g))) ∧
    r.padsArmed = s.wall.armed
  wall : r.pads = s.wall.pads ∧
    (∀ ix : ButtonIx, r.buttons[ix] = ((s.wall.buttons[ix]).level,
      (s.wall.buttons[ix]).lockout.any fun e => decide (s.masterTime < e))) ∧
    r.level = s.wall.level ∧ r.levelCount = s.wall.results.length
  lanes : r.lanes = s.lanes
  scanner : r.scanner = s.scanner.state ∧ r.settlingEnd = s.scanner.settlingEnd ∧
    r.lastTest = s.scanner.lastTest ∧ r.probing = s.scanner.probe.isSome ∧
    r.channels = s.scanner.channels
  placing : r.order = s.placing.order ∧ r.locked = s.placing.locked ∧
    r.archived = s.placing.archive.length ∧ r.linked = s.placing.linked
  board : r.silent = s.store.inForce.isNone ∧ r.refresh = s.board.mode ∧ r.test = s.board.test ∧
    r.override = s.board.override ∧ r.hold = s.board.hold ∧ r.frozen = s.board.frozen ∧
    r.cursor = s.board.cursor ∧ r.pendingRows = s.board.pendingRows ∧
    r.periodic = s.board.periodic ∧ r.image = s.board.image
  store : r.mode = s.store.mode ∧ r.configured = s.store.inForce.isSome ∧
    r.writeDone = (s.store.write.map fun w => w.done) ∧ r.setupOpen = s.store.setupOpen ∧
    r.record = s.store.record
  link : r.buffered = s.link.buffer.length ∧ r.replies = s.link.replies.length ∧
    r.probeAwaited = s.scanner.probe.isSome ∧ r.notices = s.link.notices.length ∧
    r.gap = s.link.gap ∧ r.discards = s.link.discards

/-! ### What a command leaves alone -/

/-- Of the console link, a command leaves alone everything but its replies, its notices and the frame on
the line. -/
def State.linkKept (s t : State) : Prop :=
  t.link.held = s.link.held ∧ t.link.lastByte = s.link.lastByte ∧ t.link.discards = s.link.discards ∧
    t.link.buffer = s.link.buffer ∧ t.link.restarting = s.link.restarting

/-- Of the board driver, a command leaves alone the refresh mode, the test, the override, the hold and
the frozen time. -/
def State.boardKept (s t : State) : Prop :=
  t.board.mode = s.board.mode ∧ t.board.test = s.board.test ∧ t.board.override = s.board.override ∧
    t.board.hold = s.board.hold ∧ t.board.frozen = s.board.frozen

/-! ### What the board line sends -/

/-- Nothing waits for a free board line: a frame is on it, or no row is owed or pending. -/
def State.lineSettled (s : State) : Prop :=
  s.board.line.isSome = true ∨
    (s.board.owed = none ∧ ∀ row : RowIx, s.board.pendingRows[row] = false)

/-- What the board line sends goes on as it was: the frame on it, the row owed to it, the pending set, the
cursor and the two times. -/
def State.sendsKept (s t : State) : Prop :=
  t.board.line = s.board.line ∧ t.board.owed = s.board.owed ∧
    t.board.pendingRows = s.board.pendingRows ∧ t.board.cursor = s.board.cursor ∧
    t.board.nextSlot = s.board.nextSlot ∧ t.board.periodic = s.board.periodic

/-- `t` has made a full pass in the mode in force, the line having been as given (R165 to R167). On a free
line row 0's frame begins in the event, and a frame on the line completes first. In ON_CHANGE the other rows
are pending, row 0 too while its frame cannot begin, and the next pass comes 50,000 ticks on; in CONTINUOUS
the cursor is behind row 0 and the next slot 250 ticks on. -/
def State.PassMade (line : Option BoardFrame) (t : State) : Prop :=
  t.board.line = some (line.getD ⟨0, t.imageNow[(0 : RowIx)], t.clock⟩) ∧
    (t.board.mode = some .onChange →
      t.board.periodic = some (t.clock + 50000) ∧
        (∀ row : RowIx, row ≠ 0 → t.board.pendingRows[row] = true) ∧
        t.board.pendingRows[(0 : RowIx)] = line.isSome) ∧
    (t.board.mode = some .continuous →
      t.board.cursor = 1 ∧ t.board.nextSlot = some (t.clock + 250) ∧
        t.board.owed = line.map fun _ => 0)

/-- What an event that R167 lists for a full pass leaves of the board line: the pass; while the board test
is on, what the test sends (R169); while the profile is not configured, a silent line and an image that is
all BLANK (R156, R167, R171). -/
def State.PassTaken (s t : State) : Prop :=
  (t.configured = true → s.board.test = false → s.board.owed = none → t.PassMade s.board.line) ∧
    (t.configured = true → s.board.test = true → s.lineSettled → s.sendsKept t) ∧
    (t.configured = false → s.sendsKept t ∧ ∀ row : RowIx, t.board.image[row] = .blank)

/-! ### What a tick makes due -/

/-- The events that a list of commands holds are those whose moments have come (log entry 5): the end of an
INTERNAL acquisition, closures of Q ticks, windows at their closes-at, the tenth boundary, the hold's end, the
waits and drives of leveling, the store write, the board's slot, pass and frame end, the receiver's silence
and the end of the frame on the console line. -/
structure State.Queues (s : State) (l : List Instr) : Prop where
  acquisition : .acquiringIntervalEnd ∈ l ↔ s.timebase.state = .acquiring ∧
    s.timebase.source = .internal ∧ s.timebase.acquiringEnd ≤ s.clock
  pads : ∀ (lane : Lane) (wall : Wall), .padQualifyTime lane wall ∈ l ↔
    ∃ lead, (s.wall.pads[padIx lane wall]).capture = .qualifying lead ∧ lead + s.qualifyTicks ≤ s.clock
  windows : ∀ lane : Lane, .finishWindowClose lane ∈ l ↔ s.heat.race = .running ∧
    ∃ start w, s.heat.startMark = some start ∧ (s.lanes[lane]).window = some w ∧
      start + w.closesAt ≤ s.clock
  tenth : ∀ m : Nat, .tenthBoundary m ∈ l ↔ m = s.clock ∧ s.heat.race = .running ∧
    ∃ start, s.heat.startMark = some start ∧ start ≤ s.clock ∧ (s.clock - start) % 1000 = 0 ∧
      s.clock - start < 36000000
  hold : .firstFinishHoldEnd ∈ l ↔ s.heat.race = .running ∧
    ∃ ends, s.board.hold = .holding ends ∧ ends ≤ s.clock
  levelWait : .levelWaitExpiry ∈ l ↔
    ∃ pad began rest, s.wall.level = .measuring pad (.waiting began) rest ∧ began + 5000 ≤ s.clock
  levelDrive : .levelDriveEnd ∈ l ↔
    ∃ pad start answer rest, s.wall.level = .measuring pad (.driving start answer) rest ∧
      start + 101 ≤ s.clock
  write : .profileWriteComplete ∈ l ↔ ∃ w, s.store.write = some w ∧ w.done ≤ s.clock
  slot : .boardSlot ∈ l ↔ s.configured = true ∧
    (s.board.mode = some .continuous ∨ s.board.test = true) ∧
    ∃ n, s.board.nextSlot = some n ∧ n ≤ s.clock
  pass : .boardPeriodicPass ∈ l ↔ s.configured = true ∧ s.board.mode = some .onChange ∧
    s.board.test = false ∧ ∃ n, s.board.periodic = some n ∧ n ≤ s.clock
  boardEnd : ∀ m : Nat, .boardFrameEnd m ∈ l ↔ m = s.clock ∧
    ∃ f, s.board.line = some f ∧ f.began + boardTicks (rowFrame f).length ≤ s.clock
  silence : .receiverSilence ∈ l ↔ s.link.held ≠ [] ∧ s.link.lastByte + 1000 ≤ s.clock
  transmitEnd : ∀ m : Nat, .transmitFrameEnd m ∈ l ↔ m = s.clock ∧
    ∃ f, s.link.line = some f ∧ f.began + consoleTicks (messageFrame f.message).length ≤ s.clock

/-! ### What a reset leaves -/

/-- `t` is what a reset leaves of `s`, before start-up: no heat, no queue, no lane, no place, no frame, no
message, master time 0; the archive, the stored profile and the levels of the lines stay (R17, R33, R53,
R73, R97, R136, R154, R171, R183, R192). -/
structure State.ResetOf (s t : State) : Prop where
  clock : t.clock = 0
  counting : t.timebase.goodCount = 0 ∧ t.timebase.steering = false
  heat : t.heat =
    { race := .idle, current := none, flags := .clear, queue := [], setMark := none, startMark := none,
      guardEnd := none, setLine := s.heat.setLine, startLine := s.heat.startLine,
      recallLine := s.heat.recallLine }
  pads : ∀ pad : PadIx, t.wall.pads[pad] = ⟨(s.wall.pads[pad]).level, none, .unarmed, 0⟩
  buttons : ∀ ix : ButtonIx, t.wall.buttons[ix] = ⟨(s.wall.buttons[ix]).level, none⟩
  wall : t.wall.armed = false ∧ t.wall.level = .idle ∧ t.wall.results = []
  lanes : ∀ lane : Lane, t.lanes[lane] = .cleared .idle []
  scanner : t.scanner.state = .off ∧ t.scanner.settlingEnd = none ∧ t.scanner.lastTest = none ∧
    t.scanner.probe = none ∧ ∀ lane : Lane, t.scanner.channels[lane] = ⟨none, none, none⟩
  placing : t.placing =
    { order := [], locked := false, archive := s.placing.archive, check := s.placing.check,
      linked := false }
  board : t.board.test = false ∧ t.board.override = none ∧ t.board.hold = .none ∧
    t.board.frozen = none ∧ t.board.line = none ∧ t.board.periodic = none ∧ t.board.nextSlot = none ∧
    ∀ row : RowIx, t.board.pendingRows[row] = false
  store : t.store.inForce = none ∧ t.store.stored = s.store.stored ∧ t.store.write = none
  link : t.link =
    { held := [], lastByte := 0, discards := 0, buffer := [], replies := [], notices := [], gap := false,
      line := none, restarting := false, fresh := 0 }
  pending : t.pending = s.pending

/-! ### What arrives at a moment -/

/-- Whatever arrives at moment `m` finds `s` as it finds `u`: every request, and every edge that changes
its line's level, leads to the same state. -/
def State.sameAt (m : Nat) (s u : State) : Prop :=
  (∀ kind tag payload, s.request kind m tag payload = u.request kind m tag payload) ∧
    (∀ level, s.heat.setLine ≠ level → exec (.setLineEdge level m) s = exec (.setLineEdge level m) u) ∧
    (∀ level, s.heat.startLine ≠ level →
      exec (.startLineEdge level m) s = exec (.startLineEdge level m) u) ∧
    (∀ level, s.heat.recallLine ≠ level →
      exec (.recallLineEdge level m) s = exec (.recallLineEdge level m) u) ∧
    (∀ lane wall level, (s.wall.pads[padIx lane wall]).level ≠ level →
      exec (.padEdge lane wall level m) s = exec (.padEdge lane wall level m) u) ∧
    ∀ lane button level, (s.wall.buttons[buttonIx lane button]).level ≠ level →
      exec (.buttonEdge lane button level m) s = exec (.buttonEdge lane button level m) u

/-! ### What a start and a recall leave -/

/-- A pad at the arming (R55, R58): OPEN with its line open; with the line closed since a time at or after
the start mark QUALIFYING, or HELD when Q ticks have passed since; BLOCKED when it closed before. -/
def startedPad (p : Profile) (stamp clock : Nat) (r : PadRecord) : PadRecord :=
  ⟨r.level, r.closing,
    match r.level, r.closing with
    | .opened, _ => .opened
    | .closed, none => .blocked
    | .closed, some lead =>
      if lead < stamp then .blocked
      else if lead + p.qualify ≤ clock then .held
      else .qualifying lead,
    0⟩

/-- The reaction and the departures counted that a start gives an entered lane: the table of R122. -/
def startRow (h : HeatRecord) (scanner : ScannerState) (stamp : Nat) (before : Reaction) :
    Reaction × Nat :=
  if h.startType = .inWater then (.absent .notApplicable, 1)
  else if h.lengths % 2 = 1 then (.absent .noSensor, 1)
  else
    match scanner, before with
    | .settling, _ => (.absent .sensorNotReady, 1)
    | .testing, _ => (.absent .sensorNotReady, 1)
    | .fault, _ => (.absent .sensorFault, 1)
    | .scanning, .preStart departure => (.measured (departure - stamp), 1)
    | _, _ => (.notKnown, 0)

/-- The lane record a start leaves of an entered lane: RACING from leg 1, length 1 and gate base 0, with
its reaction settled; a departure held before the start is an early start (R41, R122; log entry 31). -/
def startedLane (h : HeatRecord) (scanner : ScannerState) (stamp : Nat) (r : LaneRecord) : LaneRecord :=
  let row := startRow h scanner stamp r.reaction
  { r with
    status := .racing, leg := 1, expected := 1, gateBase := 0, reaction := row.1, departures := row.2
    reasons :=
      { r.reasons with
        earlyStart := r.reasons.earlyStart ||
          match row.1 with
          | .measured _ => true
          | _ => false } }

/-- The lanes whose reaction a start settles, in lane order (R122, R124). -/
def settledLanes (h : HeatRecord) (s : State) (stamp : Nat) : List Lane :=
  allLanes.filter fun lane =>
    h.enters lane && (startRow h s.scanner.state stamp (s.lanes[lane]).reaction).2 != 0

/-- What an ARMED heat is before a start: its profile in force, no lane RACING yet and no window open;
with a platform start from wall A the scanner is on; and a pad that is closed has not been so until its
gate would open, which R55 gives the inhibit for. -/
def State.readyToStart (h : HeatRecord) (p : Profile) (stamp : Nat) (s : State) : Prop :=
  s.isRunning = true ∧ s.heat.race = .armed ∧ s.heat.current = some h ∧ s.store.inForce = some p ∧
    (∀ lane : Lane, (s.lanes[lane]).status ≠ .racing ∧ (s.lanes[lane]).window = none) ∧
    (h.startType = .platform → h.lengths % 2 = 0 → s.scanner.state ≠ .off) ∧
    ∀ pad : PadIx, ((s.wall.pads[pad]).closing.all fun lead =>
      (s.wall.pads[pad]).level == .opened || decide (lead < stamp + h.inhibit * 100)) = true

/-- The heat a START signal has started with its stamp: RUNNING, the start mark set and the guard gone,
the pads armed, every entered lane RACING with its reaction settled, the start loads taken, and one
REACTION notice for the lanes settled. -/
def State.StartedFrom (h : HeatRecord) (p : Profile) (stamp : Nat) (s t : State) : Prop :=
  t.heat.race = .running ∧ t.heat.startMark = some stamp ∧ t.heat.guardEnd = none ∧
    t.heat.setMark = s.heat.setMark ∧ t.heat.current = some h ∧ t.heat.queue = s.heat.queue ∧
    t.heat.flags = s.heat.flags ∧ t.wall.armed = true ∧
    (∀ pad : PadIx, t.wall.pads[pad] = startedPad p stamp t.clock s.wall.pads[pad]) ∧
    (∀ lane : Lane, t.lanes[lane] =
      if h.enters lane then startedLane h s.scanner.state stamp s.lanes[lane] else s.lanes[lane]) ∧
    t.scanner = { s.scanner with channels := t.scanner.channels } ∧
    (∀ lane : Lane, t.scanner.channels[lane] =
      { s.scanner.channels[lane] with
        startLoad :=
          if s.scanner.state = .scanning then (s.scanner.channels[lane]).load else none }) ∧
    (settledLanes h s stamp ≠ [] →
      t.tells ⟨t.masterTime, .reaction ((settledLanes h s stamp).map fun lane =>
        ⟨lane, (t.lanes[lane]).reaction, (t.scanner.channels[lane]).startLoad,
          (t.lanes[lane]).reasons⟩)⟩) ∧
    t.wall.buttons = s.wall.buttons ∧ t.board.hold = .none ∧ t.timebase = s.timebase ∧
    t.placing = s.placing ∧ t.store = s.store ∧ t.pending = s.pending

/-- The heat a recall has taken back with its stamp: ARMED without marks, the guard end 10,000 ticks
after the stamp, the pads disarmed, every entered lane in its cleared form and ENTERED, no place left;
the scanner and the flags as they were. -/
def State.RecalledFrom (h : HeatRecord) (stamp : Nat) (s t : State) : Prop :=
  t.heat.race = .armed ∧ t.heat.startMark = none ∧ t.heat.setMark = none ∧
    t.heat.guardEnd = some (stamp + 10000) ∧ t.heat.current = some h ∧
    t.heat.queue = s.heat.queue ∧ t.heat.flags = s.heat.flags ∧
    (∀ lane : Lane, t.lanes[lane] =
      if h.enters lane then .cleared .entered (s.lanes[lane]).label else s.lanes[lane]) ∧
    t.wall.armed = false ∧
    (∀ pad : PadIx, t.wall.pads[pad] = { s.wall.pads[pad] with capture := .unarmed }) ∧
    t.wall.buttons = s.wall.buttons ∧ t.placing = { s.placing with order := [] } ∧
    t.scanner = s.scanner ∧ t.timebase = s.timebase ∧ t.store = s.store ∧ t.board.hold = .none

/-! ### What the end of a heat leaves -/

/-- `t` is what the end of heat `h` from RUNNING leaves of `s`, the lanes and the place order apart: JUDGING
with the marks kept, the pads disarmed, every entered lane FINISHED or CLOSED as it raced, the scanner OFF
with its last test, the end time frozen and no hold in force (R46, R116, R161, R162). -/
structure State.EndedFrom (h : HeatRecord) (s t : State) : Prop where
  race : t.heat.race = .judging
  record : t.heat.current = some h ∧ t.heat.queue = s.heat.queue
  marks : t.heat.setMark = s.heat.setMark ∧ t.heat.startMark = s.heat.startMark ∧
    t.heat.guardEnd = s.heat.guardEnd
  unarmed : t.wall.armed = false ∧
    ∀ pad : PadIx, t.wall.pads[pad] = { s.wall.pads[pad] with capture := .unarmed }
  wall : t.wall.buttons = s.wall.buttons ∧ t.wall.level = s.wall.level ∧
    t.wall.results = s.wall.results
  done : ∀ lane : Lane, h.enters lane = true → (s.lanes[lane]).status = .racing →
    (t.lanes[lane]).status = .finished ∨ (t.lanes[lane]).status = .closed
  scanner : t.scanner.state = .off ∧ t.scanner.probe = none ∧
    t.scanner.lastTest = s.scanner.lastTest ∧
    ∀ lane : Lane, t.scanner.channels[lane] = ⟨none, none, none⟩
  frozen : t.board.frozen = some (hundredths t.raceTicks)
  hold : ∀ ends, t.board.hold ≠ .holding ends
  board : t.board.mode = s.board.mode ∧ t.board.test = s.board.test ∧
    t.board.override = s.board.override
  store : t.store = s.store
  part : t.power = s.power ∧ t.standbyLatch = s.standbyLatch ∧ t.pending = s.pending
  archive : t.placing.archive = s.placing.archive ∧ t.placing.locked = s.placing.locked ∧
    t.placing.linked = s.placing.linked

/-- Nothing of a lane is left to settle: it is not RACING, has no open window and no PENDING exchange. -/
def State.laneDone (lane : Lane) (s : State) : Prop :=
  (s.lanes[lane]).status ≠ .racing ∧ (s.lanes[lane]).window = none ∧
    ∀ e ∈ (s.lanes[lane]).exchanges, e.verdict ≠ .pending

/-- A lane's record behind the close of its FINAL window with an official time, its place apart (R90). -/
def State.finishedLane (h : HeatRecord) (lane : Lane) (w : FinishWindow) (official : Nat) (s : State) :
    LaneRecord :=
  { s.lanes[lane] with
    status := .finished, finalTime := some official
    finalSource := (s.deriveWindow h lane w).source, window := none
    reasons := (s.lanes[lane]).reasons.union (s.deriveWindow h lane w).reasons
    lengths := (s.lanes[lane]).lengths ++ [closedRecord h h.lengths w (s.deriveWindow h lane w)] }

/-! ### Evidence of a RACING lane -/

/-- A closure of a RACING lane's pad is due to qualify in a RUNNING heat, in quiet time: its leading edge,
and the compensated time it is taken at (R48, R58, R62). -/
def State.TouchDue (h : HeatRecord) (p : Profile) (lane : Lane) (wall : Wall) (start lead time : Nat)
    (s : State) : Prop :=
  s.isRunning = true ∧ s.heat.race = .running ∧ s.heat.current = some h ∧
    s.heat.startMark = some start ∧ s.store.inForce = some p ∧
    (s.wall.pads[padIx lane wall]).capture = .qualifying lead ∧
    s.quietUntil (lead + p.qualify) = true ∧ lead < start + 36000000 ∧
    time = lead - start - p.latencies[padIx lane wall] ∧ (s.lanes[lane]).status = .racing

/-- What the qualified touch leaves: the pad HELD, the lane's record `r`, and nothing else changed but the
clock, the board and the notices. -/
def State.TouchLeaves (p : Profile) (lane : Lane) (wall : Wall) (lead : Nat) (r : LaneRecord)
    (s t : State) : Prop :=
  t = { s with
    clock := max s.clock (lead + p.qualify)
    wall := { s.wall with pads := t.wall.pads }
    lanes := t.lanes, board := t.board, link := t.link } ∧
  t.wall.pads[padIx lane wall] = { s.wall.pads[padIx lane wall] with capture := .held } ∧
  (∀ pad : PadIx, pad ≠ padIx lane wall → t.wall.pads[pad] = s.wall.pads[pad]) ∧
  t.lanes[lane] = r ∧ (∀ l : Lane, l ≠ lane → t.lanes[l] = s.lanes[l]) ∧ s.boardKept t ∧ s.linkKept t

/-- The record of a turn that was touched at a time (R81). -/
def turnRecord (n : Nat) (wall : Wall) (time : Nat) : LengthRecord :=
  ⟨n, wall, .turn, .touched, some time, [], none, none, .none, ⟨false, false, false⟩⟩

/-- The record of a length passed without a time: a MISSED turn or a NO_TIME leg end (R83, R84). -/
def passedRecord (n : Nat) (wall : Wall) (kind : LengthKind) (outcome : LengthOutcome) : LengthRecord :=
  ⟨n, wall, kind, outcome, none, [], none, none, .none, ⟨false, false, false⟩⟩

/-- A lane at its first evidence, or when it leaves RACING: with no departure counted its reaction is
absent with NOT_ON_PLATFORM, and one departure is counted (R123). -/
def arrivedLane (r : LaneRecord) : LaneRecord :=
  if r.departures = 0 then { r with reaction := .absent .notOnPlatform, departures := 1 } else r

/-- A lane whose PENDING exchanges are settled, in order of leg: each is UNJUDGED, which is a review
reason, and the departure that did not come is counted (R130, R131). -/
def settledLane (r : LaneRecord) : LaneRecord :=
  { r with
    exchanges := r.exchanges.map fun e =>
      if e.verdict = .pending then { e with verdict := .unjudged } else e
    reasons :=
      { r.reasons with
        unjudgedExchange := r.reasons.unjudgedExchange || r.exchanges.any fun e => e.verdict == .pending }
    departures := r.exchanges.foldl
      (fun d e => if e.verdict = .pending ∧ d = e.leg then e.leg + 1 else d) r.departures }

/-- A lane that comes to expect length `n`: of a LEG_END it has an exchange, PENDING; with the scanner in
FAULT UNJUDGED, which is a review reason, with its departure counted (R126, R131). -/
def expectingLane (h : HeatRecord) (faulty : Bool) (n : Nat) (r : LaneRecord) : LaneRecord :=
  if lengthKind h n ≠ .legEnd then r
  else if faulty = true then
    { r with
      exchanges := r.exchanges ++ [⟨lengthLeg h n, .opened, none, none, none, .unjudged⟩]
      reasons := { r.reasons with unjudgedExchange := true }
      departures := lengthLeg h n + 1 }
  else
    { r with exchanges := r.exchanges ++ [⟨lengthLeg h n, .opened, none, none, none, .pending⟩] }

/-- What R126 says of a lane's exchanges, as far as it bears: at most three, one a leg, when one of them
is PENDING; none of the leg that length `n` ends, when one is created UNJUDGED. -/
def legsApart (h : HeatRecord) (faulty : Bool) (n : Nat) (exchanges : List ExchangeRecord) : Prop :=
  ((∃ e ∈ exchanges, e.verdict = .pending) →
    (exchanges.map (·.leg)).Nodup ∧ exchanges.length ≤ 3) ∧
    (lengthKind h n = .legEnd → faulty = true → ∀ e ∈ exchanges, e.leg ≠ lengthLeg h n)

/-- A REACTION notice says that a lane was not on its platform, when it had counted no departure (R123,
R124). -/
def State.tellsAbsence (lane : Lane) (s t : State) : Prop :=
  (s.lanes[lane]).departures = 0 →
    t.tells ⟨t.masterTime, .reaction [⟨lane, .absent .notOnPlatform,
      (s.scanner.channels[lane]).startLoad, (t.lanes[lane]).reasons⟩]⟩

/-- An EXCHANGE notice for every exchange of a lane that has been settled, unless the heat's notify region
lets none through (R130, R131). -/
def State.tellsSettled (h : HeatRecord) (lane : Lane) (cause : SettleCause) (s t : State) : Prop :=
  ∀ e ∈ (s.lanes[lane]).exchanges, e.verdict = .pending → h.notify ≠ .nothing →
    t.tells ⟨t.masterTime,
      .exchange lane { e with verdict := .unjudged } cause (t.lanes[lane]).reasons⟩

/-- An EXCHANGE notice for the exchange that is created UNJUDGED, likewise (R126, R131). -/
def State.tellsFaulty (h : HeatRecord) (lane : Lane) (n : Nat) (s t : State) : Prop :=
  lengthKind h n = .legEnd → s.scanner.state = .fault → h.notify ≠ .nothing →
    t.tells ⟨t.masterTime, .exchange lane ⟨lengthLeg h n, .opened, none, none, none, .unjudged⟩
      .scannerFault (t.lanes[lane]).reasons⟩

/-- A closing edge on a RACING lane's button in a heat is a press, in quiet time: the pads armed, the stamp
at or after the start mark, no lockout in force (R64). -/
def State.PressDue (h : HeatRecord) (lane : Lane) (button : Button) (start stamp : Nat) (s : State) :
    Prop :=
  s.isRunning = true ∧ s.heat.current = some h ∧ s.heat.startMark = some start ∧
    (s.wall.buttons[buttonIx lane button]).level = .opened ∧ s.wall.armed = true ∧ start ≤ stamp ∧
    stamp ≤ Config.masterLimit ∧ s.quietUntil stamp = true ∧
    ((s.wall.buttons[buttonIx lane button]).lockout.all fun e => decide (e ≤ stamp)) = true ∧
    (s.lanes[lane]).status = .racing

/-- What the press leaves: the button closed with a lockout of 200 ticks, the lane's record `r`, and
nothing else changed but the clock, the board and the notices. -/
def State.PressLeaves (lane : Lane) (button : Button) (stamp : Nat) (r : LaneRecord) (s t : State) :
    Prop :=
  t = { s with
    clock := max s.clock stamp
    wall := { s.wall with buttons := t.wall.buttons }
    lanes := t.lanes, board := t.board, link := t.link } ∧
  t.wall.buttons[buttonIx lane button] = ⟨.closed, some (stamp + 200)⟩ ∧
  (∀ ix : ButtonIx, ix ≠ buttonIx lane button → t.wall.buttons[ix] = s.wall.buttons[ix]) ∧
  t.lanes[lane] = r ∧ (∀ l : Lane, l ≠ lane → t.lanes[l] = s.lanes[l]) ∧ s.boardKept t ∧ s.linkKept t

/-- A reading of a lane's channel in a heat, in quiet time, is a departure: the channel was LOADED and the
reading is below the unloaded limit. The conversion is the lane's in sweep `k`, the first that is not
taken and not before moment `m` (R113, R117, R118). -/
def State.ReadingFalls (h : HeatRecord) (p : Profile) (lane : Lane) (reading : Reading)
    (m first k : Nat) (s : State) : Prop :=
  s.isRunning = true ∧ s.heat.current = some h ∧ s.scanner.state = .scanning ∧
    s.scanner.sweepStart = some first ∧ s.scanner.probe = none ∧ s.store.inForce = some p ∧
    (s.scanner.channels[lane]).load = some .loaded ∧ reading.val < p.unloadedLimit ∧
    ((s.scanner.channels[lane]).latest.all fun l =>
      decide (l.2 < first + lane.val / 2 + 5 * k ∧
        (k = 0 ∨ first + lane.val / 2 + 5 * k < max (max s.clock m) (l.2 + 1) + 5))) = true ∧
    max s.clock m ≤ first + lane.val / 2 + 5 * k ∧
    ((s.scanner.channels[lane]).latest = none →
      k = 0 ∨ first + lane.val / 2 + 5 * k < max s.clock m + 5) ∧
    s.quietUntil (first + lane.val / 2 + 5 * k) = true ∧
    first + lane.val / 2 + 5 * k ≤ Config.masterLimit

/-- Such a departure of a RACING lane in a RUNNING heat. -/
def State.DepartureDue (h : HeatRecord) (p : Profile) (lane : Lane) (reading : Reading)
    (m first k start : Nat) (s : State) : Prop :=
  s.ReadingFalls h p lane reading m first k ∧ s.heat.race = .running ∧
    s.heat.startMark = some start ∧ (s.lanes[lane]).status = .racing

/-- Neither a reply nor a notice comes or goes, when the console line is taken. -/
def State.keepsSilent (s t : State) : Prop :=
  s.link.fresh = 0 → s.link.line ≠ none → t.link = s.link

/-- What the departure leaves: the channel UNLOADED with the reading at its sample time, the lane's record
`r`, and nothing else changed but the clock, the board and the notices. -/
def State.DepartureLeaves (lane : Lane) (reading : Reading) (time : Nat) (r : LaneRecord) (s t : State) :
    Prop :=
  t = { s with
    clock := time
    scanner := { s.scanner with channels := t.scanner.channels }
    lanes := t.lanes, board := t.board, link := t.link } ∧
  t.scanner.channels[lane] =
    ⟨some .unloaded, some (reading, time), (s.scanner.channels[lane]).startLoad⟩ ∧
  (∀ l : Lane, l ≠ lane → t.scanner.channels[l] = s.scanner.channels[l]) ∧
  t.lanes[lane] = r ∧ (∀ l : Lane, l ≠ lane → t.lanes[l] = s.lanes[l]) ∧ s.boardKept t ∧ s.linkKept t

/-- A leg-end window of a RACING lane is due to close, in quiet time; the lane's exchange record of the
leg, behind those of earlier legs, is PENDING (R88, R89, R126). -/
def State.LegEndDue (h : HeatRecord) (lane : Lane) (w : FinishWindow) (before : List ExchangeRecord)
    (e : ExchangeRecord) (start : Nat) (s : State) : Prop :=
  s.isRunning = true ∧ s.heat.race = .running ∧ s.heat.current = some h ∧
    s.heat.startMark = some start ∧ (s.lanes[lane]).window = some w ∧
    lengthKind h (s.lanes[lane]).expected = .legEnd ∧ h.enters lane = true ∧
    (s.lanes[lane]).status = .racing ∧ s.quietUntil (start + w.closesAt) = true ∧
    (s.lanes[lane]).exchanges = before ++ [e] ∧ (∀ x ∈ before, x.leg ≠ e.leg) ∧
    e.leg = (s.lanes[lane]).leg ∧ e.verdict = .pending

/-- The lane's record behind the close of a leg-end window, its exchanges apart, with the new gate base
(R89). -/
def State.legEndLane (h : HeatRecord) (lane : Lane) (w : FinishWindow) (gateBase : Nat) (s : State) :
    LaneRecord :=
  { s.lanes[lane] with
    lengths := (s.lanes[lane]).lengths ++
      [closedRecord h (s.lanes[lane]).expected w (s.deriveWindow h lane w)]
    reasons := (s.lanes[lane]).reasons.union (s.deriveWindow h lane w).reasons
    gateBase := gateBase
    leg := (s.lanes[lane]).leg + 1
    expected := (s.lanes[lane]).expected + 1
    window := none }

/-- A departure of a relay lane that comes now falls within the span of the takeover its count names: the
lane expects that leg's LEG_END length, or has passed it with the leg's exchange PENDING (R125). -/
def State.inTakeoverSpan (h : HeatRecord) (lane : Lane) (s : State) : Prop :=
  h.relay = true ∧ 1 ≤ (s.lanes[lane]).departures ∧ (s.lanes[lane]).departures ≤ 3 ∧
    ((lengthKind h (s.lanes[lane]).expected = .legEnd ∧
        lengthLeg h (s.lanes[lane]).expected = (s.lanes[lane]).departures) ∨
      ((s.lanes[lane]).leg = (s.lanes[lane]).departures + 1 ∧
        ∃ e ∈ (s.lanes[lane]).exchanges, e.leg = (s.lanes[lane]).departures ∧
          e.verdict = .pending))

/-- The departure a lane's count comes to is the takeover of a leg of a relay, whose exchange record,
behind those of other legs, is PENDING without it (R125). -/
def State.TakeoverDue (h : HeatRecord) (lane : Lane) (before : List ExchangeRecord)
    (e : ExchangeRecord) (s : State) : Prop :=
  (s.lanes[lane]).exchanges = before ++ [e] ∧ (∀ x ∈ before, x.leg ≠ e.leg) ∧ h.relay = true ∧
    1 ≤ e.leg ∧ e.leg ≤ 3 ∧ (s.lanes[lane]).departures = e.leg ∧ e.verdict = .pending ∧
    e.departure = none

/-- What the close of a leg-end window leaves: the lane's record `r`, and nothing else changed but the
clock, the board and the notices. -/
def State.LegEndLeaves (lane : Lane) (time : Nat) (r : LaneRecord) (s t : State) : Prop :=
  t = { s with clock := max s.clock time, lanes := t.lanes, board := t.board, link := t.link } ∧
    t.lanes[lane] = r ∧ (∀ l : Lane, l ≠ lane → t.lanes[l] = s.lanes[l]) ∧ s.boardKept t ∧
    s.linkKept t

/-- The verdict on a margin in ticks: EARLY below LO, LATE above HI, CLEAN otherwise (R129). -/
def verdictOf (h : HeatRecord) (margin : Int) : Verdict :=
  if margin < h.lo * 100 then .early else if h.hi * 100 < margin then .late else .clean

/-- The exchange record of a takeover whose departure comes when its leg end has closed: judged on the
margin behind source PAD, UNJUDGED behind the others (R128, R129). -/
def takenOver (h : HeatRecord) (e : ExchangeRecord) (departure : Int) : ExchangeRecord :=
  match e.legEnd, e.incoming with
  | .pad, some touch =>
    { e with
      departure := some departure, margin := some (departure - touch)
      verdict := verdictOf h (departure - touch) }
  | _, _ => { e with departure := some departure, verdict := .unjudged }

/-! ### What the end of a heat makes of its lanes -/

/-- The exchange record of a leg behind the close of its leg end with an official time: with source PAD the
incoming touch is the pad's; with a departure held it is judged, and without one it stays PENDING (R127 to
R129). -/
def closedExchange (h : HeatRecord) (source : OfficialSource) (w : FinishWindow) (e : ExchangeRecord) :
    ExchangeRecord :=
  let closed :=
    if source = .pad then { e with legEnd := .pad, incoming := w.pad.map (·.time) }
    else { e with legEnd := .backup, incoming := none }
  match e.departure with
  | some departure => takenOver h closed departure
  | none => closed

/-- A lane whose exchange record, behind those of other legs, has taken this form: the review reason of its
verdict, and a departure that did not come counted (R130, R131). -/
def judgedLane (before : List ExchangeRecord) (e : ExchangeRecord) (r : LaneRecord) : LaneRecord :=
  { r with
    exchanges := before ++ [e]
    reasons :=
      { r.reasons with
        earlyExchange := r.reasons.earlyExchange || e.verdict == .early
        unjudgedExchange := r.reasons.unjudgedExchange || e.verdict == .unjudged }
    departures :=
      if e.verdict = .unjudged ∧ r.departures = e.leg then e.leg + 1 else r.departures }

/-- The official time of an open FINAL window of an entered lane. -/
def State.openFinal (h : HeatRecord) (s : State) (lane : Lane) : Option Nat :=
  match (s.lanes[lane]).window with
  | some w =>
    if h.enters lane = true ∧ (s.lanes[lane]).expected = h.lengths then
      (s.deriveWindow h lane w).official
    else none
  | none => none

/-- `t` is what the end of heat `h` makes of the lanes and the place order of `s` (R46 steps 2 to 4, R93,
R111, R123, R130, R138). A lane without a window that is not RACING keeps its record, and one that is RACING
becomes CLOSED; a FINAL window is derived and its lane FINISHED; a LEG_END window is derived into its
record, its exchange judged or PENDING, and its lane CLOSED. Then what is PENDING is settled UNJUDGED. Each
has its notices, a lane's FINISH notice before the PLACES notice of its place when the places of `s` are those
of its order. The lanes with a FINAL window enter the place order in lane order. -/
structure State.LanesEnded (h : HeatRecord) (s t : State) : Prop where
  others : ∀ lane : Lane, (s.lanes[lane]).window = none →
    (h.enters lane = false ∨ (s.lanes[lane]).status ≠ .racing) →
    t.lanes[lane] = { settledLane s.lanes[lane] with place := (t.lanes[lane]).place } ∧
      s.tellsSettled h lane .heatEnd t
  closed : ∀ lane : Lane, (s.lanes[lane]).window = none → h.enters lane = true →
    (s.lanes[lane]).status = .racing →
    t.lanes[lane] =
      { settledLane (arrivedLane { s.lanes[lane] with status := .closed }) with
        place := (t.lanes[lane]).place } ∧
      s.tellsAbsence lane t ∧ s.tellsSettled h lane .heatEnd t
  finished : ∀ (lane : Lane) (w : FinishWindow) (official : Nat),
    (s.lanes[lane]).window = some w → h.enters lane = true →
    (s.lanes[lane]).expected = h.lengths → (s.deriveWindow h lane w).official = some official →
    t.lanes[lane] =
      { settledLane (s.finishedLane h lane w official) with place := (t.lanes[lane]).place } ∧
      t.tells ⟨t.masterTime, .finish lane (s.lanes[lane]).label
        (closedRecord h h.lengths w (s.deriveWindow h lane w)) (if h.relay then 4 else 1)
        (t.lanes[lane]).reasons .heatEnd⟩ ∧
      ((∀ l : Lane, (s.lanes[l]).place = placeIn s.placing.order l) →
        (s.lanes[lane]).place = none → ∃ changes count,
        [⟨t.masterTime, .finish lane (s.lanes[lane]).label
            (closedRecord h h.lengths w (s.deriveWindow h lane w)) (if h.relay then 4 else 1)
            (t.lanes[lane]).reasons .heatEnd⟩,
          ⟨t.masterTime, .places (.finish lane) changes count⟩].Sublist t.told) ∧
      s.tellsSettled h lane .heatEnd t
  legEnds : ∀ (lane : Lane) (w : FinishWindow) (official : Nat) (before : List ExchangeRecord)
    (e judged : ExchangeRecord), (s.lanes[lane]).window = some w → h.enters lane = true →
    (s.lanes[lane]).status = .racing → lengthKind h (s.lanes[lane]).expected = .legEnd →
    (s.deriveWindow h lane w).official = some official →
    (s.lanes[lane]).exchanges = before ++ [e] → (∀ x ∈ before, x.leg ≠ e.leg) →
    e.leg = (s.lanes[lane]).leg → e.verdict = .pending →
    judged = closedExchange h (s.deriveWindow h lane w).source w e →
    t.lanes[lane] =
      { settledLane (arrivedLane { judgedLane before judged (s.legEndLane h lane w official) with
          status := .closed }) with
        place := (t.lanes[lane]).place } ∧
      t.tells ⟨t.masterTime, .split lane
        (closedRecord h (s.lanes[lane]).expected w (s.deriveWindow h lane w))
        ((s.lanes[lane]).leg + 1)⟩ ∧
      (reportsVerdict h.notify judged.verdict = true →
        t.tells ⟨t.masterTime, .exchange lane judged .evaluated (t.lanes[lane]).reasons⟩)
  order : t.placing.order = allLanes.foldl
    (fun order lane =>
      match s.openFinal h lane with
      | some official => insertOrder (lane, official / 100) (removeOrder lane order)
      | none => order) s.placing.order
  places : (∀ lane : Lane, (s.lanes[lane]).place = placeIn s.placing.order lane) →
    ∀ lane : Lane, (t.lanes[lane]).place = placeIn t.placing.order lane

/-- At the end of a heat a HOLDOVER whose count is full returns to LOCKED, with its notice behind the
HEAT_STATE notice; otherwise the timebase stays as it is (R6). -/
def State.HoldoverReturns (s t : State) : Prop :=
  if s.timebase.state = .holdover ∧ s.timebase.goodCount = 20000 then
    t.timebase =
      { s.timebase with state := .locked, steering := decide (s.timebase.source = .external) } ∧
      t.tells ⟨t.masterTime,
        .timebase .locked .holdover s.timebase.source .referenceRestored⟩
  else t.timebase = s.timebase

/-! ### The board -/

/-- The character of a digit 0 to 9. -/
def digit (n : Nat) : Byte := 0x30#8 + BitVec.ofNat 8 n

/-- A number below 100 without a leading zero. -/
def shortNumber (n : Nat) : Text := if n < 10 then [digit n] else [digit (n / 10), digit (n % 10)]

/-- A number below 10,000 without leading zeros. -/
def shownNumber (n : Nat) : Text :=
  if n < 100 then shortNumber n
  else if n < 1000 then [digit (n / 100), digit (n / 10 % 10), digit (n % 10)]
  else [digit (n / 1000), digit (n / 100 % 10), digit (n / 10 % 10), digit (n % 10)]

/-- The length of a course in metres. -/
def metres : Course → Nat
  | .m25 => 25
  | .m50 => 50

/-- A time in tenths on the clock row: minutes, a colon, two digits of seconds, a full stop, one digit
(R160). -/
def shownTenths (n : Nat) : Text :=
  shortNumber (n / 600) ++ [0x3A#8, digit (n / 100 % 6), digit (n / 10 % 10), 0x2E#8, digit (n % 10)]

/-- A time in hundredths with minutes (R158, R160). -/
def shownHundredths (n : Nat) : Text :=
  shortNumber (n / 6000) ++ [0x3A#8, digit (n / 1000 % 6), digit (n / 100 % 10), 0x2E#8,
    digit (n / 10 % 10), digit (n % 10)]

/-- A time in hundredths in a lane row: without minutes below 6,000 (R158). -/
def shownLaneTime (n : Nat) : Text :=
  if n < 6000 then shortNumber (n / 100) ++ [0x2E#8, digit (n / 10 % 10), digit (n % 10)]
  else shownHundredths n

/-- Spaces. -/
def blanks (n : Nat) : Text := List.replicate n 0x20#8

/-- The content of a clock row with a time (R156, R160). -/
def clockRow (time : Text) : Row :=
  ⟨.clock, 0x20#8, blanks 2, blanks 3, blanks (8 - time.length) ++ time, blanks 16⟩

/-- The content of a lane row (R157). -/
def shownLane (lane : Lane) (place : Option Nat) (marker time label : Text) : Row :=
  ⟨.lane, digit lane.val,
    match place with
      | some n => if n < 10 then [0x20#8, digit n] else shortNumber n
      | none => blanks 2,
    marker, blanks (8 - time.length) ++ time, label ++ blanks (16 - label.length)⟩

/-- The marker of a FINISHED lane that is not disqualified (R158): REV, CHK or spaces. -/
def shownMarker (race : RaceState) (r : LaneRecord) : Text :=
  if race = .official ∧ 1 ≤ r.revisions then [0x52#8, 0x45#8, 0x56#8]
  else if r.reasons = ⟨false, false, false, false, false, false⟩ then blanks 3
  else [0x43#8, 0x48#8, 0x4B#8]

/-- The running order of a heat (R159): its entered lanes in lane order; in JUDGING and OFFICIAL the lanes of
the place order, and behind them the entered lanes that are not in it. -/
def State.shownOrder (h : HeatRecord) (s : State) : List Lane :=
  match s.heat.race with
  | .idle => []
  | .loaded | .armed | .running => allLanes.filter fun lane => h.enters lane
  | .judging | .official =>
    s.placing.order.map (·.1) ++
      allLanes.filter fun lane => h.enters lane && !(s.placing.order.any (·.1 == lane))

/-! ### Probes -/

/-- What the end of a probe's sweep leaves (R134, R177): the deferred reply COMPLETE with the probe's test
and ten readings, the scanner OFF with no probe in flight, its last test kept. -/
def State.ProbeLeaves (tag : Byte) (time : Nat) (readings : Vector (Option (Reading × Nat)) 10)
    (s t : State) : Prop :=
  t = { s with clock := time, scanner := t.scanner, board := t.board, link := t.link } ∧
    t.scanner.state = .off ∧ t.scanner.probe = none ∧ t.scanner.lastTest = s.scanner.lastTest ∧
    (∀ lane : Lane, t.scanner.channels[lane] = ⟨none, none, none⟩) ∧
    t.gives ⟨.deferred, some .probeBlocks, tag,
      .accepted (.probed true s.scanner.probeTest readings)⟩ ∧
    s.boardKept t ∧ s.linkKept t

/-! ### Leveling -/

/-- What the step of the pad in turn becomes at an edge of its line (R68, R69): an opening edge within the
wait of 5,000 ticks begins the drive; the first closing edge at most 100 ticks after the drive start is
the answer; every other edge leaves it. -/
def levelHears (level : Level) (stamp clock : Nat) (step : LevelStep) : LevelStep :=
  match level, step with
  | .opened, .waiting began => if stamp < began + 5000 then .driving clock none else step
  | .closed, .driving start none =>
    if start ≤ stamp ∧ stamp ≤ start + 100 then .driving start (some (stamp - start)) else step
  | _, _ => step

/-- The store write that leveling begins behind its last pad (R70): 400 ticks, of the profile in force
with the results taken over. A latency is stored and clears the dead mark, DEAD sets the mark, and
BUSY_PAD, like no result, changes nothing of its pad. -/
def State.WritesLeveled (p : Profile) (results : List (PadIx × LevelResult)) (t : State) : Prop :=
  ∃ w, t.store.write = some w ∧ w.done = t.clock + 400 ∧ w.leveling = true ∧
    w.profile = { p with latencies := w.profile.latencies, dead := w.profile.dead } ∧
    ∀ pad : PadIx,
      (∀ v, (pad, .latency v) ∈ results →
        w.profile.latencies[pad] = v ∧ w.profile.dead[pad] = false) ∧
      ((pad, .dead) ∈ results →
        w.profile.latencies[pad] = p.latencies[pad] ∧ w.profile.dead[pad] = true) ∧
      ((∀ x ∈ results, x.1 = pad → x.2 = .busyPad) →
        w.profile.latencies[pad] = p.latencies[pad] ∧ w.profile.dead[pad] = p.dead[pad])

/-! ### The current heat and amendments -/

/-- The label a lane takes from the heat that becomes current, empty with none and for a lane that is not
entered (R27, R29). -/
def labelFrom (current : Option HeatRecord) (lane : Lane) : Text :=
  match current with
  | none => []
  | some h => if h.enters lane then h.labels[lane] else []

/-- The AMEND command of a kind. -/
def amendCommand (kind : AmendKind) (m : Nat) (tag lane : Byte) (time : BitVec 24) : Instr :=
  match kind with
  | .setTime => .setTime m tag lane time
  | .dq => .dq m tag lane
  | .reinstate => .reinstate m tag lane
  | .clearReview => .clearReview m tag lane

/-- What an amendment makes of the amended lane's record, its place and its revisions apart (R142 to
R145). -/
def amendedLane (kind : AmendKind) (hundredths : Nat) (r : LaneRecord) : LaneRecord :=
  match kind with
  | .setTime =>
    { r with
      finalTime := some (hundredths * 100), finalSource := .manual, status := .finished
      reasons := { r.reasons with noPad := false, discrepant := false, noTime := false } }
  | .dq => { r with disqualified := true }
  | .reinstate => { r with disqualified := false }
  | .clearReview => { r with reasons := ⟨false, false, false, false, false, false⟩ }

/-- The place order an amendment of a lane leaves (R139, R142 to R145): SET_TIME puts a lane that is not
disqualified at its new time, DQ takes the lane out, REINSTATE puts a disqualified lane that is FINISHED
back at its time. -/
def State.amendedOrder (kind : AmendKind) (lane : Lane) (hundredths : Nat) (s : State) :
    List (Lane × Nat) :=
  match kind with
  | .setTime =>
    if (s.lanes[lane]).disqualified then s.placing.order
    else insertOrder (lane, hundredths) (removeOrder lane s.placing.order)
  | .dq =>
    if (s.lanes[lane]).disqualified then s.placing.order else removeOrder lane s.placing.order
  | .reinstate =>
    if (s.lanes[lane]).disqualified = true ∧ (s.lanes[lane]).status = .finished then
      match (s.lanes[lane]).finalTime with
      | some ticks => insertOrder (lane, ticks / 100) (removeOrder lane s.placing.order)
      | none => s.placing.order
    else s.placing.order
  | .clearReview => s.placing.order

/-- The lane fields of a lane result, copied afresh; the reaction and the exchanges stay (R146). -/
def revisedResult (lanes : Vector LaneRecord 10) (x : LaneResult) : LaneResult :=
  { x with
    status := (lanes[x.lane]).status
    disqualified := (lanes[x.lane]).disqualified
    hundredths := (lanes[x.lane]).finalTime.map (· / 100)
    source := (lanes[x.lane]).finalSource
    place := (lanes[x.lane]).place
    revisions := (lanes[x.lane]).revisions }

/-! ### The laws of the device -/

/-- What holds of the race state in every state a run reaches: a heat is current exactly outside IDLE,
IDLE leaves the queue empty (R25), a part that does not run holds no heat (R33), and while ARMED or
RUNNING the timebase is LOCKED or HOLDOVER, the profile is configured and no write, leveling or probe is
in flight (law 9, R35, R36). And the archive's check value is that of its entries: it is brought up to
date in every event that changes them (R154). -/
def State.Lawful (s : State) : Prop :=
  s.placing.check = Config.checkValue s.placing.archive ∧
  (s.heat.race = .idle ↔ s.heat.current = none) ∧ (s.heat.race = .idle → s.heat.queue = []) ∧
    (s.isRunning = false → s.heat.race = .idle) ∧
    (s.armedOrRunning = true →
      (s.timebase.state = .locked ∨ s.timebase.state = .holdover) ∧ s.configured = true ∧
        s.busy = false)

/-- The lists of the part stay within their sizes: 4 queued heats (R25), 4 waiting requests (R175), 64
notices (law 7, R180), 24 archive entries (law 8, R148); the good-window count and the discard count
within their ranges (R3, R173). And between commands no event is in progress: no full pass is still to be
taken up, and no notice still to be completed. -/
def State.Bounded (s : State) : Prop :=
  s.heat.queue.length ≤ 4 ∧ s.link.buffer.length ≤ 4 ∧ s.link.notices.length ≤ 64 ∧
    s.placing.archive.length ≤ 24 ∧ s.timebase.goodCount ≤ 20000 ∧ s.link.discards ≤ 65535 ∧
    s.board.passDue = false ∧ s.link.fresh = 0

end Sys2Proof.Machine
end

