-- ==== Sys2Proof/Certificates/Slice0/Obligations.lean ====
section
/-!
DEFINITION. The statements about the LT-10, for the provers. A statement about a command says what
answer `exec` gives: a next state `t`, the fields the command sets, and that every other field is as it
was. Two parts of `t` are named through `t` itself where the command's own rule does not fix them: the
board driver, which recomputes its rows and feeds its line after every event (R155, R167), and the
console link, whose free line begins the next frame (R179); what stays of them is said beside it.
A command lets time pass up to its moment first: `max s.clock m` is the clock then, and
`s.quietUntil m` says that neither the race-time limit nor the master-time limit comes by then, and that
no tick on the way is a window in which a monitored reference could lose anything. What a command does
whose moment lies at or past a limit, or beyond such a tick, is said in LimitAndRequestEndTheHeat,
MasterTimeLimitUnlocks and WindowsCountOrLoseTheReference: what comes on the way comes first. With the
reference monitor running, REFERENCE_WINDOW_END brings the clock to a command's moment tick by tick.
-/

open Sys2Proof Sys2Proof.Machine

/-! ### Steps and words -/

/-- With command `c` at the front of the queue, a step runs `c` on the state with the queue's rest. -/
def Obligations.StepRunsFrontCommand : Prop :=
  ∀ (c : Instr) (rest : List Instr) (s : State),
    step { s with pending := c :: rest } = exec c { s with pending := rest }

/-! ### Power, resets and start-up -/

/-- POWER_UP on a part without power, the RESET pin on a running part, MAIN_POWER_OFF on a part with
power, and RESTART_RESET when the RESTART reply's last byte leaves, each leave the part as a reset
does (R187, R53): POWER_UP reads and clears the standby latch, the others keep it. STANDBY_LATCH_SET
sets the latch of a part without power and changes nothing else; while main power is on it changes
nothing. The model's choices: log entries 11, 22, 34, 36, 45. -/
def Obligations.ResetsEmptyTheWorkingState : Prop :=
  (∀ s : State, s.power = .off →
    ∃ t, exec .powerUp s = .next t ∧ s.ResetOf t ∧ t.power = .held .power s.standbyLatch ∧
      t.standbyLatch = false) ∧
  (∀ s : State, s.power = .running →
    ∃ t, exec .resetPin s = .next t ∧ s.ResetOf t ∧ t.power = .held .resetPin false ∧
      t.standbyLatch = s.standbyLatch) ∧
  (∀ s : State, s.power ≠ .off →
    ∃ t, exec .mainPowerOff s = .next t ∧ s.ResetOf t ∧ t.power = .off ∧
      t.standbyLatch = s.standbyLatch) ∧
  (∀ (s : State) (tag : Byte) (began : Nat), s.power = .running →
    s.link.line =
      some ⟨.reply ⟨.execution, some .restart, tag, .accepted .empty⟩, began⟩ →
    s.quietUntil (began + 8) = true →
    ∃ t, exec .restartReset s = .next t ∧ s.ResetOf t ∧ t.power = .held .restartRequest false ∧
      t.standbyLatch = s.standbyLatch) ∧
  (∀ s : State, s.power = .off →
    exec .standbyLatchSet s = .next { s with standbyLatch := true }) ∧
  (∀ s : State, s.power ≠ .off → exec .standbyLatchSet s = .next s)

/-- START_UP of a part held in reset: it runs, in the mode the strap gives; the profile in force is
the stored one when its fields lie in their ranges; the archive is kept unless its check fails or the
start is from power with the latch set; the timebase is ACQUIRING from the profile's source, or
INTERNAL; the reset record says what was found. A configured part makes the board's full pass in the
profile's default mode; of one that is not the line stays silent and the image is all BLANK. The check
passes when the check value agrees with the entries; a memory that was held reads as it was written,
and of one that was not nothing is said. The model's choices: log entries 10, 34. -/
def Obligations.StartUpFixesModeProfileAndArchive : Prop :=
  ∀ (s : State) (cause : ResetCause) (latch strapHigh held : Bool), s.power = .held cause latch →
    ∃ (t : State) (found : List ArchiveEntry) (value : Nat) (sound : Bool),
      exec (.startUp strapHigh held) s = .next t ∧
      (held = true → found = s.placing.archive ∧ value = s.placing.check) ∧ found.length ≤
        max 24 s.placing.archive.length ∧ (sound = true ↔ Config.checkValue found = value) ∧
      t = { s with
        power := .running
        timebase :=
          { state := .acquiring, source := (t.store.inForce.map (·.source)).getD .internal,
            goodCount := 0, lastWindow := none, steering := false,
            acquiringEnd := s.clock + 5000 }
        placing :=
          { s.placing with
            archive := if sound = false ∨ (cause = .power ∧ latch = true) then [] else found
            check := Config.checkValue t.placing.archive }
        board := t.board
        store :=
          { s.store with
            mode := if strapHigh then .service else .competition
            inForce := s.store.stored.filter Profile.inRange
            setupOpen := true
            record :=
              ⟨if cause ≠ .power then .warmReset
                else if latch = true ∨ sound = false then .coldStart else .standbyRestart,
                cause, t.store.inForce.isSome, sound⟩ }
        link := t.link } ∧
      t.board.mode = t.store.inForce.map (·.defaultMode) ∧ s.PassTaken t ∧ s.linkKept t

/-! ### The timebase -/

/-- The three events that lock the timebase, each with its TIMEBASE notice. The end of the 0.5 s
INTERNAL acquisition locks it unsteered, with cause ACQUIRED. The window that brings the count to
20,000 locks it and starts the steering: from ACQUIRING in every race state, with cause ACQUIRED; from
HOLDOVER when the race is neither ARMED nor RUNNING, with cause REFERENCE_RESTORED. As
REFERENCE_WINDOW_END such a window does the same. The model's choices: log entries 2, 8, 12, 13, 14.
-/
def Obligations.AcquisitionsLock : Prop :=
  (∀ s : State, s.isRunning = true → s.timebase.state = .acquiring → s.timebase.source = .internal →
    s.quietUntil s.timebase.acquiringEnd = true →
    ∃ t, exec .acquiringIntervalEnd s = .next t ∧
      t = { s with
        clock := max s.clock s.timebase.acquiringEnd
        timebase := { s.timebase with state := .locked, steering := false }
        board := t.board, link := t.link } ∧
      s.boardKept t ∧ s.linkKept t ∧
      t.tells ⟨t.masterTime, .timebase .locked .acquiring .internal .acquired⟩) ∧
  (∀ s : State, s.isRunning = true → s.timebase.source = .external → s.timebase.state = .acquiring →
    19999 ≤ s.timebase.goodCount → s.noLimitBy (s.clock + 1) = true →
    ∃ t, exec .referenceAcquired s = .next t ∧
      t = { s with
        clock := s.clock + 1
        timebase :=
          { s.timebase with
            state := .locked, goodCount := 20000, lastWindow := some true, steering := true }
        board := t.board, link := t.link } ∧
      s.boardKept t ∧ s.linkKept t ∧
      t.tells ⟨t.masterTime, .timebase .locked .acquiring .external .acquired⟩ ∧
      ∀ cycles, 999 ≤ cycles → cycles ≤ 1001 → exec (.referenceWindowEnd cycles) s = .next t) ∧
  (∀ s : State, s.isRunning = true → s.timebase.source = .external → s.timebase.state = .holdover →
    19999 ≤ s.timebase.goodCount → s.armedOrRunning = false → s.noLimitBy (s.clock + 1) = true →
    ∃ t, exec .referenceRestored s = .next t ∧
      t = { s with
        clock := s.clock + 1
        timebase :=
          { s.timebase with
            state := .locked, goodCount := 20000, lastWindow := some true, steering := true }
        board := t.board, link := t.link } ∧
      s.boardKept t ∧ s.linkKept t ∧
      t.tells ⟨t.masterTime, .timebase .locked .holdover .external .referenceRestored⟩ ∧
      ∀ cycles, 999 ≤ cycles → cycles ≤ 1001 → exec (.referenceWindowEnd cycles) s = .next t)

/-- A good window, 999 to 1,001 cycles, that does not lock the timebase raises the count by one, up to
20,000, and changes nothing else of the timebase: in LOCKED, below 20,000, and in a HOLDOVER that an
ARMED or RUNNING heat holds. A bad window sets the count to 0; in LOCKED it also stops the steering,
enters HOLDOVER with a TIMEBASE notice of cause REFERENCE_LOST, and sets the HOLDOVER flag of an ARMED
or RUNNING heat; in ACQUIRING and HOLDOVER the state stays. While a bad window has something to take,
a step with no command waiting is such a window, of 0 cycles, with the commands of the events that the
tick has made due then in the queue; and whatever arrives beyond the tick in progress finds the part
as the bad window of 0 cycles leaves it. Otherwise such a step only moves the clock by one and puts
the due events' commands in the queue: the end of an acquisition, of closures, windows, tenths, the
hold, leveling, the store write, the board's slot, pass and frame, the receiver's silence and the
frame on the console line. Their order in it is the model's (log entry 5). The model's choices: log
entries 2, 5, 8, 13. -/
def Obligations.WindowsCountOrLoseTheReference : Prop :=
  (∀ (s : State) (cycles : Nat), s.isRunning = true → s.timebase.source = .external →
    s.timebase.state ≠ .unlocked → 999 ≤ cycles → cycles ≤ 1001 →
    s.noLimitBy (s.clock + 1) = true →
    (s.timebase.state = .locked ∨ s.timebase.goodCount + 1 < 20000 ∨
      (s.timebase.state = .holdover ∧ s.armedOrRunning = true)) →
    ∃ t, exec (.referenceWindowEnd cycles) s = .next t ∧
      t = { s with
        clock := s.clock + 1
        timebase :=
          { s.timebase with
            goodCount := min 20000 (s.timebase.goodCount + 1), lastWindow := some true }
        board := t.board, link := t.link } ∧
      s.boardKept t ∧ s.linkKept t) ∧
  (∀ (s : State) (cycles : Nat), s.isRunning = true → s.timebase.source = .external →
    s.timebase.state ≠ .unlocked → (cycles < 999 ∨ 1001 < cycles) →
    s.noLimitBy (s.clock + 1) = true →
    ∃ t, exec (.referenceWindowEnd cycles) s = .next t ∧
      t = { s with
        clock := s.clock + 1
        timebase :=
          if s.timebase.state = .locked then
            { s.timebase with
              state := .holdover, steering := false, goodCount := 0, lastWindow := some false }
          else { s.timebase with goodCount := 0, lastWindow := some false }
        heat :=
          if s.timebase.state = .locked ∧ s.armedOrRunning = true then
            { s.heat with flags := { s.heat.flags with holdover := true } }
          else s.heat
        board := t.board, link := t.link } ∧
      s.boardKept t ∧ s.linkKept t ∧
      (s.timebase.state = .locked →
        t.tells ⟨t.masterTime, .timebase .holdover .locked .external .referenceLost⟩)) ∧
  (∀ s : State, s.isRunning = true → s.watches = true → s.noLimitBy (s.clock + 1) = true →
    s.pending = [] →
    ∃ t u, step s = .next t ∧ exec (.referenceWindowEnd 0) s = .next u ∧
      t = { u with pending := t.dueEvents } ∧ t.Queues t.pending) ∧
  (∀ s : State, s.isRunning = true → s.quietUntil (s.clock + 1) = true → s.pending = [] →
    ∃ t, step s = .next t ∧ t = { s with clock := s.clock + 1, pending := t.dueEvents } ∧
      t.Queues t.pending) ∧
  (∀ (s u : State) (m : Nat), s.isRunning = true → s.watches = true → s.clock < m →
    exec (.referenceWindowEnd 0) s = .next u → s.sameAt m u)

/-- Master time reaching its limit, with no race-time limit and no unjudged reference window on the
way: UNLOCKED, the count 0, no steering; no measurement and no probe goes on: a leveling that measures
is IDLE without a write, with a LEVEL_DONE notice ABANDONED of the results so far, and a probe in
flight ends with the scanner OFF and its deferred reply ABANDONED of what has been taken. A TIMEBASE
notice of cause LIMIT_REACHED carries the limit as its creation time and is the last of the event. A
RUNNING heat, during which law 9 lets no measurement go on, ends in JUDGING as END_HEAT ends it, every
open window derived, every lane FINISHED or CLOSED, the place order following, with a HEAT_STATE
notice of cause TIMEBASE_LIMIT and its notices in the order of the steps of R46. An ARMED heat is
LOADED again: no SET mark and no guard, every entered lane cleared, the scanner OFF, with its
HEAT_STATE notice of that cause. Whatever arrives at or past the limit finds the part as the limit
leaves it. The model's choices: log entries 7, 8, 13, 18, 55. -/
def Obligations.MasterTimeLimitUnlocks : Prop :=
  (∀ s : State, s.isRunning = true → s.timebase.state ≠ .unlocked →
    (s.heat.race = .running → s.heat.current.isSome = true) →
    s.raceLimitBy Config.masterLimit = false →
    (s.watches = true → Config.masterLimit ≤ s.clock + 1) →
    ∃ t, exec .masterTimeLimit s = .next t ∧ t.masterTime = Config.masterLimit ∧
      t.timebase =
        { s.timebase with state := .unlocked, goodCount := 0, steering := false } ∧
      t.heat.race =
        (match s.heat.race with
          | .armed => .loaded
          | .running => .judging
          | r => r) ∧
      t.heat.current = s.heat.current ∧ t.heat.queue = s.heat.queue ∧
      (∀ pad step rest, t.wall.level ≠ .measuring pad step rest) ∧ t.scanner.probe = none ∧
      t.store = s.store ∧ t.placing.archive = s.placing.archive ∧
      t.placing.locked = s.placing.locked ∧ s.linkKept t ∧
      [⟨Config.masterLimit,
        .timebase .unlocked s.timebase.state s.timebase.source .limitReached⟩] <:+ t.told ∧
      (∀ h, s.heat.race = .running → s.heat.current = some h →
        (∀ pad step rest, s.wall.level ≠ .measuring pad step rest) →
        s.EndedFrom h t ∧
        ((∀ lane : Lane, legsApart h false 0 (s.lanes[lane]).exchanges) → s.LanesEnded h t) ∧
        t.heat.flags = s.heat.flags ∧ s.tellsInSteps t ∧
        t.tells ⟨Config.masterLimit, .heatState .judging .running .timebaseLimit
          (some (h.event, h.heat)) s.heat.flags none none⟩) ∧
      (∀ h, s.heat.race = .armed → s.heat.current = some h →
        t.heat = { s.heat with race := .loaded, setMark := none, guardEnd := none } ∧
        (∀ lane : Lane, t.lanes[lane] =
          if h.enters lane then .cleared .idle (s.lanes[lane]).label else s.lanes[lane]) ∧
        t.scanner.state = .off ∧ t.scanner.lastTest = s.scanner.lastTest ∧
        (∀ lane : Lane, t.scanner.channels[lane] = ⟨none, none, none⟩) ∧
        t.tells ⟨Config.masterLimit, .heatState .loaded .armed .timebaseLimit
          (some (h.event, h.heat)) s.heat.flags none none⟩) ∧
      (∀ pad step rest, s.armedOrRunning = false → s.wall.level = .measuring pad step rest →
        t.wall = { s.wall with level := .idle, results := [] } ∧
        [⟨Config.masterLimit, .levelDone false s.wall.results⟩,
          ⟨Config.masterLimit,
            .timebase .unlocked s.timebase.state s.timebase.source .limitReached⟩] <:+ t.told) ∧
      (∀ tag, s.armedOrRunning = false → s.scanner.probe = some tag →
        t.scanner.state = .off ∧ t.scanner.lastTest = s.scanner.lastTest ∧
        (∀ lane : Lane, t.scanner.channels[lane] = ⟨none, none, none⟩) ∧
        t.gives ⟨.deferred, some .probeBlocks, tag,
          .accepted (.probed false s.scanner.probeTest s.scanner.probeReadings)⟩)) ∧
  (∀ (s u : State) (m : Nat), s.isRunning = true → s.timebase.state ≠ .unlocked →
    (s.heat.race = .running → s.heat.current.isSome = true) → Config.masterLimit ≤ m →
    exec .masterTimeLimit s = .next u → s.sameAt m u)

/-- TIMEBASE_RESTART on a ready link, the race neither ARMED nor RUNNING and the timebase not
UNLOCKED: ACQUIRING from the start, with the reply and a TIMEBASE notice of cause RESTART_REQUEST;
master time does not step. The model's choices: log entries 2, 6, 8. -/
def Obligations.TimebaseRestartAcquiresAfresh : Prop :=
  ∀ (s : State) (m : Nat) (tag : Byte), s.isRunning = true → s.linkReady → s.quietUntil m = true →
    s.armedOrRunning = false →
    s.timebase.state ≠ .unlocked →
    ∃ t, exec (.timebaseRestart m tag []) s = .next t ∧
      t = { s with
        clock := max s.clock m
        timebase :=
          { s.timebase with
            state := .acquiring, goodCount := 0, steering := false
            acquiringEnd := max s.clock m + 5000 }
        board := t.board, link := t.link } ∧
      s.boardKept t ∧ s.linkKept t ∧
      t.answers .timebaseRestart tag
        (.accepted (.timebase .acquiring s.timebase.source t.masterTime)) ∧
      t.tells ⟨t.masterTime,
        .timebase .acquiring s.timebase.state s.timebase.source .restartRequest⟩

/-! ### Race time -/

/-- TENTH_BOUNDARY: the clock comes to the first multiple of 1,000 ticks of race time that is not
before the present or the moment given, and the board shows the records as they then stand: a row
shows what its source gives when the routing table of the profile in force enables it, and is BLANK
when it does not or with no profile in force. The clock row shows 0:00.0 in IDLE, LOADED and ARMED; in
RUNNING the race time in tenths, rounded down, or while the first-finish hold runs the time at the
head of the place order in hundredths; in JUDGING and OFFICIAL that time, or with an empty order the
frozen end time. The model's choices: log entries 2, 8, 15. -/
def Obligations.TenthBoundaryMovesTheClock : Prop :=
  (∀ (s : State) (m start k : Nat), s.isRunning = true → s.heat.race = .running →
    s.heat.startMark = some start → k < 36000 → s.quietUntil (start + 1000 * k) = true →
    s.clock ≤ start + 1000 * k → m ≤ start + 1000 * k → start + 1000 * k < max m s.clock + 1000 →
    ∃ t, exec (.tenthBoundary m) s = .next t ∧
      t = { s with clock := start + 1000 * k, board := t.board, link := t.link } ∧
      s.boardKept t ∧ s.linkKept t ∧ t.board.image = t.imageNow) ∧
  (∀ (s : State) (row : RowIx),
    (s.store.inForce = none → s.imageNow[row] = .blank) ∧
      ∀ p, s.store.inForce = some p →
        ((p.routing[row]).2 = false → s.imageNow[row] = .blank) ∧
          ((p.routing[row]).2 = true → s.imageNow[row] = s.rowOf (p.routing[row]).1)) ∧
  (∀ (s : State) (start : Nat) (lead : Lane × Nat), lead ∈ s.placing.order.head? →
    lead.2 < 600000 →
    ((s.heat.race = .judging ∨ s.heat.race = .official ∨
        (s.heat.race = .running ∧ ∃ ends, s.board.hold = .holding ends)) →
      s.rowOf .clock = clockRow (shownHundredths lead.2)) ∧
    (s.heat.race = .running → (∀ ends, s.board.hold ≠ .holding ends) →
      s.heat.startMark = some start → s.masterTime < start + 60000000 →
      s.rowOf .clock = clockRow (shownTenths ((s.masterTime - start) / 1000)))) ∧
  (∀ (s : State) (start ended : Nat), s.placing.order = [] → ended < 600000 →
    ((s.heat.race = .judging ∨ s.heat.race = .official) → s.board.frozen = some ended →
      s.rowOf .clock = clockRow (shownHundredths ended)) ∧
    (s.heat.race = .running → s.heat.startMark = some start → s.masterTime < start + 60000000 →
      s.rowOf .clock = clockRow (shownTenths ((s.masterTime - start) / 1000)))) ∧
  (∀ s : State, s.heat.race = .idle ∨ s.heat.race = .loaded ∨ s.heat.race = .armed →
    s.rowOf .clock = clockRow (shownTenths 0))

/-- The race-time limit, at race time 36,000,000, with no unjudged reference window on the way, sets
OVERTIME and ends the heat, with a HEAT_STATE notice that carries the flag; whatever arrives at or
past the limit finds the part as the limit leaves it. END_HEAT on a ready link in RUNNING ends the
heat with cause END_REQUEST. Either end derives every open window: a lane with a FINAL window is
FINISHED with a FINISH notice of cause HEAT_END, and a PLACES notice behind it, one with a LEG_END
window takes its record and its exchange's judgement and is CLOSED with a SPLIT notice, any other
RACING lane is CLOSED, each with its NOT_ON_PLATFORM where no departure was counted; then the PENDING
exchanges are settled UNJUDGED by HEAT_END. The notices stand in the order of the steps of R46: the
windows, the lanes closed, the exchanges settled, the HEAT_STATE notice, the timebase's. A lane that
is neither RACING nor has a window keeps its record; the derived FINAL times enter the place order and
every place follows. A HOLDOVER with a full count returns to LOCKED, and otherwise the timebase stays
as it is; where the limit ends a monitored tick that nobody judged, that tick's bad window comes
behind it. The model's choices: log entries 2, 6, 8, 12, 13, 55. -/
def Obligations.LimitAndRequestEndTheHeat : Prop :=
  (∀ (s : State) (h : HeatRecord) (start : Nat), s.isRunning = true → s.heat.race = .running →
    s.heat.current = some h → s.heat.startMark = some start →
    start + 36000000 < Config.masterLimit → s.clock ≤ start + 36000000 →
    (s.watches = true → start + 36000000 ≤ s.clock + 1) →
    ∃ t, exec .raceTimeLimit s = .next t ∧ t.clock = start + 36000000 ∧ s.EndedFrom h t ∧
      ((∀ lane : Lane, legsApart h false 0 (s.lanes[lane]).exchanges) → s.LanesEnded h t) ∧
      (s.watches = false ∨ s.clock = start + 36000000 → s.HoldoverReturns t) ∧
      (s.watches = true → s.clock < start + 36000000 →
        t.timebase =
          { s.timebase with
            state := if s.timebase.state = .locked then .holdover else s.timebase.state
            steering :=
              s.timebase.steering && !(s.timebase.state == .locked ||
                (s.timebase.state == .holdover && s.timebase.goodCount == 20000))
            goodCount := 0, lastWindow := some false }) ∧
      t.heat.flags = { s.heat.flags with overtime := true } ∧ s.linkKept t ∧
      t.tells ⟨t.masterTime, .heatState .judging .running .overtime (some (h.event, h.heat))
        { s.heat.flags with overtime := true } none none⟩ ∧
      s.tellsInSteps t) ∧
  (∀ (s u : State) (start m : Nat), s.isRunning = true → s.heat.race = .running →
    s.heat.current.isSome = true → s.heat.startMark = some start →
    start + 36000000 < Config.masterLimit → start + 36000000 ≤ m →
    exec .raceTimeLimit s = .next u → s.sameAt m u) ∧
  (∀ (s : State) (h : HeatRecord) (m : Nat) (tag : Byte), s.isRunning = true → s.linkReady →
    s.quietUntil m = true → s.heat.race = .running → s.heat.current = some h →
    ∃ t, exec (.endHeat m tag []) s = .next t ∧ t.clock = max s.clock m ∧ s.EndedFrom h t ∧
      ((∀ lane : Lane, legsApart h false 0 (s.lanes[lane]).exchanges) → s.LanesEnded h t) ∧
      s.HoldoverReturns t ∧
      t.heat.flags = s.heat.flags ∧ s.linkKept t ∧ t.answers .endHeat tag (.accepted .empty) ∧
      t.tells ⟨t.masterTime, .heatState .judging .running .endRequest (some (h.event, h.heat))
        s.heat.flags none none⟩ ∧
      s.tellsInSteps t)

/-! ### The starter's lines -/

/-- An active edge on the SET line in ARMED is the SET mark; in every other race state, and on
opening, the line only takes its level. No notice is made and none goes, and no reply: each stays in
its queue or goes on the line. The model's choices: log entries 2, 8. -/
def Obligations.SetEdgeMarksInArmed : Prop :=
  ∀ (s : State) (level : Level) (stamp : Nat), s.isRunning = true → s.heat.setLine ≠ level →
    stamp ≤ Config.masterLimit → s.quietUntil stamp = true →
    ∃ t, exec (.setLineEdge level stamp) s = .next t ∧
      t = { s with
        clock := max s.clock stamp
        heat :=
          { s.heat with
            setLine := level
            setMark :=
              if level = .closed ∧ s.heat.race = .armed then some stamp else s.heat.setMark }
        board := t.board, link := t.link } ∧
      s.boardKept t ∧ s.linkKept t ∧
      (s.link.fresh = 0 → s.link.line ≠ none → t.link = s.link) ∧
      (s.link.fresh = 0 → s.link.line = none →
        (∀ n, t.tells n ↔ s.tells n) ∧ ∀ r, t.gives r ↔ s.gives r)

/-- An active edge on the START line starts an ARMED heat at its own stamp, unless the stamp is before
the guard end; and so does the START request at its execution stamp, which its reply carries. The pads
are armed as their lines then are; every entered lane races from leg 1 and length 1 with its reaction
settled by the table of R122, a departure already held measured against the start mark; the channels
keep their load states as start loads. The HEAT_STATE notice carries the start mark, the REACTION
notice directly behind it the lanes settled; they are the last notices of the event. The model's
choices: log entries 2, 6, 8, 31. -/
def Obligations.StartSignalStartsTheHeat : Prop :=
  (∀ (s : State) (h : HeatRecord) (p : Profile) (stamp : Nat), s.readyToStart h p stamp →
    s.heat.startLine = .opened → stamp ≤ Config.masterLimit → s.quietUntil stamp = true →
    (∀ g, s.heat.guardEnd = some g → g ≤ stamp) →
    ∃ t, exec (.startLineEdge .closed stamp) s = .next t ∧ s.StartedFrom h p stamp t ∧
      t.heat.startLine = .closed ∧ t.clock = max s.clock stamp ∧ s.linkKept t ∧
      t.tells ⟨t.masterTime, .heatState .running .armed .startLine (some (h.event, h.heat))
        s.heat.flags (some stamp) none⟩ ∧
      (settledLanes h s stamp ≠ [] →
        [⟨t.masterTime, .heatState .running .armed .startLine (some (h.event, h.heat)) s.heat.flags
          (some stamp) none⟩,
        ⟨t.masterTime, .reaction ((settledLanes h s stamp).map fun lane =>
          ⟨lane, (t.lanes[lane]).reaction, (t.scanner.channels[lane]).startLoad,
            (t.lanes[lane]).reasons⟩)⟩] <:+ t.told)) ∧
  (∀ (s : State) (h : HeatRecord) (p : Profile) (m : Nat) (tag : Byte), s.linkReady →
    s.quietUntil m = true → s.readyToStart h p (s.advance m).masterTime →
    (∀ g, s.heat.guardEnd = some g → g ≤ (s.advance m).masterTime) →
    ∃ t, exec (.start m tag []) s = .next t ∧
      s.StartedFrom h p (s.advance m).masterTime t ∧ t.clock = max s.clock m ∧
      t.heat.startLine = s.heat.startLine ∧ s.linkKept t ∧
      t.answers .start tag (.accepted (.started (s.advance m).masterTime)) ∧
      t.tells ⟨t.masterTime, .heatState .running .armed .startRequest (some (h.event, h.heat))
        s.heat.flags (some (s.advance m).masterTime) none⟩ ∧
      (settledLanes h s (s.advance m).masterTime ≠ [] →
        [⟨t.masterTime, .heatState .running .armed .startRequest (some (h.event, h.heat)) s.heat.flags
          (some (s.advance m).masterTime) none⟩,
        ⟨t.masterTime, .reaction ((settledLanes h s (s.advance m).masterTime).map fun lane =>
          ⟨lane, (t.lanes[lane]).reaction, (t.scanner.channels[lane]).startLoad,
            (t.lanes[lane]).reasons⟩)⟩] <:+ t.told))

/-- A START edge within the re-trigger guard, or in another race state than ARMED, only moves the
line, and so does the line's opening; a START request within the guard is refused with BUSY and one
outside ARMED with WRONG_STATE, and neither changes the heat. The model's choices: log entries 2, 6,
8. -/
def Obligations.StartSignalsNotTaken : Prop :=
  (∀ (s : State) (stamp : Nat), s.isRunning = true → s.heat.startLine = .opened →
    stamp ≤ Config.masterLimit → s.quietUntil stamp = true →
    (s.heat.race ≠ .armed ∨ ∃ g, s.heat.guardEnd = some g ∧ stamp < g) →
    ∃ t, exec (.startLineEdge .closed stamp) s = .next t ∧
      t = { s with
        clock := max s.clock stamp, heat := { s.heat with startLine := .closed }
        board := t.board, link := t.link } ∧ s.boardKept t ∧ s.linkKept t) ∧
  (∀ (s : State) (stamp : Nat), s.isRunning = true → s.heat.startLine = .closed →
    stamp ≤ Config.masterLimit → s.quietUntil stamp = true →
    ∃ t, exec (.startLineEdge .opened stamp) s = .next t ∧
      t = { s with
        clock := max s.clock stamp, heat := { s.heat with startLine := .opened }
        board := t.board, link := t.link } ∧ s.boardKept t ∧ s.linkKept t) ∧
  (∀ (s : State) (m : Nat) (tag : Byte), s.isRunning = true → s.linkReady → s.quietUntil m = true →
    (s.heat.race ≠ .armed ∨ ∃ g, s.heat.guardEnd = some g ∧ (s.advance m).masterTime < g) →
    ∃ t, exec (.start m tag []) s = .next t ∧
      t = { s with clock := max s.clock m, board := t.board, link := t.link } ∧
      s.boardKept t ∧ s.linkKept t ∧
      t.answers .start tag
        (.refused (if s.heat.race = .armed then .busy else .wrongState)))

/-- An active edge on the RECALL line in RUNNING recalls the heat when the race time of its stamp is
less than the recall window of the profile in force, and so does the RECALL request with its execution
stamp; the HEAT_STATE notice carries the guard end. An edge at or past the recall window, with a
window of 0, or in another race state, only moves the line, and so does the line's opening; a request
is then refused, with TOO_LATE in RUNNING and with WRONG_STATE in every other race state, and changes
nothing. The model's choices: log entries 2, 6, 8. -/
def Obligations.RecallReturnsToArmed : Prop :=
  (∀ (s : State) (h : HeatRecord) (p : Profile) (start stamp : Nat), s.isRunning = true →
    s.heat.race = .running → s.heat.current = some h → s.heat.startMark = some start →
    s.store.inForce = some p → s.heat.recallLine = .opened → stamp ≤ Config.masterLimit →
    s.quietUntil stamp = true →
    0 < p.recallWindow → stamp < start + p.recallWindow * 100 →
    ∃ t, exec (.recallLineEdge .closed stamp) s = .next t ∧ s.RecalledFrom h stamp t ∧
      t.clock = max s.clock stamp ∧ s.linkKept t ∧
      t.tells ⟨t.masterTime, .heatState .armed .running .recallLine (some (h.event, h.heat))
        s.heat.flags none (some (stamp + 10000))⟩) ∧
  (∀ (s : State) (h : HeatRecord) (p : Profile) (start m : Nat) (tag : Byte), s.isRunning = true →
    s.linkReady → s.quietUntil m = true → s.heat.race = .running → s.heat.current = some h →
    s.heat.startMark = some start → s.store.inForce = some p → 0 < p.recallWindow →
    (s.advance m).masterTime < start + p.recallWindow * 100 →
    ∃ t, exec (.recall m tag []) s = .next t ∧
      s.RecalledFrom h (s.advance m).masterTime t ∧
      t.clock = max s.clock m ∧ s.linkKept t ∧ t.answers .recall tag (.accepted .empty) ∧
      t.tells ⟨t.masterTime, .heatState .armed .running .recallRequest (some (h.event, h.heat))
        s.heat.flags none (some ((s.advance m).masterTime + 10000))⟩) ∧
  (∀ (s : State) (level : Level) (stamp : Nat), s.isRunning = true → s.heat.recallLine ≠ level →
    stamp ≤ Config.masterLimit → s.quietUntil stamp = true →
    (level = .opened ∨ s.heat.race ≠ .running ∨ ∃ p start, s.store.inForce = some p ∧
      s.heat.startMark = some start ∧
      (p.recallWindow = 0 ∨ start + p.recallWindow * 100 ≤ stamp)) →
    ∃ t, exec (.recallLineEdge level stamp) s = .next t ∧
      t = { s with
        clock := max s.clock stamp, heat := { s.heat with recallLine := level }
        board := t.board, link := t.link } ∧ s.boardKept t ∧ s.linkKept t) ∧
  (∀ (s : State) (m : Nat) (tag : Byte), s.isRunning = true → s.linkReady → s.quietUntil m = true →
    (s.heat.race ≠ .running ∨ ∃ p start, s.store.inForce = some p ∧
      s.heat.startMark = some start ∧
      (p.recallWindow = 0 ∨ start + p.recallWindow * 100 ≤ (s.advance m).masterTime)) →
    ∃ t, exec (.recall m tag []) s = .next t ∧
      t = { s with clock := max s.clock m, board := t.board, link := t.link } ∧
      s.boardKept t ∧ s.linkKept t ∧
      t.answers .recall tag
        (.refused (if s.heat.race = .running then .tooLate else .wrongState)))

/-! ### The wall -/

/-- A closing edge on a pad line sets its level and its closing edge; an OPEN pad begins to qualify
when the stamp is at or after the start mark, and is BLOCKED when it is before. An opening edge less
than Q ticks after the leading edge drops the closure and counts a splash, up to 255, and lane
accounting hears nothing; one at least Q ticks after it delivers the touch as PAD_QUALIFY_TIME then
would, and leaves the pad OPEN. An opening edge ends a closure that is HELD or BLOCKED and delivers
nothing; an edge of an UNARMED pad changes its level and its closing edge only. In leveling an opening
edge of the pad in turn, within the wait, begins the drive; its first closing edge within 100 ticks of
the drive start is the answer; no other edge changes the phase. The model's choices: log entries 2, 8,
40. -/
def Obligations.PadEdgesBeginAndEndClosures : Prop :=
  (∀ (s : State) (lane : Lane) (wall : Wall) (stamp start : Nat), s.isRunning = true →
    (s.wall.pads[padIx lane wall]).level = .opened →
    (s.wall.pads[padIx lane wall]).capture = .opened → s.heat.startMark = some start →
    stamp ≤ Config.masterLimit → s.quietUntil stamp = true → s.wall.level = .idle →
    ∃ t, exec (.padEdge lane wall .closed stamp) s = .next t ∧
      t = { s with
        clock := max s.clock stamp
        wall := { s.wall with pads := t.wall.pads }
        board := t.board, link := t.link } ∧
      t.wall.pads[padIx lane wall] =
        ⟨.closed, some stamp, if start ≤ stamp then .qualifying stamp else .blocked,
          (s.wall.pads[padIx lane wall]).splash⟩ ∧
      (∀ pad : PadIx, pad ≠ padIx lane wall → t.wall.pads[pad] = s.wall.pads[pad]) ∧
      s.boardKept t ∧ s.linkKept t) ∧
  (∀ (s : State) (p : Profile) (lane : Lane) (wall : Wall) (lead stamp : Nat), s.isRunning = true →
    s.store.inForce = some p → (s.wall.pads[padIx lane wall]).level = .closed →
    (s.wall.pads[padIx lane wall]).capture = .qualifying lead → stamp < lead + p.qualify →
    stamp ≤ Config.masterLimit → s.quietUntil stamp = true → s.wall.level = .idle →
    ∃ t, exec (.padEdge lane wall .opened stamp) s = .next t ∧
      t = { s with
        clock := max s.clock stamp
        wall := { s.wall with pads := t.wall.pads }
        board := t.board, link := t.link } ∧
      t.wall.pads[padIx lane wall] =
        ⟨.opened, (s.wall.pads[padIx lane wall]).closing, .opened,
          min 255 ((s.wall.pads[padIx lane wall]).splash + 1)⟩ ∧
      (∀ pad : PadIx, pad ≠ padIx lane wall → t.wall.pads[pad] = s.wall.pads[pad]) ∧
      s.boardKept t ∧ s.linkKept t) ∧
  (∀ (s : State) (p : Profile) (lane : Lane) (wall : Wall) (lead stamp : Nat), s.isRunning = true →
    s.store.inForce = some p → (s.wall.pads[padIx lane wall]).level = .closed →
    (s.wall.pads[padIx lane wall]).capture = .qualifying lead → lead + p.qualify ≤ stamp →
    stamp ≤ Config.masterLimit → s.quietUntil stamp = true → s.wall.level = .idle →
    ∃ t u, exec (.padEdge lane wall .opened stamp) s = .next t ∧
      exec (.padQualifyTime lane wall) { s with clock := max s.clock stamp } = .next u ∧
      t = { u with wall := { u.wall with pads := t.wall.pads } } ∧
      t.wall.pads[padIx lane wall] =
        ⟨.opened, (s.wall.pads[padIx lane wall]).closing, .opened,
          (s.wall.pads[padIx lane wall]).splash⟩ ∧
      (∀ pad : PadIx, pad ≠ padIx lane wall → t.wall.pads[pad] = s.wall.pads[pad])) ∧
  (∀ (s : State) (lane : Lane) (wall : Wall) (level : Level) (stamp : Nat), s.isRunning = true →
    (s.wall.pads[padIx lane wall]).level ≠ level → stamp ≤ Config.masterLimit →
    s.quietUntil stamp = true → s.wall.level = .idle →
    ((s.wall.pads[padIx lane wall]).capture = .unarmed ∨
      (level = .opened ∧ ((s.wall.pads[padIx lane wall]).capture = .held ∨
        (s.wall.pads[padIx lane wall]).capture = .blocked))) →
    ∃ t, exec (.padEdge lane wall level stamp) s = .next t ∧
      t = { s with
        clock := max s.clock stamp
        wall := { s.wall with pads := t.wall.pads }
        board := t.board, link := t.link } ∧
      t.wall.pads[padIx lane wall] =
        { s.wall.pads[padIx lane wall] with
          level := level
          closing :=
            if level = .closed then some stamp else (s.wall.pads[padIx lane wall]).closing
          capture :=
            if (s.wall.pads[padIx lane wall]).capture = .unarmed then .unarmed else .opened } ∧
      (∀ pad : PadIx, pad ≠ padIx lane wall → t.wall.pads[pad] = s.wall.pads[pad]) ∧
      s.boardKept t ∧ s.linkKept t) ∧
  (∀ (s : State) (lane : Lane) (wall : Wall) (level : Level) (stamp : Nat) (pad : PadIx)
    (step next : LevelStep) (rest : List PadIx), s.isRunning = true →
    (s.wall.pads[padIx lane wall]).level ≠ level → stamp ≤ Config.masterLimit →
    s.quietUntil stamp = true → s.wall.level = .measuring pad step rest →
    (s.wall.pads[padIx lane wall]).capture = .unarmed →
    next = (if padIx lane wall = pad then levelHears level stamp (max s.clock stamp) step
      else step) →
    ∃ t, exec (.padEdge lane wall level stamp) s = .next t ∧
      t = { s with
        clock := max s.clock stamp
        wall := { s.wall with pads := t.wall.pads, level := .measuring pad next rest }
        board := t.board, link := t.link } ∧
      t.wall.pads[padIx lane wall] =
        { s.wall.pads[padIx lane wall] with
          level := level
          closing :=
            if level = .closed then some stamp else (s.wall.pads[padIx lane wall]).closing } ∧
      (∀ q : PadIx, q ≠ padIx lane wall → t.wall.pads[q] = s.wall.pads[q]) ∧
      s.boardKept t ∧ s.linkKept t)

/-- A closure that has lasted Q ticks qualifies and its pad is HELD. At the expected wall, past the
gate and with no window open, the touch is a turn on a TURN, and opens the finish window on a LEG_END
or FINAL; before the gate it is ignored; an open window collects it as its one pad touch, past its
gate-open time and before its closes-at, or ignores it. At the other wall it is credited to the next
length when it is two inhibits past the gate base: across a TURN, which is MISSED, to a turn or a
finish window; across a LEG_END without a window whose exchange holds its departure, which no scanner
in FAULT lets happen, and which is passed with NO_TIME and its exchange UNJUDGED, to a turn of the
next leg. Otherwise it is ignored, and so is every touch of a lane that is not RACING. Each new record
goes out in a SPLIT notice. A turn or a window of a lane that has counted no departure makes its
reaction NOT_ON_PLATFORM, with a REACTION notice; a turn settles the lane's PENDING exchanges UNJUDGED
by NEXT_TURN; a lane that now expects a LEG_END has an exchange PENDING, or with the scanner in FAULT
UNJUDGED. Each verdict goes out in an EXCHANGE notice as the notify region lets it through. The
model's choices: log entries 2, 8, 12. -/
def Obligations.QualifiedTouchMakesATurn : Prop :=
  (∀ (s : State) (h : HeatRecord) (p : Profile) (lane : Lane) (wall : Wall) (start lead time n : Nat),
    s.TouchDue h p lane wall start lead time → n = (s.lanes[lane]).expected →
    wall = lengthWall h n → lengthKind h n = .turn → (s.lanes[lane]).window = none →
    (s.lanes[lane]).gateBase + h.inhibit * 100 ≤ time →
    legsApart h (s.scanner.state == .fault) (n + 1) (s.lanes[lane]).exchanges →
    ∃ t, exec (.padQualifyTime lane wall) s = .next t ∧
      s.TouchLeaves p lane wall lead
        (expectingLane h (s.scanner.state == .fault) (n + 1) (settledLane (arrivedLane
          { s.lanes[lane] with
            lengths := (s.lanes[lane]).lengths ++ [turnRecord n wall time]
            gateBase := time
            expected := n + 1 }))) t ∧
      t.tells ⟨t.masterTime, .split lane (turnRecord n wall time) (s.lanes[lane]).leg⟩ ∧
      s.tellsAbsence lane t ∧ s.tellsSettled h lane .nextTurn t ∧ s.tellsFaulty h lane (n + 1) t) ∧
  (∀ (s : State) (h : HeatRecord) (p : Profile) (lane : Lane) (wall : Wall) (start lead time n : Nat),
    s.TouchDue h p lane wall start lead time → n = (s.lanes[lane]).expected →
    wall ≠ lengthWall h n → n < h.lengths → lengthKind h n = .turn → lengthKind h (n + 1) = .turn →
    (s.lanes[lane]).gateBase + 2 * (h.inhibit * 100) ≤ time →
    legsApart h (s.scanner.state == .fault) (n + 2) (s.lanes[lane]).exchanges →
    ∃ t, exec (.padQualifyTime lane wall) s = .next t ∧
      s.TouchLeaves p lane wall lead
        (expectingLane h (s.scanner.state == .fault) (n + 2) (settledLane (arrivedLane
          { s.lanes[lane] with
            lengths := (s.lanes[lane]).lengths ++
              [passedRecord n (lengthWall h n) .turn .missed, turnRecord (n + 1) wall time]
            gateBase := time
            expected := n + 2 }))) t ∧
      t.tells ⟨t.masterTime, .split lane (passedRecord n (lengthWall h n) .turn .missed)
        (s.lanes[lane]).leg⟩ ∧
      t.tells ⟨t.masterTime, .split lane (turnRecord (n + 1) wall time) (s.lanes[lane]).leg⟩ ∧
      s.tellsAbsence lane t ∧ s.tellsSettled h lane .nextTurn t ∧ s.tellsFaulty h lane (n + 2) t) ∧
  (∀ (s : State) (h : HeatRecord) (p : Profile) (lane : Lane) (wall : Wall) (start lead time n : Nat),
    s.TouchDue h p lane wall start lead time → n = (s.lanes[lane]).expected →
    wall ≠ lengthWall h n → n < h.lengths → lengthKind h n = .turn → lengthKind h (n + 1) ≠ .turn →
    (s.lanes[lane]).gateBase + 2 * (h.inhibit * 100) ≤ time →
    (lengthKind h (n + 1) = .legEnd → s.scanner.state = .fault →
      ∀ e ∈ (s.lanes[lane]).exchanges, e.leg ≠ lengthLeg h (n + 1)) →
    ∃ t, exec (.padQualifyTime lane wall) s = .next t ∧
      s.TouchLeaves p lane wall lead
        (expectingLane h (s.scanner.state == .fault) (n + 1) (arrivedLane
          { s.lanes[lane] with
            lengths := (s.lanes[lane]).lengths ++ [passedRecord n (lengthWall h n) .turn .missed]
            gateBase := (s.lanes[lane]).gateBase + h.inhibit * 100
            expected := n + 1
            window := some
              { openedBy := time
                closesAt := time + h.buttonWindow * 100
                gateOpen := (s.lanes[lane]).gateBase + 2 * (h.inhibit * 100)
                pad := some ⟨time, lead - start, p.latencies[padIx lane wall]⟩
                buttons := [] } })) t ∧
      t.tells ⟨t.masterTime, .split lane (passedRecord n (lengthWall h n) .turn .missed)
        (s.lanes[lane]).leg⟩ ∧
      s.tellsAbsence lane t ∧ s.tellsFaulty h lane (n + 1) t) ∧
  (∀ (s : State) (h : HeatRecord) (p : Profile) (lane : Lane) (wall : Wall) (start lead time n : Nat)
    (before : List ExchangeRecord) (e unjudged : ExchangeRecord),
    s.TouchDue h p lane wall start lead time → n = (s.lanes[lane]).expected →
    wall ≠ lengthWall h n → n < h.lengths → lengthKind h n = .legEnd →
    (s.lanes[lane]).gateBase + 2 * (h.inhibit * 100) ≤ time → (s.lanes[lane]).window = none →
    (s.lanes[lane]).exchanges = before ++ [e] →
    (∀ x ∈ before, x.leg ≠ e.leg ∧ x.verdict ≠ .pending) → e.leg = lengthLeg h n →
    e.departure.isSome = true → e.verdict = .pending → (s.lanes[lane]).departures ≠ 0 →
    (lengthKind h (n + 2) = .legEnd → s.scanner.state ≠ .fault) →
    unjudged = { e with legEnd := .none, incoming := none, verdict := .unjudged } →
    ∃ t, exec (.padQualifyTime lane wall) s = .next t ∧
      s.TouchLeaves p lane wall lead
        (expectingLane h false (n + 2)
          { s.lanes[lane] with
            lengths := (s.lanes[lane]).lengths ++
              [passedRecord n (lengthWall h n) .legEnd .noTime, turnRecord (n + 1) wall time]
            reasons := { (s.lanes[lane]).reasons with noTime := true, unjudgedExchange := true }
            gateBase := time
            leg := (s.lanes[lane]).leg + 1
            expected := n + 2
            departures :=
              if (s.lanes[lane]).departures = e.leg then e.leg + 1 else (s.lanes[lane]).departures
            exchanges := before ++ [unjudged] }) t ∧
      t.tells ⟨t.masterTime, .split lane (passedRecord n (lengthWall h n) .legEnd .noTime)
        ((s.lanes[lane]).leg + 1)⟩ ∧
      (h.notify ≠ .nothing →
        t.tells ⟨t.masterTime, .exchange lane unjudged .legEndMissed (t.lanes[lane]).reasons⟩) ∧
      t.tells ⟨t.masterTime,
      .split lane (turnRecord (n + 1) wall time) ((s.lanes[lane]).leg + 1)⟩) ∧
  (∀ (s : State) (h : HeatRecord) (p : Profile) (lane : Lane) (wall : Wall) (start lead time n : Nat),
    s.TouchDue h p lane wall start lead time → n = (s.lanes[lane]).expected →
    wall ≠ lengthWall h n →
    (h.lengths ≤ n ∨ time < (s.lanes[lane]).gateBase + 2 * (h.inhibit * 100) ∨
      (lengthKind h n = .legEnd ∧ ((s.lanes[lane]).window ≠ none ∨
        ∀ e ∈ (s.lanes[lane]).exchanges, e.leg = lengthLeg h n → e.departure = none))) →
    ∃ t, exec (.padQualifyTime lane wall) s = .next t ∧
      s.TouchLeaves p lane wall lead s.lanes[lane] t) ∧
  (∀ (s : State) (h : HeatRecord) (p : Profile) (lane : Lane) (wall : Wall) (start lead time n : Nat),
    s.TouchDue h p lane wall start lead time → n = (s.lanes[lane]).expected →
    wall = lengthWall h n → (s.lanes[lane]).window = none →
    (lengthKind h n ≠ .turn ∨ time < (s.lanes[lane]).gateBase + h.inhibit * 100) →
    ∃ t, exec (.padQualifyTime lane wall) s = .next t ∧
      s.TouchLeaves p lane wall lead
        (if time < (s.lanes[lane]).gateBase + h.inhibit * 100 then s.lanes[lane]
          else arrivedLane
            { s.lanes[lane] with
              window := some
                { openedBy := time
                  closesAt := time + h.buttonWindow * 100
                  gateOpen := (s.lanes[lane]).gateBase + h.inhibit * 100
                  pad := some ⟨time, lead - start, p.latencies[padIx lane wall]⟩
                  buttons := [] } }) t ∧
      ((s.lanes[lane]).gateBase + h.inhibit * 100 ≤ time → s.tellsAbsence lane t)) ∧
  (∀ (s : State) (h : HeatRecord) (p : Profile) (lane : Lane) (wall : Wall) (start lead time n : Nat)
    (w : FinishWindow), s.TouchDue h p lane wall start lead time → n = (s.lanes[lane]).expected →
    wall = lengthWall h n → (s.lanes[lane]).window = some w →
    ∃ t, exec (.padQualifyTime lane wall) s = .next t ∧
      s.TouchLeaves p lane wall lead
        { s.lanes[lane] with
          window := some
            (if w.pad = none ∧ w.gateOpen ≤ time ∧ time < w.closesAt then
              { w with pad := some ⟨time, lead - start, p.latencies[padIx lane wall]⟩ }
            else w) } t) ∧
  (∀ (s : State) (p : Profile) (lane : Lane) (wall : Wall) (lead : Nat), s.isRunning = true →
    s.heat.startMark.isSome = true → s.store.inForce = some p →
    (s.wall.pads[padIx lane wall]).capture = .qualifying lead →
    s.quietUntil (lead + p.qualify) = true → (s.lanes[lane]).status ≠ .racing →
    ∃ t, exec (.padQualifyTime lane wall) s = .next t ∧
      s.TouchLeaves p lane wall lead s.lanes[lane] t ∧ s.keepsSilent t)


/-- A closing edge on a button is a press when the pads are armed, its stamp is at or after the start
mark and no lockout is in force; it sets a lockout of 200 ticks. In a RACING lane whose expected
length is no TURN, past the gate and with no window open, it opens the finish window at its own race
time, as its first entry; of a lane that has counted no departure the reaction is then
NOT_ON_PLATFORM, with a REACTION notice. An open window collects it, past its gate-open time and
before its closes-at, unless it holds a press of that button already; otherwise it is ignored. A press
of a lane that is not RACING sets the lockout and is ignored. An edge that is no press only moves the
level. The model's choices: log entries 2, 8, 32. -/
def Obligations.PressOpensTheWindow : Prop :=
  (∀ (s : State) (h : HeatRecord) (lane : Lane) (button : Button) (start stamp : Nat),
    s.PressDue h lane button start stamp → (s.lanes[lane]).window = none →
    lengthKind h (s.lanes[lane]).expected ≠ .turn →
    (s.lanes[lane]).gateBase + h.inhibit * 100 ≤ stamp - start →
    ∃ t, exec (.buttonEdge lane button .closed stamp) s = .next t ∧
      s.PressLeaves lane button stamp
        (arrivedLane
          { s.lanes[lane] with
            window := some
              { openedBy := stamp - start
                closesAt := stamp - start + h.buttonWindow * 100
                gateOpen := (s.lanes[lane]).gateBase + h.inhibit * 100
                pad := none
                buttons := [(button, stamp - start)] } }) t ∧
      s.tellsAbsence lane t) ∧
  (∀ (s : State) (h : HeatRecord) (lane : Lane) (button : Button) (start stamp : Nat)
    (w : FinishWindow), s.PressDue h lane button start stamp → (s.lanes[lane]).window = some w →
    ∃ t, exec (.buttonEdge lane button .closed stamp) s = .next t ∧
      s.PressLeaves lane button stamp
        { s.lanes[lane] with
          window := some
            (if (∀ e ∈ w.buttons, e.1 ≠ button) ∧ w.gateOpen ≤ stamp - start ∧
                stamp - start < w.closesAt then
              { w with buttons := w.buttons ++ [(button, stamp - start)] }
            else w) } t) ∧
  (∀ (s : State) (h : HeatRecord) (lane : Lane) (button : Button) (start stamp : Nat),
    s.PressDue h lane button start stamp → (s.lanes[lane]).window = none →
    (lengthKind h (s.lanes[lane]).expected = .turn ∨
      stamp - start < (s.lanes[lane]).gateBase + h.inhibit * 100) →
    ∃ t, exec (.buttonEdge lane button .closed stamp) s = .next t ∧
      s.PressLeaves lane button stamp s.lanes[lane] t) ∧
  (∀ (s : State) (lane : Lane) (button : Button) (level : Level) (stamp : Nat), s.isRunning = true →
    (s.wall.buttons[buttonIx lane button]).level ≠ level → stamp ≤ Config.masterLimit →
    s.quietUntil stamp = true →
    (level = .opened ∨ s.wall.armed = false ∨ stamp < s.heat.startMark.getD 0 ∨
      ((s.wall.buttons[buttonIx lane button]).lockout.any fun e => decide (stamp < e)) = true) →
    ∃ t, exec (.buttonEdge lane button level stamp) s = .next t ∧
      t = { s with
        clock := max s.clock stamp
        wall := { s.wall with buttons := t.wall.buttons }
        board := t.board, link := t.link } ∧
      t.wall.buttons[buttonIx lane button] =
        ⟨level, (s.wall.buttons[buttonIx lane button]).lockout⟩ ∧
      (∀ ix : ButtonIx, ix ≠ buttonIx lane button → t.wall.buttons[ix] = s.wall.buttons[ix]) ∧
      s.boardKept t ∧ s.linkKept t) ∧
  (∀ (s : State) (lane : Lane) (button : Button) (start stamp : Nat), s.isRunning = true →
    s.heat.startMark = some start → (s.wall.buttons[buttonIx lane button]).level = .opened →
    s.wall.armed = true → start ≤ stamp → stamp ≤ Config.masterLimit → s.quietUntil stamp = true →
    ((s.wall.buttons[buttonIx lane button]).lockout.all fun e => decide (e ≤ stamp)) = true →
    (s.lanes[lane]).status ≠ .racing →
    ∃ t, exec (.buttonEdge lane button .closed stamp) s = .next t ∧
      s.PressLeaves lane button stamp s.lanes[lane] t ∧ s.keepsSilent t)


/-- In leveling, the end of a wait gives BUSY_PAD and the end of a drive the answer's latency or DEAD;
the result joins the list and the next pad's turn begins, DRIVING when its line is open and WAITING
when it is closed. Behind the last pad the store write begins: WRITING, the stored content gone until
it completes, 400 ticks on, and the profile in force with the results taken over. The model's choices:
log entries 2, 8, 12. -/
def Obligations.LevelingTakesTheNextPad : Prop :=
  (∀ (s : State) (pad next : PadIx) (rest : List PadIx) (began : Nat), s.isRunning = true →
    s.wall.level = .measuring pad (.waiting began) (next :: rest) →
    s.quietUntil (began + 5000) = true →
    ∃ t, exec .levelWaitExpiry s = .next t ∧
      t = { s with
        clock := max s.clock (began + 5000)
        wall :=
          { s.wall with
            results := s.wall.results ++ [(pad, .busyPad)]
            level := .measuring next
              (match (s.wall.pads[next]).level with
                | .opened => .driving t.clock none
                | .closed => .waiting t.clock) rest }
        board := t.board, link := t.link } ∧ s.boardKept t ∧ s.linkKept t) ∧
  (∀ (s : State) (pad next : PadIx) (rest : List PadIx) (start : Nat) (answer : Option Nat),
    s.isRunning = true → s.wall.level = .measuring pad (.driving start answer) (next :: rest) →
    s.quietUntil (start + 101) = true →
    ∃ t, exec .levelDriveEnd s = .next t ∧
      t = { s with
        clock := max s.clock (start + 101)
        wall :=
          { s.wall with
            results := s.wall.results ++
              [(pad, match answer with | some v => .latency v | none => .dead)]
            level := .measuring next
              (match (s.wall.pads[next]).level with
                | .opened => .driving t.clock none
                | .closed => .waiting t.clock) rest }
        board := t.board, link := t.link } ∧ s.boardKept t ∧ s.linkKept t) ∧
  (∀ (s : State) (p : Profile) (pad : PadIx) (began : Nat), s.isRunning = true →
    s.store.inForce = some p → s.wall.level = .measuring pad (.waiting began) [] →
    s.quietUntil (began + 5000) = true →
    ∃ t, exec .levelWaitExpiry s = .next t ∧
      t = { s with
        clock := max s.clock (began + 5000)
        wall :=
          { s.wall with results := s.wall.results ++ [(pad, .busyPad)], level := .writing }
        store := { s.store with stored := none, write := t.store.write }
        board := t.board, link := t.link } ∧
      ((t.wall.results.map (·.1)).Nodup → t.WritesLeveled p t.wall.results) ∧
      s.boardKept t ∧ s.linkKept t) ∧
  (∀ (s : State) (p : Profile) (pad : PadIx) (start : Nat) (answer : Option Nat),
    s.isRunning = true → s.store.inForce = some p →
    s.wall.level = .measuring pad (.driving start answer) [] → s.quietUntil (start + 101) = true →
    ∃ t, exec .levelDriveEnd s = .next t ∧
      t = { s with
        clock := max s.clock (start + 101)
        wall :=
          { s.wall with
            results := s.wall.results ++
              [(pad, match answer with | some v => .latency v | none => .dead)]
            level := .writing }
        store := { s.store with stored := none, write := t.store.write }
        board := t.board, link := t.link } ∧
      ((t.wall.results.map (·.1)).Nodup → t.WritesLeveled p t.wall.results) ∧
      s.boardKept t ∧ s.linkKept t)

/-! ### Lanes and official times -/

/-- The walls of a heat (R22): the start wall is A for an even N and B for an odd one, length 1 begins
at the start wall and every length ends at the wall opposite the one it began at, so length n ends at
A when n and N are both even or both odd, and length N ends at A; with N = 1 the one length is FINAL
and begins at B. At ARM the scanner is powered with start wall A and left as it is with start wall B.
-/
def Obligations.EveryFinishIsAtWallA : Prop :=
  ∀ h : HeatRecord,
    (startWall h = .a ↔ h.lengths % 2 = 0) ∧ lengthWall h h.lengths = .a ∧
      (∀ n, lengthWall h n = .a ↔ (n % 2 = 0 ↔ h.lengths % 2 = 0)) ∧
      (∀ n, 1 ≤ n → (lengthWall h n = .a ↔ lengthWall h (n + 1) = .b)) ∧
      (startWall h = .a ↔ lengthWall h 1 = .b) ∧
      (h.lengths = 1 → startWall h = .b ∧ lengthWall h 1 = .a ∧ lengthKind h 1 = .final) ∧
      ∀ s : State, (s.armHeat h).scanner =
        if startWall h = .a then
          { s.scanner with state := .settling, settlingEnd := some (s.clock + 200) }
        else s.scanner

/-- In a relay of an accepted length, every leg end is an even length at wall A, and the length after
it is a TURN at wall B. -/
def Obligations.LegEndsAreAtWallA : Prop :=
  ∀ (h : HeatRecord) (n : Nat), h.relay = true → h.lengths ∈ relayLengths → 1 ≤ n → n ≤ h.lengths →
    lengthKind h n = .legEnd →
    n % 2 = 0 ∧ lengthWall h n = .a ∧ lengthKind h (n + 1) = .turn ∧ lengthWall h (n + 1) = .b ∧
      lengthLeg h (n + 1) = lengthLeg h n + 1

/-- The backup time (R100): of three presses the middle one in size, whatever their order, of two
their sum halved and rounded down, of one that one, of none absent; it lies in the range the presses
lie in. The record of a closed window keeps it whichever time is official, and the notice of the
close, SPLIT or FINISH, carries that record. -/
def Obligations.BackupTimeIsTheMedian : Prop :=
  (backupTime [] = none ∧ (∀ a, backupTime [a] = some a) ∧
    (∀ a b, backupTime [a, b] = some ((a + b) / 2)) ∧
    (∀ a b c lo mid hi : Nat, lo ≤ mid → mid ≤ hi → [a, b, c].Perm [lo, mid, hi] →
      backupTime [a, b, c] = some mid) ∧
    (∀ (presses : List Nat) (b most : Nat), backupTime presses = some b →
      (∀ t ∈ presses, t ≤ most) → b ≤ most)) ∧
  (∀ (h : HeatRecord) (n : Nat) (w : FinishWindow) (d : Derived),
    (closedRecord h n w d).backup = backupTime (w.buttons.map (·.2))) ∧
  (∀ (s : State) (h : HeatRecord) (lane : Lane) (w : FinishWindow),
    ∃ n ∈ (s.closeLegEnd h lane w).link.notices, ∃ leg,
      n.body = .split lane
        (closedRecord h (s.lanes[lane]).expected w (s.deriveWindow h lane w)) leg) ∧
  (∀ (s : State) (h : HeatRecord) (lane : Lane) (w : FinishWindow) (cause : CloseCause),
    (s.deriveWindow h lane w).official ≠ none →
    ∃ n ∈ (s.closeFinal h lane w cause).link.notices, ∃ label leg reasons,
      n.body = .finish lane label
        (closedRecord h (s.lanes[lane]).expected w (s.deriveWindow h lane w)) leg reasons cause)

/-- The derivation (R101, R102): from a window's pad time, its backup time, D of the heat in ticks and
the wall-A pad's dead mark it takes the table's first row that holds. A difference of exactly D
passes, and the dead mark is read only where the pad time is absent and the backup time present. The
record's outcome is TIMED with an official time and NO_TIME without, which no window reaches: each
holds its opening evidence, and collecting only adds to it. -/
def Obligations.DerivationFollowsTheTable : Prop :=
  (∀ (limit : Nat) (dead : Bool),
    (∀ p, derive (some p) none limit dead =
      ⟨some p, .pad, ⟨false, false, false⟩, ⟨false, false, false, false, false, false⟩⟩) ∧
    (∀ p b, (p - b) + (b - p) ≤ limit → derive (some p) (some b) limit dead =
      ⟨some p, .pad, ⟨false, false, false⟩, ⟨false, false, false, false, false, false⟩⟩) ∧
    (∀ p b, limit < (p - b) + (b - p) → derive (some p) (some b) limit dead =
      ⟨some b, .backup, ⟨false, true, false⟩, ⟨false, true, false, false, false, false⟩⟩) ∧
    (∀ b, derive none (some b) limit false =
      ⟨some b, .backup, ⟨true, false, false⟩, ⟨true, false, false, false, false, false⟩⟩) ∧
    (∀ b, derive none (some b) limit true =
      ⟨some b, .backup, ⟨true, false, true⟩, ⟨false, false, false, false, false, false⟩⟩) ∧
    derive none none limit dead =
      ⟨none, .none, ⟨false, false, false⟩, ⟨false, false, true, false, false, false⟩⟩) ∧
  (∀ (h : HeatRecord) (n : Nat) (w : FinishWindow) (d : Derived),
    (closedRecord h n w d).outcome = if d.official = none then .noTime else .timed) ∧
  (∀ (s : State) (h : HeatRecord) (lane : Lane) (w : FinishWindow),
    (∀ p, s.store.inForce = some p →
      s.deriveWindow h lane w =
        derive (w.pad.map (·.time)) (backupTime (w.buttons.map (·.2))) (h.discrepancy * 100)
          p.dead[padIx lane .a]) ∧
      ((w.pad ≠ none ∨ w.buttons ≠ []) → (s.deriveWindow h lane w).official ≠ none)) ∧
  (∀ (h : HeatRecord) (r : LaneRecord) (e : Evidence),
    (newWindow h r e).pad ≠ none ∨ (newWindow h r e).buttons ≠ []) ∧
  (∀ (w : FinishWindow) (touch : PadTouch) (button : Button) (time : Nat),
    (w.pad ≠ none ∨ w.buttons ≠ []) →
    ((collectPad w touch).pad ≠ none ∨ (collectPad w touch).buttons ≠ []) ∧
      ((collectPress w button time).pad ≠ none ∨ (collectPress w button time).buttons ≠ []))

/-- The close of a FINAL window at its closes-at: the lane is FINISHED with the derived time and
source, its record added and its window gone; it enters the place order, every place is recomputed,
and the FINISH notice carries the record and the reasons the lane then holds. Behind it the PLACES
notice carries every lane whose place has changed. With another lane still RACING the first finish
starts the hold of 50,000 ticks, and the heat goes on. With none left the heat ends, with cause
ALL_LANES_DONE: the lane's PENDING exchanges are settled UNJUDGED by HEAT_END, with their EXCHANGE
notices, the HEAT_STATE notice stands behind all of these, and no hold stays in force. A HOLDOVER with
a full count then returns to LOCKED, its TIMEBASE notice last. The model's choices: log entries 2, 8,
12. -/
def Obligations.FinalWindowFinishesTheLane : Prop :=
  (∀ (s : State) (h : HeatRecord) (lane other : Lane) (w : FinishWindow) (start official : Nat),
    s.isRunning = true → s.heat.race = .running → s.heat.current = some h →
    s.heat.startMark = some start → (s.lanes[lane]).window = some w →
    (s.lanes[lane]).expected = h.lengths → s.quietUntil (start + w.closesAt) = true →
    (s.deriveWindow h lane w).official = some official →
    other ≠ lane → h.enters other = true → (s.lanes[other]).status = .racing →
    ∃ t, exec (.finishWindowClose lane) s = .next t ∧
      t = { s with
        clock := max s.clock (start + w.closesAt)
        lanes := t.lanes
        placing :=
          { s.placing with
            order := insertOrder (lane, official / 100) (removeOrder lane s.placing.order) }
        board := t.board, link := t.link } ∧
      (∀ l : Lane, t.lanes[l] =
        { (if l = lane then s.finishedLane h lane w official else s.lanes[l]) with
          place := placeIn t.placing.order l }) ∧
      t.board.hold =
        (if s.board.hold = .none then .holding (t.clock + 50000) else s.board.hold) ∧
      t.board.mode = s.board.mode ∧ t.board.test = s.board.test ∧
      t.board.override = s.board.override ∧ t.board.frozen = s.board.frozen ∧ s.linkKept t ∧
      t.tells ⟨t.masterTime, .finish lane (s.lanes[lane]).label
        (closedRecord h h.lengths w (s.deriveWindow h lane w)) (if h.relay then 4 else 1)
        (t.lanes[lane]).reasons .window⟩ ∧
      ((s.lanes[lane]).place = none →
        [⟨t.masterTime, .finish lane (s.lanes[lane]).label
            (closedRecord h h.lengths w (s.deriveWindow h lane w)) (if h.relay then 4 else 1)
            (t.lanes[lane]).reasons .window⟩,
          s.placesTold (.finish lane) t] <:+ t.told)) ∧
  (∀ (s : State) (h : HeatRecord) (lane : Lane) (w : FinishWindow) (start official : Nat),
    s.isRunning = true → s.heat.race = .running → s.heat.current = some h →
    s.heat.startMark = some start → h.enters lane = true → (s.lanes[lane]).window = some w →
    (s.lanes[lane]).expected = h.lengths → s.quietUntil (start + w.closesAt) = true →
    (s.deriveWindow h lane w).official = some official →
    ((s.lanes[lane]).exchanges.map (·.leg)).Nodup → (s.lanes[lane]).exchanges.length ≤ 3 →
    (∀ l : Lane, l ≠ lane → s.laneDone l) →
    ∃ t, exec (.finishWindowClose lane) s = .next t ∧
      t.clock = max s.clock (start + w.closesAt) ∧ s.EndedFrom h t ∧
      t.placing =
        { s.placing with
          order := insertOrder (lane, official / 100) (removeOrder lane s.placing.order) } ∧
      t.lanes[lane] =
        { settledLane (s.finishedLane h lane w official) with
          place := placeIn t.placing.order lane } ∧
      s.tellsSettled h lane .heatEnd t ∧
      (∀ l : Lane, l ≠ lane →
        t.lanes[l] = { s.lanes[l] with place := placeIn t.placing.order l }) ∧
      t.heat.flags = s.heat.flags ∧ t.board.hold = .spent ∧ s.HoldoverReturns t ∧ s.linkKept t ∧
      t.tells ⟨t.masterTime, .finish lane (s.lanes[lane]).label
        (closedRecord h h.lengths w (s.deriveWindow h lane w)) (if h.relay then 4 else 1)
        (t.lanes[lane]).reasons .window⟩ ∧
      t.tells ⟨t.masterTime, .heatState .judging .running .allLanesDone (some (h.event, h.heat))
        s.heat.flags none none⟩ ∧
      ((s.lanes[lane]).place = none →
        [⟨t.masterTime, .finish lane (s.lanes[lane]).label
            (closedRecord h h.lengths w (s.deriveWindow h lane w)) (if h.relay then 4 else 1)
            (t.lanes[lane]).reasons .window⟩,
          s.placesTold (.finish lane) t].Sublist t.told) ∧
      s.tellsInSteps t)

/-- The close of a LEG_END window, of any leg: the record, the gate base, the next leg and length, and
a SPLIT notice. With the takeover's departure held the exchange is judged: with source PAD on the
margin, departure less incoming touch, EARLY below LO, which is also a review reason, LATE above HI,
CLEAN otherwise; with source BACKUP it is UNJUDGED, a review reason too. Without a departure it stays
PENDING with how its leg end closed. A departure of the takeover that comes later is stored and
counted, and judges the exchange in the same way; one that comes before the leg end closes is stored
and counted only. An EXCHANGE notice carries the verdict as the notify region lets it through. The
model's choices: log entries 2, 8, 12, 21. -/
def Obligations.LegEndCloseJudgesTheExchange : Prop :=
  (∀ (s : State) (h : HeatRecord) (lane : Lane) (w : FinishWindow) (touch : PadTouch)
    (before : List ExchangeRecord) (e judged : ExchangeRecord) (d : Int) (start : Nat),
    s.LegEndDue h lane w before e start → w.pad = some touch →
    (s.deriveWindow h lane w).source = .pad → e.departure = some d →
    judged =
      { e with
        legEnd := .pad, incoming := some touch.time, margin := some (d - touch.time)
        verdict := verdictOf h (d - touch.time) } →
    ∃ t, exec (.finishWindowClose lane) s = .next t ∧
      s.LegEndLeaves lane (start + w.closesAt)
        { s.legEndLane h lane w touch.time with
          reasons :=
            { (s.lanes[lane]).reasons with
              earlyExchange :=
                (s.lanes[lane]).reasons.earlyExchange || decide (d - touch.time < h.lo * 100) }
          exchanges := before ++ [judged] } t ∧
      t.tells ⟨t.masterTime, .split lane
        (closedRecord h (s.lanes[lane]).expected w (s.deriveWindow h lane w))
        ((s.lanes[lane]).leg + 1)⟩ ∧
      (reportsVerdict h.notify judged.verdict = true →
        t.tells ⟨t.masterTime, .exchange lane judged .evaluated (t.lanes[lane]).reasons⟩)) ∧
  (∀ (s : State) (h : HeatRecord) (lane : Lane) (w : FinishWindow)
    (before : List ExchangeRecord) (e judged : ExchangeRecord) (start official : Nat),
    s.LegEndDue h lane w before e start → (s.deriveWindow h lane w).source = .backup →
    (s.deriveWindow h lane w).official = some official → e.departure.isSome = true →
    judged = { e with legEnd := .backup, incoming := none, verdict := .unjudged } →
    ∃ t, exec (.finishWindowClose lane) s = .next t ∧
      s.LegEndLeaves lane (start + w.closesAt)
        { s.legEndLane h lane w official with
          reasons :=
            { (s.legEndLane h lane w official).reasons with unjudgedExchange := true }
          departures :=
            if (s.lanes[lane]).departures = e.leg then e.leg + 1 else (s.lanes[lane]).departures
          exchanges := before ++ [judged] } t ∧
      t.tells ⟨t.masterTime, .split lane
        (closedRecord h (s.lanes[lane]).expected w (s.deriveWindow h lane w))
        ((s.lanes[lane]).leg + 1)⟩ ∧
      (h.notify ≠ .nothing →
        t.tells ⟨t.masterTime, .exchange lane judged .evaluated (t.lanes[lane]).reasons⟩)) ∧
  (∀ (s : State) (h : HeatRecord) (lane : Lane) (w : FinishWindow)
    (before : List ExchangeRecord) (e : ExchangeRecord) (start official : Nat),
    s.LegEndDue h lane w before e start → (s.deriveWindow h lane w).official = some official →
    e.departure = none →
    ∃ t, exec (.finishWindowClose lane) s = .next t ∧
      s.LegEndLeaves lane (start + w.closesAt)
        { s.legEndLane h lane w official with
          exchanges := before ++
            [if (s.deriveWindow h lane w).source = .pad then
              { e with legEnd := .pad, incoming := w.pad.map (·.time) }
            else { e with legEnd := .backup, incoming := none }] } t ∧
      t.tells ⟨t.masterTime, .split lane
        (closedRecord h (s.lanes[lane]).expected w (s.deriveWindow h lane w))
        ((s.lanes[lane]).leg + 1)⟩) ∧
  (∀ (s : State) (h : HeatRecord) (p : Profile) (lane : Lane) (reading : Reading)
    (m first k start time : Nat) (before : List ExchangeRecord) (e judged : ExchangeRecord)
    (d : Int), s.DepartureDue h p lane reading m first k start → s.TakeoverDue h lane before e →
    (s.lanes[lane]).leg = e.leg + 1 → e.legEnd ≠ .opened →
    time = first + lane.val / 2 + 5 * k → d = (time : Int) - p.platformLatency - start →
    judged = takenOver h e d →
    ∃ t, exec (.channelSample lane reading m) s = .next t ∧
      s.DepartureLeaves lane reading time
        { s.lanes[lane] with
          departures := e.leg + 1
          reasons :=
            { (s.lanes[lane]).reasons with
              earlyExchange :=
                (s.lanes[lane]).reasons.earlyExchange || judged.verdict == .early
              unjudgedExchange :=
                (s.lanes[lane]).reasons.unjudgedExchange || judged.verdict == .unjudged }
          exchanges := before ++ [judged] } t ∧
      (reportsVerdict h.notify judged.verdict = true →
        t.tells ⟨t.masterTime, .exchange lane judged .evaluated (t.lanes[lane]).reasons⟩)) ∧
  (∀ (s : State) (h : HeatRecord) (p : Profile) (lane : Lane) (reading : Reading)
    (m first k start time : Nat) (before : List ExchangeRecord) (e : ExchangeRecord) (d : Int),
    s.DepartureDue h p lane reading m first k start → s.TakeoverDue h lane before e →
    lengthKind h (s.lanes[lane]).expected = .legEnd →
    lengthLeg h (s.lanes[lane]).expected = e.leg → e.legEnd = .opened →
    time = first + lane.val / 2 + 5 * k → d = (time : Int) - p.platformLatency - start →
    ∃ t, exec (.channelSample lane reading m) s = .next t ∧
      s.DepartureLeaves lane reading time
        { s.lanes[lane] with
          departures := e.leg + 1
          exchanges := before ++ [{ e with departure := some d }] } t)

/-! ### The platform scanner -/

/-- The end of the settling in a heat: with Z at most 16 and F at least 1007 the scanner is SCANNING
from the next tick, with a SCANNER notice READY; otherwise it is in FAULT, with a SCANNER notice
TEST_FAILED and the heat's SCANNER_FAULT flag. In ARMED no lane changes; in RUNNING every entered lane
whose reaction is SENSOR_NOT_READY has SENSOR_FAULT instead, and one REACTION notice lists them. In a
probe the test is recorded, and whatever its outcome the sweep follows from the next tick, with no
notice, no flag and no fault. The model's choices: log entries 2, 12. -/
def Obligations.SelfTestPassesOrFails : Prop :=
  (∀ (s : State) (h : HeatRecord) (zero full : Reading) (e : Nat), s.isRunning = true →
    s.heat.current = some h → s.scanner.state = .settling → s.scanner.settlingEnd = some e →
    s.scanner.probe = none → s.quietUntil e = true → zero.val ≤ 16 → 1007 ≤ full.val →
    ∃ t, exec (.scannerSettlingEnd zero full) s = .next t ∧
      t = { s with
        clock := max s.clock e
        scanner :=
          { s.scanner with
            state := .scanning, settlingEnd := none, lastTest := some ⟨zero, full, true⟩
            sweepStart := some (t.clock + 1) }
        board := t.board, link := t.link } ∧
      t.tells ⟨t.masterTime, .scanner true zero full h.event h.heat⟩ ∧
      s.boardKept t ∧ s.linkKept t) ∧
  (∀ (s : State) (h : HeatRecord) (zero full : Reading) (e : Nat) (late : List Lane),
    s.isRunning = true → s.heat.current = some h → s.scanner.state = .settling →
    s.scanner.settlingEnd = some e → s.scanner.probe = none → s.quietUntil e = true →
    (16 < zero.val ∨ full.val < 1007) →
    late = (allLanes.filter fun lane => s.heat.race == .running && h.enters lane &&
      (s.lanes[lane]).reaction == .absent .sensorNotReady) →
    ∃ t, exec (.scannerSettlingEnd zero full) s = .next t ∧
      t = { s with
        clock := max s.clock e
        heat := { s.heat with flags := { s.heat.flags with scannerFault := true } }
        lanes := t.lanes
        scanner :=
          { s.scanner with
            state := .fault, settlingEnd := none, lastTest := some ⟨zero, full, false⟩ }
        board := t.board, link := t.link } ∧
      (∀ lane : Lane, t.lanes[lane] =
        if lane ∈ late then { s.lanes[lane] with reaction := .absent .sensorFault }
        else s.lanes[lane]) ∧
      t.tells ⟨t.masterTime, .scanner false zero full h.event h.heat⟩ ∧
      (late ≠ [] → t.tells ⟨t.masterTime, .reaction (late.map fun lane =>
        ⟨lane, .absent .sensorFault, (s.scanner.channels[lane]).startLoad,
          (s.lanes[lane]).reasons⟩)⟩) ∧
      s.boardKept t ∧ s.linkKept t) ∧
  (∀ (s : State) (zero full : Reading) (e : Nat) (tag : Byte), s.isRunning = true →
    s.scanner.state = .settling → s.scanner.settlingEnd = some e → s.scanner.probe = some tag →
    s.quietUntil e = true →
    ∃ t, exec (.scannerSettlingEnd zero full) s = .next t ∧
      t = { s with
        clock := max s.clock e
        scanner :=
          { s.scanner with
            state := .scanning, settlingEnd := none
            lastTest := some ⟨zero, full, decide (zero.val ≤ 16 ∧ 1007 ≤ full.val)⟩
            probeTest := t.scanner.lastTest, sweepStart := some (t.clock + 1) }
        board := t.board, link := t.link } ∧
      s.boardKept t ∧ s.linkKept t ∧ s.keepsSilent t)

/-- A channel's first reading after SCANNING, or one that is no departure, gives the channel its load
state by the profile's limits and its latest reading, at the lane's first conversion that is not taken
and not before the moment, one in every 5 ticks of a sweep; nothing else of the heat changes. The
model's choices: log entry 21. -/
def Obligations.ReadingGivesTheLoadState : Prop :=
  ∀ (s : State) (p : Profile) (lane : Lane) (reading : Reading) (m first k : Nat),
    s.isRunning = true → s.scanner.state = .scanning → s.scanner.sweepStart = some first →
    s.scanner.probe = none → s.store.inForce = some p →
    (∀ r last, (s.scanner.channels[lane]).latest = some (r, last) →
      last < first + lane.val / 2 + 5 * k ∧
        (k = 0 ∨ first + lane.val / 2 + 5 * k < max (max s.clock m) (last + 1) + 5)) →
    max s.clock m ≤ first + lane.val / 2 + 5 * k →
    ((s.scanner.channels[lane]).latest = none →
      k = 0 ∨ first + lane.val / 2 + 5 * k < max s.clock m + 5) →
    s.quietUntil (first + lane.val / 2 + 5 * k) = true →
    first + lane.val / 2 + 5 * k ≤ Config.masterLimit →
    ((s.scanner.channels[lane]).load = some .loaded → p.unloadedLimit ≤ reading.val) →
    ∃ t, exec (.channelSample lane reading m) s = .next t ∧
      t = { s with
        clock := first + lane.val / 2 + 5 * k
        scanner := { s.scanner with channels := t.scanner.channels }
        board := t.board, link := t.link } ∧
      t.scanner.channels[lane] =
        ⟨if (s.scanner.channels[lane]).load = some .loaded then some .loaded
          else if p.loadedLimit ≤ reading.val then some .loaded else some .unloaded,
          some (reading, t.clock), (s.scanner.channels[lane]).startLoad⟩ ∧
      (∀ l : Lane, l ≠ lane → t.scanner.channels[l] = s.scanner.channels[l]) ∧
      s.boardKept t ∧ s.linkKept t

/-- A channel that goes from LOADED to below the unloaded limit is a departure, timed at the sample
less the platform latency. In RUNNING, in a RACING lane with no departure counted, it is the lane's
reaction, with EARLY_START when it is negative, and the first departure counted; a REACTION notice
says so. In ARMED, in an ENTERED lane of a PLATFORM heat with no departure counted, while a SET mark
is held, it is held as the pre-start departure, counted, and nothing is sent. One that fits neither
row, and does not come in the span of a relay's takeover that its count names, leaves no trace but the
channel's load state: in ARMED without a SET mark, behind the first departure, of a lane that is not
in the heat, in an individual heat behind its reaction, in a relay's lane on a length before the leg
end, or behind the fourth departure. The model's choices: log entry 21. -/
def Obligations.DepartureGivesTheReaction : Prop :=
  (∀ (s : State) (h : HeatRecord) (p : Profile) (lane : Lane) (reading : Reading)
    (m first k start time : Nat) (ticks : Int),
    s.DepartureDue h p lane reading m first k start → (s.lanes[lane]).departures = 0 →
    time = first + lane.val / 2 + 5 * k → ticks = (time : Int) - p.platformLatency - start →
    ∃ t, exec (.channelSample lane reading m) s = .next t ∧
      s.DepartureLeaves lane reading time
        { s.lanes[lane] with
          reaction := .measured ticks
          departures := 1
          reasons :=
            { (s.lanes[lane]).reasons with
              earlyStart := (s.lanes[lane]).reasons.earlyStart || decide (ticks < 0) } } t ∧
      t.tells ⟨t.masterTime, .reaction [⟨lane, .measured ticks,
        (s.scanner.channels[lane]).startLoad, (t.lanes[lane]).reasons⟩]⟩) ∧
  (∀ (s : State) (h : HeatRecord) (p : Profile) (lane : Lane) (reading : Reading)
    (m first k time : Nat), s.ReadingFalls h p lane reading m first k → s.heat.race = .armed →
    (s.lanes[lane]).status = .entered → (s.lanes[lane]).departures = 0 →
    h.startType = .platform → s.heat.setMark.isSome = true → time = first + lane.val / 2 + 5 * k →
    ∃ t, exec (.channelSample lane reading m) s = .next t ∧
      s.DepartureLeaves lane reading time
        { s.lanes[lane] with
          reaction := .preStart ((time : Int) - p.platformLatency), departures := 1 } t ∧
      s.keepsSilent t) ∧
  (∀ (s : State) (h : HeatRecord) (p : Profile) (lane : Lane) (reading : Reading)
    (m first k time : Nat), s.ReadingFalls h p lane reading m first k →
    ¬(s.heat.race = .armed ∧ (s.lanes[lane]).status = .entered ∧ (s.lanes[lane]).departures = 0 ∧
      h.startType = .platform ∧ s.heat.setMark.isSome = true) →
    ¬(s.heat.race = .running ∧ (s.lanes[lane]).status = .racing ∧
      ((s.lanes[lane]).departures = 0 ∨ s.inTakeoverSpan h lane)) →
    time = first + lane.val / 2 + 5 * k →
    ∃ t, exec (.channelSample lane reading m) s = .next t ∧
      s.DepartureLeaves lane reading time s.lanes[lane] t ∧ s.keepsSilent t)

/-- The last conversion of a probe's sweep, by PROBE_SWEEP_COMPLETE for all that are still to come or
by the CHANNEL_SAMPLE of the one that is: the deferred reply COMPLETE with the test and the ten
readings, each at its own tick, and the scanner OFF with no probe in flight. A reading before the last
is only kept for the reply, and nothing is sent. The model's choices: log entries 12, 21, 48. -/
def Obligations.ProbeCompletes : Prop :=
  (∀ (s : State) (readings : Vector Reading 10) (tag : Byte) (first : Nat), s.isRunning = true →
    s.scanner.state = .scanning → s.scanner.sweepStart = some first → s.scanner.probe = some tag →
    s.quietUntil (first + 4) = true →
    ∃ t, exec (.probeSweepComplete readings) s = .next t ∧
      s.ProbeLeaves tag (max s.clock (first + 4)) (tab fun lane =>
        match s.scanner.probeReadings[lane] with
        | some taken => some taken
        | none => some (readings[lane], first + lane.val / 2)) t) ∧
  (∀ (s : State) (lane : Lane) (reading : Reading) (m : Nat) (tag : Byte) (first : Nat),
    s.isRunning = true → s.scanner.state = .scanning → s.scanner.sweepStart = some first →
    s.scanner.probe = some tag → s.scanner.probeReadings[lane] = none →
    s.quietUntil (first + lane.val / 2) = true →
    ∃ t, exec (.channelSample lane reading m) s = .next t ∧
      ((∀ l : Lane, l ≠ lane → (s.scanner.probeReadings[l]).isSome = true) →
        s.ProbeLeaves tag (max s.clock (first + lane.val / 2))
          (s.scanner.probeReadings.set lane (some (reading, first + lane.val / 2))) t) ∧
      (∀ l : Lane, l ≠ lane → s.scanner.probeReadings[l] = none →
        t = { s with
          clock := max s.clock (first + lane.val / 2)
          scanner :=
            { s.scanner with
              probeReadings :=
                s.scanner.probeReadings.set lane (some (reading, first + lane.val / 2)) }
          board := t.board, link := t.link } ∧
        s.boardKept t ∧ s.linkKept t ∧ s.keepsSilent t))

/-! ### The profile store -/

/-- A store write completes: the new profile is in force and stored, and no write is in flight. A
plain write sends PROFILE_DONE, a leveling write ends the procedure with LEVEL_DONE. A source that
differs is in use from now, and outside UNLOCKED acquisition starts afresh, with a TIMEBASE notice of
cause SOURCE_CHANGED behind that one; in UNLOCKED, and for the same source, no such notice follows. A
part just configured takes the profile's default refresh mode. The board makes a full pass in the mode
in force, or goes on with its test. The model's choices: log entries 2, 12, 13, 26. -/
def Obligations.WriteCompletes : Prop :=
  ∀ (s : State) (w : StoreWrite), s.isRunning = true → s.store.write = some w →
    s.quietUntil w.done = true →
    ∃ t, exec .profileWriteComplete s = .next t ∧
      t = { s with
        clock := max s.clock w.done
        timebase :=
          if w.profile.source = s.timebase.source then s.timebase
          else if s.timebase.state = .unlocked then
            { s.timebase with source := w.profile.source, lastWindow := none }
          else
            { state := .acquiring, source := w.profile.source, goodCount := 0, lastWindow := none,
              steering := false, acquiringEnd := t.clock + 5000 }
        wall := if w.leveling then { s.wall with level := .idle, results := [] } else s.wall
        board := t.board
        store := { s.store with inForce := some w.profile, stored := some w.profile, write := none }
        link := t.link } ∧
      t.board.mode = (if s.store.inForce.isNone then some w.profile.defaultMode else s.board.mode) ∧
      t.board.test = s.board.test ∧ t.board.override = s.board.override ∧
      t.board.hold = s.board.hold ∧ t.board.frozen = s.board.frozen ∧ s.linkKept t ∧
      (w.profile.source = s.timebase.source ∨ s.timebase.state = .unlocked →
        [⟨t.masterTime,
          if w.leveling then .levelDone true s.wall.results
          else profileDone s.store.inForce w.profile⟩] <:+ t.told) ∧
      (w.profile.source ≠ s.timebase.source → s.timebase.state ≠ .unlocked →
        [⟨t.masterTime,
            if w.leveling then .levelDone true s.wall.results
            else profileDone s.store.inForce w.profile⟩,
          ⟨t.masterTime, .timebase .acquiring s.timebase.state w.profile.source .sourceChanged⟩]
          <:+ t.told) ∧
      (s.board.mode.isSome = true ∨ s.store.inForce = none → s.PassTaken t)

/-! ### The board line -/

/-- A slot of CONTINUOUS with the line free begins the frame of the row at the cursor, as the row
stands now, moves the cursor on, from 11 to 0, and sets the next slot 250 ticks later; with a frame on
the line that row's frame is owed to it. A slot of the board test does the same with a test frame, in
either mode. While the part is not configured there is no slot. What a lane's row holds: with no heat,
or of a lane that is not entered, the digit alone; of an entered lane its label, and IDLE, ENTERED or
RACING without a timed length nothing else; RACING the number and the time of its last TOUCHED or
TIMED length; FINISHED its place, its time and REV, CHK or no marker; disqualified DQ; CLOSED NT. A
time of 60 s or more is shown with minutes. That an entered lane which the profile in force no longer
installs has these rows too is the model's choice (log entry 44): R156 shows a lane that is not
installed as not entered, and takes the entered lanes from the heat. The model's choices: log entries
2, 12, 19, 44, 47. -/
def Obligations.SlotSendsTheCursorRow : Prop :=
  (∀ (s : State) (n : Nat), s.isRunning = true → s.configured = true →
    s.board.mode = some .continuous →
    s.board.test = false → s.board.nextSlot = some n → s.quietUntil n = true →
    s.board.line = none → s.board.passDue = false →
    ∃ t, exec .boardSlot s = .next t ∧
      t = { s with clock := max s.clock n, board := t.board, link := t.link } ∧
      t.board.line = some ⟨s.board.cursor, t.imageNow[s.board.cursor], t.clock⟩ ∧
      t.board.cursor.val = (s.board.cursor.val + 1) % 12 ∧ t.board.nextSlot = some (n + 250) ∧
      s.boardKept t ∧ s.linkKept t) ∧
  (∀ (s : State) (lane : Lane), (s.heat.current.all fun h => !h.enters lane) = true →
    s.rowOf (.lane lane) = shownLane lane none (blanks 3) [] []) ∧
  (∀ (s : State) (h : HeatRecord) (lane : Lane), s.heat.current = some h →
    h.enters lane = true → (s.lanes[lane]).disqualified = true →
    ((s.lanes[lane]).status = .finished ∨ (s.lanes[lane]).status = .closed) →
    s.rowOf (.lane lane) =
      shownLane lane none [0x44#8, 0x51#8, 0x20#8] [] (s.lanes[lane]).label) ∧
  (∀ (s : State) (h : HeatRecord) (lane : Lane), s.heat.current = some h →
    h.enters lane = true → (s.lanes[lane]).disqualified = false →
    ((s.lanes[lane]).status = .closed →
      s.rowOf (.lane lane) =
        shownLane lane none [0x4E#8, 0x54#8, 0x20#8] [] (s.lanes[lane]).label) ∧
    (∀ official, (s.lanes[lane]).status = .finished → (s.lanes[lane]).finalTime = some official →
      official < 36000000 → ((s.lanes[lane]).place.all fun n => decide (n ≤ 10)) = true →
      s.rowOf (.lane lane) =
        shownLane lane (s.lanes[lane]).place (shownMarker s.heat.race s.lanes[lane])
          (shownLaneTime (official / 100)) (s.lanes[lane]).label)) ∧
  (∀ (s : State) (h : HeatRecord) (lane : Lane) (before after : List LengthRecord)
    (x : LengthRecord), s.heat.current = some h → h.enters lane = true →
    (s.lanes[lane]).status = .racing → (s.lanes[lane]).lengths = before ++ x :: after →
    (∀ y ∈ after, y.outcome ≠ .touched ∧ y.outcome ≠ .timed) → x.number < 100 →
    (∀ time, time < 36000000 →
      ((x.outcome = .touched ∧ x.padTime = some time) ∨
        (x.outcome = .timed ∧ x.official = some time)) →
      s.rowOf (.lane lane) =
        shownLane lane none
          (if x.number < 10 then [0x4C#8, 0x20#8, digit x.number]
            else 0x4C#8 :: shortNumber x.number)
          (shownLaneTime (time / 100)) (s.lanes[lane]).label)) ∧
  (∀ (s : State) (h : HeatRecord) (lane : Lane), s.heat.current = some h →
    h.enters lane = true →
    ((s.lanes[lane]).status = .idle ∨ (s.lanes[lane]).status = .entered ∨
      ((s.lanes[lane]).status = .racing ∧
        ∀ y ∈ (s.lanes[lane]).lengths, y.outcome ≠ .touched ∧ y.outcome ≠ .timed)) →
    s.rowOf (.lane lane) = shownLane lane none (blanks 3) [] (s.lanes[lane]).label) ∧
  (∀ (s : State) (f : BoardFrame) (n : Nat), s.isRunning = true → s.configured = true →
    s.board.mode = some .continuous → s.board.test = false → s.board.nextSlot = some n →
    s.quietUntil n = true → s.board.line = some f → s.board.passDue = false →
    ∃ t, exec .boardSlot s = .next t ∧
      t = { s with clock := max s.clock n, board := t.board, link := t.link } ∧
      t.board.line = some f ∧ t.board.owed = some s.board.cursor ∧
      t.board.cursor.val = (s.board.cursor.val + 1) % 12 ∧ t.board.nextSlot = some (n + 250) ∧
      s.boardKept t ∧ s.linkKept t) ∧
  (∀ (s : State) (n : Nat), s.isRunning = true → s.configured = true → s.board.test = true →
    s.board.nextSlot = some n → s.quietUntil n = true →
    ∃ t, exec .boardSlot s = .next t ∧
      t = { s with clock := max s.clock n, board := t.board, link := t.link } ∧
      (s.board.line = none →
        t.board.line = some ⟨s.board.cursor, testRow, t.clock⟩ ∧ t.board.owed = none) ∧
      (∀ f, s.board.line = some f →
        t.board.line = some f ∧ t.board.owed = some s.board.cursor) ∧
      t.board.cursor.val = (s.board.cursor.val + 1) % 12 ∧ t.board.nextSlot = some (n + 250) ∧
      t.board.pendingRows = s.board.pendingRows ∧ t.board.periodic = s.board.periodic ∧
      s.boardKept t ∧ s.linkKept t) ∧
  (∀ s : State, s.configured = false → exec .boardSlot s = .next s)

/-- The end of a board frame comes when its bytes, ten bit times each at 115,200 bit/s, have left: 29
whole ticks for a frame of 34 bytes, 43 for one of 50. A row owed to the line then begins its frame, a
test frame while the test is on. In ON_CHANGE without one: the lowest row that is pending, or that has
changed, begins its frame and leaves the set; with none, the line is idle. It is idle too in
CONTINUOUS, in the test and on a part that is not configured, when nothing is owed or pending. The
model's choices: log entries 2, 12, 19, 22. -/
def Obligations.FrameEndSendsTheLowestRow : Prop :=
  (∀ (s : State) (f : BoardFrame) (m : Nat), s.isRunning = true → s.configured = true →
    s.board.mode = some .onChange → s.board.test = false → s.board.owed = none →
    s.board.passDue = false → s.board.line = some f →
    s.quietUntil (max m (f.began + boardTicks (rowFrame f).length)) = true →
    ∃ t, exec (.boardFrameEnd m) s = .next t ∧
      t = { s with clock := t.clock, board := t.board, link := t.link } ∧
      t.clock = max s.clock (max m (f.began + boardTicks (rowFrame f).length)) ∧
      s.boardKept t ∧ s.linkKept t ∧
      (∀ row : RowIx,
        (s.board.pendingRows[row] = true ∨ s.board.image[row] ≠ t.imageNow[row]) →
        (∀ q : RowIx, q < row →
          s.board.pendingRows[q] = false ∧ s.board.image[q] = t.imageNow[q]) →
        t.board.line = some ⟨row, t.imageNow[row], t.clock⟩ ∧ t.board.pendingRows[row] = false) ∧
      ((∀ row : RowIx, s.board.pendingRows[row] = false ∧ s.board.image[row] = t.imageNow[row]) →
        t.board.line = none)) ∧
  (∀ (s : State) (f : BoardFrame) (row : RowIx) (m : Nat), s.isRunning = true →
    s.configured = true → s.board.owed = some row → s.board.passDue = false →
    s.board.line = some f →
    s.quietUntil (max m (f.began + boardTicks (rowFrame f).length)) = true →
    ∃ t, exec (.boardFrameEnd m) s = .next t ∧
      t = { s with clock := t.clock, board := t.board, link := t.link } ∧
      t.clock = max s.clock (max m (f.began + boardTicks (rowFrame f).length)) ∧
      t.board.line =
        some ⟨row, if s.board.test then testRow else t.imageNow[row], t.clock⟩ ∧
      t.board.owed = none ∧ t.board.cursor = s.board.cursor ∧
      t.board.nextSlot = s.board.nextSlot ∧ s.boardKept t ∧ s.linkKept t) ∧
  (∀ (s : State) (f : BoardFrame) (m : Nat), s.isRunning = true → s.board.owed = none →
    (∀ row : RowIx, s.board.pendingRows[row] = false) →
    (s.configured = false ∨ s.board.test = true ∨
      (s.board.mode = some .continuous ∧ s.board.passDue = false)) → s.board.line = some f →
    s.quietUntil (max m (f.began + boardTicks (rowFrame f).length)) = true →
    ∃ t, exec (.boardFrameEnd m) s = .next t ∧
      t = { s with clock := t.clock, board := t.board, link := t.link } ∧
      t.clock = max s.clock (max m (f.began + boardTicks (rowFrame f).length)) ∧
      t.board.line = none ∧ s.boardKept t ∧ s.linkKept t) ∧
  (∀ f : BoardFrame, f.content.place.length = 2 → f.content.marker.length = 3 →
    f.content.time.length = 8 →
    (f.content.text.length = 16 →
      (rowFrame f).length = 34 ∧ boardTicks (rowFrame f).length = 29) ∧
    (f.content.text.length = 32 →
      (rowFrame f).length = 50 ∧ boardTicks (rowFrame f).length = 43))

/-- The periodic full pass of ON_CHANGE puts all twelve rows in the set and sets the timer 50,000
ticks on; with the line free, row 0's frame begins at once. While the part is not configured there is
no such pass. What the other rows hold: the banner row the override, or the current heat's effective
banner, filled with spaces; a heat's effective banner is its banner, or with an empty one the distance
text, its lengths times 25 or 50 as a decimal number and the letter m; ORDER(k) the row of the k-th
lane of the running order, which is the entered lanes in lane order until the heat ends and the place
order before the entered lanes without a place behind it, and BLANK behind the last lane or with no
heat. The model's choices: log entries 2, 12. -/
def Obligations.PeriodicPassSendsEveryRow : Prop :=
  (∀ (s : State) (n : Nat), s.isRunning = true → s.configured = true →
    s.board.mode = some .onChange →
    s.board.test = false → s.board.owed = none → s.board.periodic = some n →
    s.quietUntil n = true →
    ∃ t, exec .boardPeriodicPass s = .next t ∧
      t = { s with clock := max s.clock n, board := t.board, link := t.link } ∧
      t.board.periodic = some (t.clock + 50000) ∧
      (∀ row : RowIx, row ≠ 0 → t.board.pendingRows[row] = true) ∧
      (s.board.line = none →
        t.board.line = some ⟨0, t.imageNow[(0 : RowIx)], t.clock⟩ ∧
          t.board.pendingRows[(0 : RowIx)] = false) ∧
      (∀ f, s.board.line = some f →
        t.board.line = some f ∧ t.board.pendingRows[(0 : RowIx)] = true) ∧
      s.boardKept t ∧ s.linkKept t) ∧
  (∀ (s : State) (text : Text),
    text = s.board.override.getD ((s.heat.current.map effectiveBanner).getD []) →
    s.rowOf .banner =
      ⟨.banner, 0x20#8, blanks 2, blanks 3, blanks 8, text ++ blanks (32 - text.length)⟩) ∧
  (∀ (s : State) (h : HeatRecord) (k : Fin 10), s.heat.current = some h →
    (∀ lane, (s.shownOrder h)[k.val]? = some lane → s.rowOf (.order k) = s.rowOf (.lane lane)) ∧
      ((s.shownOrder h).length ≤ k.val → s.rowOf (.order k) = .blank)) ∧
  (∀ (s : State) (k : Fin 10), s.heat.current = none → s.rowOf (.order k) = .blank) ∧
  (∀ h : HeatRecord, (h.banner ≠ [] → effectiveBanner h = h.banner) ∧
    (h.banner = [] → h.lengths ≤ 60 →
      effectiveBanner h = shownNumber (h.lengths * metres h.course) ++ [0x6D#8])) ∧
  (∀ s : State, s.configured = false → exec .boardPeriodicPass s = .next s)

/-- The first-finish hold runs out in RUNNING: it is SPENT, and the rows follow. The model's choices:
log entries 2, 12. -/
def Obligations.HoldRunsOut : Prop :=
  ∀ (s : State) (ends : Nat), s.isRunning = true → s.heat.race = .running →
    s.board.hold = .holding ends → s.quietUntil ends = true →
    ∃ t, exec .firstFinishHoldEnd s = .next t ∧
      t = { s with clock := max s.clock ends, board := t.board, link := t.link } ∧
      t.board.hold = .spent ∧ t.board.mode = s.board.mode ∧ t.board.test = s.board.test ∧
      t.board.override = s.board.override ∧ t.board.frozen = s.board.frozen ∧
      t.board.image = t.imageNow ∧ s.linkKept t

/-! ### The console line -/

/-- A byte in HUNT: 0xA5 begins a frame, any other byte is discarded, and nothing is counted; a byte
inside a frame that it does not complete is held behind the others. A framing error, a silence of
1,000 ticks, a payload length above 512 and a complete frame that fails its CRC each drop the frame in
progress and count it; with no start byte among the bytes behind the dropped one the receiver is in
HUNT. With a start byte among them, that begins the frame in progress, of the bytes from there on; a
silence drops and counts that one too. A silence that has come by the moment of a byte, a frame or a
framing error drops the frame in progress first, and what arrives finds the receiver in HUNT. The
model's choices: log entries 2, 12, 16, 49. -/
def Obligations.ReceiverTakesAndDropsFrames : Prop :=
  (∀ (s : State) (b : Byte) (m : Nat), s.isRunning = true → s.quietUntil m = true →
    s.link.held = [] →
    exec (.consoleByteReceived b m) s =
      .next { s with
        clock := max s.clock m
        link :=
          { s.link with
            held := if b = 0xA5#8 then [b] else [], lastByte := max s.clock m } }) ∧
  (∀ (s : State) (m : Nat) (rest : List Byte), s.isRunning = true → s.quietUntil m = true →
    s.link.held = 0xA5#8 :: rest →
    (∀ b ∈ rest, b ≠ 0xA5#8) → max s.clock m < s.link.lastByte + 1000 →
    exec (.byteFramingError m) s =
      .next { s with
        clock := max s.clock m
        link := { s.link with held := [], discards := min 65535 (s.link.discards + 1) } }) ∧
  (∀ (s : State) (rest : List Byte), s.isRunning = true → s.link.held = 0xA5#8 :: rest →
    (∀ b ∈ rest, b ≠ 0xA5#8) → s.quietUntil (s.link.lastByte + 1000) = true →
    ∃ t, exec .receiverSilence s = .next t ∧
      t = { s with
        clock := max s.clock (s.link.lastByte + 1000), board := t.board, link := t.link } ∧
      t.link.held = [] ∧ t.link.discards = min 65535 (s.link.discards + 1) ∧
      t.link.buffer = s.link.buffer ∧ s.boardKept t) ∧
  (∀ (s : State) (m : Nat) (kind tag hi lo : Byte), s.isRunning = true → s.quietUntil m = true →
    s.link.held = [0xA5#8, kind, tag, hi] → 512 < hi.toNat * 256 + lo.toNat →
    kind ≠ 0xA5#8 → tag ≠ 0xA5#8 → hi ≠ 0xA5#8 → lo ≠ 0xA5#8 →
    max s.clock m < s.link.lastByte + 1000 →
    exec (.payloadLengthTooLong lo m) s =
      .next { s with
        clock := max s.clock m
        link :=
          { s.link with
            held := [], lastByte := max s.clock m
            discards := min 65535 (s.link.discards + 1) } }) ∧
  (∀ (s : State) (b : Byte) (m : Nat) (held : List Byte), s.isRunning = true →
    s.quietUntil m = true → s.link.held ≠ [] → held = s.link.held ++ [b] →
    (held.length < 5 ∨ (wordAt held 3 ≤ 512 ∧ held.length < 7 + wordAt held 3)) →
    max s.clock m < s.link.lastByte + 1000 →
    exec (.consoleByteReceived b m) s =
      .next { s with
        clock := max s.clock m
        link := { s.link with held := held, lastByte := max s.clock m } }) ∧
  (∀ (s : State) (m : Nat) (body : List Byte), s.isRunning = true → s.quietUntil m = true →
    s.link.held = [] → 6 ≤ body.length → wordAt body 2 ≤ 512 →
    body.length = 6 + wordAt body 2 → (∀ b ∈ body, b ≠ 0xA5#8) →
    (crc16 (body.take (body.length - 2))).toNat ≠ wordAt body (body.length - 2) →
    exec (.consoleFrameReceived (0xA5#8 :: body) m) s =
      .next { s with
        clock := max s.clock m
        link :=
          { s.link with
            lastByte := max s.clock m, discards := min 65535 (s.link.discards + 1) } }) ∧
  (∀ (s : State) (m : Nat) (skipped held : List Byte), s.isRunning = true → s.quietUntil m = true →
    s.link.held = 0xA5#8 :: (skipped ++ held) → (∀ b ∈ skipped, b ≠ 0xA5#8) →
    held.head? = some 0xA5#8 →
    (held.length < 5 ∨ (wordAt held 3 ≤ 512 ∧ held.length < 7 + wordAt held 3)) →
    max s.clock m < s.link.lastByte + 1000 →
    exec (.byteFramingError m) s =
      .next { s with
        clock := max s.clock m
        link := { s.link with held := held, discards := min 65535 (s.link.discards + 1) } }) ∧
  (∀ (s : State) (skipped rest : List Byte), s.isRunning = true →
    s.link.held = 0xA5#8 :: (skipped ++ 0xA5#8 :: rest) → (∀ b ∈ skipped ++ rest, b ≠ 0xA5#8) →
    (rest.length < 4 ∨ (wordAt rest 2 ≤ 512 ∧ rest.length < 6 + wordAt rest 2)) →
    s.quietUntil (s.link.lastByte + 1000) = true →
    ∃ t, exec .receiverSilence s = .next t ∧
      t = { s with
        clock := max s.clock (s.link.lastByte + 1000), board := t.board, link := t.link } ∧
      t.link.held = [] ∧ t.link.discards = min 65535 (s.link.discards + 2) ∧
      t.link.buffer = s.link.buffer ∧ s.boardKept t) ∧
  (∀ (s u : State) (m : Nat), s.isRunning = true → s.link.held ≠ [] →
    s.link.lastByte + 1000 ≤ max s.clock m → exec .receiverSilence s = .next u →
    (∀ b, exec (.consoleByteReceived b m) s = exec (.consoleByteReceived b m) u) ∧
      exec (.byteFramingError m) s = exec (.byteFramingError m) u ∧
      (∀ bytes, exec (.consoleFrameReceived bytes m) s = exec (.consoleFrameReceived bytes m) u) ∧
      ∀ lo, s.link.held.length = 4 → 512 < wordAt (s.link.held ++ [lo]) 3 →
        exec (.payloadLengthTooLong lo m) s = exec (.consoleByteReceived lo m) u)

/-- The frame of every kind, tag and payload of at most 512 bytes, received in HUNT, is one frame that
passes its check, and leaves the receiver in HUNT: the envelope of R184, the receiver of R173 and the
check of R174 agree. -/
def Obligations.ConsoleFrameRoundTrip : Prop :=
  ∀ (kind tag : Byte) (payload : List Byte), payload.length ≤ 512 →
    receive [] (consoleFrame kind tag payload) = ([], [.frame (consoleFrame kind tag payload)])

/-- A request's whole frame, received in HUNT, is that request's arrival, and so is the byte that
completes it before a silence has come: the same next state as the request command gives, but for the
time of the last byte. While an execution reply waits, or behind an executed RESTART, the request only
joins the buffer's tail; with four in the buffer it is answered at once with an immediate BUSY and not
executed; with six immediate replies waiting that reply is not made and the frame counts as discarded.
A frame whose kind names no request is answered in the same way with UNKNOWN_REQUEST. The model's
choices: log entries 2, 6, 8, 49. -/
def Obligations.RequestFrameIsTheRequest : Prop :=
  (∀ (s : State) (kind : RequestKind) (tag : Byte) (payload : List Byte) (m : Nat),
    s.isRunning = true → s.link.held = [] → payload.length ≤ 512 →
    exec (.consoleFrameReceived (consoleFrame kind.code tag payload) m) s =
      .next (State.request kind m tag payload
        { s with link := { s.link with lastByte := max s.clock m } })) ∧
  (∀ (s : State) (kind : RequestKind) (tag : Byte) (payload : List Byte) (m : Nat),
    s.isRunning = true → s.quietUntil m = true → s.link.line ≠ none →
    (s.link.executionWaits = true ∨ s.link.restarting = true) → s.link.buffer.length < 4 →
    s.request kind m tag payload =
      { s with
        clock := max s.clock m
        link := { s.link with buffer := s.link.buffer ++ [⟨kind, tag, payload⟩] } }) ∧
  (∀ (s : State) (kind : RequestKind) (tag : Byte) (payload : List Byte) (m : Nat),
    s.isRunning = true → s.quietUntil m = true → s.link.line ≠ none →
    (s.link.executionWaits = true ∨ s.link.restarting = true) → 4 ≤ s.link.buffer.length →
    s.request kind m tag payload =
      { s with
        clock := max s.clock m
        link :=
          if (s.link.replies.filter fun r => r.cls == .immediate).length < 6 then
            { s.link with
              replies := s.link.replies ++ [⟨.immediate, some kind, tag, .refused .busy⟩] }
          else { s.link with discards := min 65535 (s.link.discards + 1) } }) ∧
  (∀ (s : State) (kind : RequestKind) (tag : Byte) (payload : List Byte) (b : Byte) (m : Nat),
    s.isRunning = true → s.link.held ++ [b] = consoleFrame kind.code tag payload →
    payload.length ≤ 512 → max s.clock m < s.link.lastByte + 1000 →
    exec (.consoleByteReceived b m) s =
      .next (State.request kind m tag payload
        { s with link := { s.link with held := [], lastByte := max s.clock m } })) ∧
  (∀ (s : State) (code tag : Byte) (payload : List Byte) (m : Nat), s.isRunning = true →
    s.quietUntil m = true → s.link.held = [] → payload.length ≤ 512 →
    (∀ kind : RequestKind, kind.code ≠ code) → s.link.line ≠ none →
    (s.link.buffer = [] ∨ s.link.executionWaits = true ∨ s.link.restarting = true) →
    exec (.consoleFrameReceived (consoleFrame code tag payload) m) s =
      .next { s with
        clock := max s.clock m
        link :=
          if (s.link.replies.filter fun r => r.cls == .immediate).length < 6 then
            { s.link with
              lastByte := max s.clock m
              replies := s.link.replies ++
                [⟨.immediate, none, tag, .refused (.unknownRequest code)⟩] }
          else
            { s.link with
              lastByte := max s.clock m, discards := min 65535 (s.link.discards + 1) } })

/-- A frame's last byte leaves the console line. With no request waiting the oldest reply begins, or
else the oldest notice, which carries the GAP flag and clears the mark; with neither, the line is
idle. With requests waiting behind an execution reply that now begins, the oldest of them leaves the
buffer and is executed in the same event. A notice, whatever its body, joins the queue's tail with the
present master time as its creation time; with 64 waiting the oldest is dropped for it and the GAP
mark is set. The ACQUIRED notice of ACQUIRING_INTERVAL_END, made while the line is taken, does so. The
model's choices: log entries 2, 8, 12, 22. -/
def Obligations.LineFreeBeginsTheNextFrame : Prop :=
  (∀ (s : State) (f : TxFrame) (m : Nat), s.isRunning = true → s.link.line = some f →
    s.link.sendsRestart = false → s.link.buffer = [] →
    s.quietUntil (max m (f.began + consoleTicks (messageFrame f.message).length)) = true →
    ∃ t, exec (.transmitFrameEnd m) s = .next t ∧
      t.clock = max s.clock (max m (f.began + consoleTicks (messageFrame f.message).length)) ∧
      t = { s with clock := t.clock, link := t.link } ∧
      (∀ r rest, s.link.replies = r :: rest →
        t.link = { s.link with replies := rest, line := some ⟨.reply r, t.clock⟩ }) ∧
      (∀ n rest, s.link.replies = [] → s.link.notices = n :: rest →
        t.link =
          { s.link with
            notices := rest, gap := false, line := some ⟨.notice n s.link.gap, t.clock⟩ }) ∧
      (s.link.replies = [] → s.link.notices = [] → t.link = { s.link with line := none })) ∧
  (∀ (s u : State) (f : TxFrame) (m : Nat) (r : Reply) (replies : List Reply) (q : Request)
    (buffer : List Request), s.isRunning = true → s.link.line = some f →
    s.link.sendsRestart = false → s.link.restarting = false → s.link.replies = r :: replies →
    r.cls = .execution → (∀ x ∈ replies, x.cls ≠ .execution) → s.link.buffer = q :: buffer →
    s.quietUntil (max m (f.began + consoleTicks (messageFrame f.message).length)) = true →
    u = { s with
      clock := max s.clock (max m (f.began + consoleTicks (messageFrame f.message).length))
      link :=
        { s.link with
          replies := replies, line := some ⟨.reply r, u.clock⟩, buffer := buffer } } →
    (buffer = [] ∨ (u.handle q).answer.isSome = true) →
    exec (.transmitFrameEnd m) s = .next (State.executed q u)) ∧
  (∀ (s : State) (n : Notice), s.isRunning = true → s.timebase.state = .acquiring →
    s.timebase.source = .internal → s.quietUntil s.timebase.acquiringEnd = true →
    s.link.line ≠ none → s.link.fresh = 0 →
    n = ⟨min (max s.clock s.timebase.acquiringEnd) Config.masterLimit,
      .timebase .locked .acquiring .internal .acquired⟩ →
    ∃ t, exec .acquiringIntervalEnd s = .next t ∧
      (s.link.notices.length < 64 →
        t.link = { s.link with notices := s.link.notices ++ [n] }) ∧
      (s.link.notices.length = 64 →
        t.link = { s.link with notices := s.link.notices.tail ++ [n], gap := true })) ∧
  (∀ (s : State) (body : NoticeBody),
    (s.link.notices.length < 64 →
      s.notify body =
        { s with
          link :=
            { s.link with
              notices := s.link.notices ++ [⟨s.masterTime, body⟩], fresh := s.link.fresh + 1 } }) ∧
    (s.link.notices.length = 64 →
      s.notify body =
        { s with
          link :=
            { s.link with
              notices := s.link.notices.tail ++ [⟨s.masterTime, body⟩], gap := true
              fresh := s.link.fresh + 1 } }))


/-! ### Requests -/

/-- Whatever the request, a refusal changes no state (R176); and every request is answered at its
execution but an accepted PROBE_BLOCKS (R177). -/
def Obligations.RequestsAreRefusedWhole : Prop :=
  (∀ (r : Request) (s : State) (d : Denial),
    (s.handle r).answer = some (.refused d) → (s.handle r).state = s) ∧
  (∀ (r : Request) (s : State), (s.handle r).answer = none →
    r.kind = .probeBlocks ∧ (s.handle r).state.scanner.probe = some r.tag)

/-- LOAD_HEAT of a record that passes every check: in IDLE it becomes the current heat, LOADED, with
its flags clear, its labels in the lane table, no override, and a HEAT_STATE notice; the board makes a
full pass, or goes on with its test, and its mode, hold and frozen time stay; in another state, with
room in the queue and no equal numbers, it joins the queue's tail and nothing else changes. The
model's choices: log entries 2, 6. -/
def Obligations.LoadHeatMakesCurrentOrQueues : Prop :=
  (∀ (s : State) (p : Profile) (m : Nat) (tag : Byte) (payload : List Byte), s.isRunning = true →
    s.linkReady → s.quietUntil m = true → s.store.inForce = some p →
    heatFault p.installed payload = none →
    s.heat.race = .idle → s.heat.current = none → s.heat.queue = [] →
    ∃ t, exec (.loadHeat m tag payload) s = .next t ∧
      t = { s with
        clock := max s.clock m
        heat :=
          { s.heat with
            race := .loaded, current := some (heatOf p.course payload), flags := .clear
            setMark := none, startMark := none, guardEnd := none }
        lanes := t.lanes, board := t.board, link := t.link } ∧
      (∀ lane : Lane, t.lanes[lane] =
        { s.lanes[lane] with
          label := if (heatOf p.course payload).enters lane then
            (heatOf p.course payload).labels[lane] else [] }) ∧
      t.board.override = none ∧ t.board.mode = s.board.mode ∧ t.board.test = s.board.test ∧
      t.board.hold = s.board.hold ∧ t.board.frozen = s.board.frozen ∧
      (s.board.mode.isSome = true → s.PassTaken t) ∧ s.linkKept t ∧
      t.answers .loadHeat tag (.accepted .placedCurrent) ∧
      t.tells ⟨t.masterTime, .heatState .loaded .idle .load
        (some ((heatOf p.course payload).event,
        (heatOf p.course payload).heat)) .clear none none⟩) ∧
  (∀ (s : State) (p : Profile) (h : HeatRecord) (m : Nat) (tag : Byte) (payload : List Byte),
    s.isRunning = true → s.linkReady → s.quietUntil m = true → s.store.inForce = some p →
    heatFault p.installed payload = none → s.heat.race ≠ .idle → s.heat.queue.length < 4 →
    h = heatOf p.course payload →
    (∀ q ∈ s.heat.current.toList ++ s.heat.queue, ¬(q.event = h.event ∧ q.heat = h.heat)) →
    ∃ t, exec (.loadHeat m tag payload) s = .next t ∧
      t = { s with
        clock := max s.clock m, heat := { s.heat with queue := s.heat.queue ++ [h] }
        board := t.board, link := t.link } ∧ s.boardKept t ∧ s.linkKept t ∧
      t.answers .loadHeat tag
        (.accepted (.placedQueued (s.heat.queue.length + 1) (s.heat.queue.length + 1))))

/-- WITHDRAW_HEAT of the numbers of a queued record, in every race state: the first such record leaves
the queue, those behind it close up, and nothing else changes. Of the current heat's numbers, in
LOADED: the head of the queue becomes the current heat, LOADED, with its labels, or with an empty
queue the race is IDLE, and the board makes a full pass, or goes on with its test; in the race states
after LOADED it is refused with WRONG_STATE. Of numbers that no heat has it is refused with NOT_FOUND.
The model's choices: log entries 2, 6, 39. -/
def Obligations.WithdrawTakesFromTheQueue : Prop :=
  (∀ (s : State) (m : Nat) (tag e1 e0 n : Byte) (before after : List HeatRecord) (h : HeatRecord),
    s.isRunning = true → s.linkReady → s.quietUntil m = true → s.heat.queue = before ++ h :: after →
    h.event = e1.toNat * 256 + e0.toNat → h.heat = n.toNat →
    (∀ q ∈ before, ¬(q.event = h.event ∧ q.heat = h.heat)) →
    ∃ t, exec (.withdrawHeat m tag [e1, e0, n]) s = .next t ∧
      t = { s with
        clock := max s.clock m, heat := { s.heat with queue := before ++ after }
        board := t.board, link := t.link } ∧ s.boardKept t ∧ s.linkKept t ∧
      t.answers .withdrawHeat tag
        (.accepted (.withdrawn (before.length + 1) (before.length + after.length)))) ∧
  (∀ (s : State) (m : Nat) (tag e1 e0 n : Byte) (h : HeatRecord), s.isRunning = true →
    s.linkReady → s.quietUntil m = true → s.heat.race = .loaded → s.heat.current = some h →
    h.event = e1.toNat * 256 + e0.toNat → h.heat = n.toNat →
    (∀ q ∈ s.heat.queue, ¬(q.event = h.event ∧ q.heat = h.heat)) →
    ∃ t, exec (.withdrawHeat m tag [e1, e0, n]) s = .next t ∧
      t = { s with
        clock := max s.clock m
        heat :=
          { s.heat with
            race := if s.heat.queue = [] then .idle else .loaded
            current := s.heat.queue.head?, flags := .clear, queue := s.heat.queue.tail
            setMark := none, startMark := none, guardEnd := none }
        lanes := t.lanes, board := t.board, link := t.link } ∧
      (∀ lane : Lane, t.lanes[lane] =
        { s.lanes[lane] with label := labelFrom s.heat.queue.head? lane }) ∧
      t.board.mode = s.board.mode ∧ t.board.test = s.board.test ∧ t.board.override = none ∧
      t.board.hold = s.board.hold ∧ t.board.frozen = s.board.frozen ∧
      (s.board.mode.isSome = true → s.PassTaken t) ∧ s.linkKept t ∧
      t.answers .withdrawHeat tag
        (.accepted (.newCurrent (s.heat.queue.head?.map fun q => (q.event, q.heat)))) ∧
      t.tells ⟨t.masterTime, .heatState (if s.heat.queue = [] then .idle else .loaded) .loaded
        .withdraw (s.heat.queue.head?.map fun q => (q.event, q.heat)) .clear none none⟩) ∧
  (∀ (s : State) (m : Nat) (tag e1 e0 n : Byte), s.isRunning = true → s.linkReady →
    s.quietUntil m = true → (s.heat.race ≠ .loaded ∨ (s.heat.current.all fun h =>
      !(h.event == e1.toNat * 256 + e0.toNat && h.heat == n.toNat)) = true) →
    (∀ q ∈ s.heat.queue, ¬(q.event = e1.toNat * 256 + e0.toNat ∧ q.heat = n.toNat)) →
    ∃ t, exec (.withdrawHeat m tag [e1, e0, n]) s = .next t ∧
      t = { s with clock := max s.clock m, board := t.board, link := t.link } ∧
      s.boardKept t ∧ s.linkKept t ∧
      t.answers .withdrawHeat tag (.refused
        (if (s.heat.current.any fun h =>
            h.event == e1.toNat * 256 + e0.toNat && h.heat == n.toNat) = true then .wrongState
          else .notFound)))

/-- STATUS, QUERY_QUEUE, QUERY_LANE, QUERY_ARCHIVE and PROFILE_READ change nothing and reply with what
they ask for, as the records stand at their execution. STATUS reports every part's items: the
timebase's (R16), the heat controller's (R32), the heat cycle's (R52), wall capture's (R72), the lane
records (R96), the scanner's (R135), placing's (R153), the board driver's (R170), the link's (R182)
and the profile store's (R191). The row cursor while the board test is on and the refresh mode that
BOARD_MODE has set during the test are reported by the model's choice (log entries 52 and 56).
QUERY_QUEUE gives the summary, or the record at an index, 0 being the current heat with its flags;
QUERY_ARCHIVE the entry at an index, the newest first; NOT_FOUND where the index names none. The
model's choices: log entries 2, 6, 41, 42, 52, 56. -/
def Obligations.QueriesChangeNothing : Prop :=
  ∀ (s : State) (m : Nat) (tag : Byte), s.isRunning = true → s.linkReady → s.quietUntil m = true →
    (∃ t, exec (.status m tag []) s = .next t ∧
      t = { s with clock := max s.clock m, board := t.board, link := t.link } ∧
      s.boardKept t ∧ s.linkKept t ∧
      (s.advance m).Reports (s.advance m).statusReport ∧
      t.answers .status tag (.accepted (.statusReport (s.advance m).statusReport))) ∧
    (∃ t, exec (.queryQueue m tag []) s = .next t ∧
      t = { s with clock := max s.clock m, board := t.board, link := t.link } ∧
      s.boardKept t ∧ s.linkKept t ∧
      t.answers .queryQueue tag (.accepted (.queueSummary s.heat.race
        (s.heat.current.toList ++ s.heat.queue) s.heat.current.isSome))) ∧
    (∀ i : Byte, ∃ t, exec (.queryQueue m tag [i]) s = .next t ∧
      t = { s with clock := max s.clock m, board := t.board, link := t.link } ∧
      s.boardKept t ∧ s.linkKept t ∧
      t.answers .queryQueue tag
        (match (if i = 0 then s.heat.current else s.heat.queue[i.toNat - 1]?) with
          | some h => .accepted (.queueRecord h (effectiveBanner h)
              (if i = 0 then some s.heat.flags else none))
          | none => .refused .notFound)) ∧
    (∀ lane n : Byte, lane.toNat ≤ 9 → 1 ≤ n.toNat → n.toNat ≤ 60 →
      ∃ t, exec (.queryLane m tag [lane, n]) s = .next t ∧
        t = { s with clock := max s.clock m, board := t.board, link := t.link } ∧
        s.boardKept t ∧ s.linkKept t ∧
        t.answers .queryLane tag (.accepted (.laneReport s.heat.race s.lanes[laneOf lane.toNat]
          (match s.heat.current with
            | some h => (s.lanes[laneOf lane.toNat]).gateBase + h.inhibit * 100
            | none => (s.lanes[laneOf lane.toNat]).gateBase)
          (((s.lanes[laneOf lane.toNat]).lengths.drop (n.toNat - 1)).take 12)))) ∧
    (∀ i : Byte, ∃ t, exec (.queryArchive m tag [i]) s = .next t ∧
      t = { s with clock := max s.clock m, board := t.board, link := t.link } ∧
      s.boardKept t ∧ s.linkKept t ∧
      t.answers .queryArchive tag
        (match s.placing.archive.reverse[i.toNat]? with
          | some e => .accepted (.archiveReport e s.placing.archive.length
              (s.placing.linked && i.toNat == 0))
          | none => .refused .notFound)) ∧
    (∀ p, s.store.inForce = some p →
      ∃ t, exec (.profileRead m tag []) s = .next t ∧
        t = { s with clock := max s.clock m, board := t.board, link := t.link } ∧
        s.boardKept t ∧ s.linkKept t ∧ t.answers .profileRead tag (.accepted (.profile p)))

/-- ARM of a LOADED heat whose lanes are installed. With the timebase LOCKED, nothing in flight and
the board test off: ARMED with no mark, every entered lane in its cleared form and ENTERED, the setup
window closed, the scanner SETTLING for 200 ticks when N is even and left OFF when N is odd. It is
refused with NOT_READY unless the timebase is LOCKED, and then with BUSY while a write, a leveling or
a probe is in flight, and nothing changes. The model's choices: log entries 2, 6. -/
def Obligations.ArmMakesTheHeatReady : Prop :=
  (∀ (s : State) (p : Profile) (h : HeatRecord) (m : Nat) (tag : Byte), s.isRunning = true →
    s.linkReady → s.quietUntil m = true → s.store.inForce = some p → s.heat.current = some h →
    s.heat.race = .loaded →
    (∀ lane : Lane, h.enters lane = true → p.installed[lane] = true) →
    s.timebase.state = .locked → s.busy = false → s.board.test = false →
    ∃ t, exec (.arm m tag []) s = .next t ∧
      t = { s with
        clock := max s.clock m
        heat := { s.heat with race := .armed, setMark := none, startMark := none, guardEnd := none }
        lanes := t.lanes
        scanner :=
          if h.lengths % 2 = 0 then
            { s.scanner with
              state := .settling, settlingEnd := some (max s.clock m + 200) }
          else s.scanner
        store := { s.store with setupOpen := false }
        board := t.board, link := t.link } ∧
      (∀ lane : Lane, t.lanes[lane] =
        if h.enters lane then .cleared .entered (s.lanes[lane]).label else s.lanes[lane]) ∧
      s.boardKept t ∧ s.linkKept t ∧
      t.answers .arm tag (.accepted (.armed (decide (h.lengths % 2 = 0)))) ∧
      t.tells ⟨t.masterTime, .heatState .armed .loaded .arm (some (h.event, h.heat)) s.heat.flags
        none none⟩) ∧
  (∀ (s : State) (p : Profile) (h : HeatRecord) (m : Nat) (tag : Byte), s.isRunning = true →
    s.linkReady → s.quietUntil m = true → s.store.inForce = some p → s.heat.current = some h →
    s.heat.race = .loaded →
    (∀ lane : Lane, h.enters lane = true → p.installed[lane] = true) →
    (s.timebase.state ≠ .locked ∨ s.busy = true) →
    ∃ t, exec (.arm m tag []) s = .next t ∧
      t = { s with clock := max s.clock m, board := t.board, link := t.link } ∧
      s.boardKept t ∧ s.linkKept t ∧
      t.answers .arm tag
        (.refused (if s.timebase.state ≠ .locked then .notReady else .busy)))

/-- DISARM of an ARMED heat: LOADED without SET mark and guard, every entered lane IDLE in its cleared
form, the scanner OFF, the flags kept; a HOLDOVER whose count is full returns to LOCKED, with a
TIMEBASE notice of cause REFERENCE_RESTORED behind the HEAT_STATE notice. The model's choices: log
entries 2, 6. -/
def Obligations.DisarmReturnsToLoaded : Prop :=
  ∀ (s : State) (h : HeatRecord) (m : Nat) (tag : Byte), s.isRunning = true → s.linkReady →
    s.quietUntil m = true →
    s.heat.race = .armed → s.heat.current = some h →
    ∃ t, exec (.disarm m tag []) s = .next t ∧
      t = { s with
        clock := max s.clock m
        timebase :=
          if s.timebase.state = .holdover ∧ s.timebase.goodCount = 20000 then
            { s.timebase with state := .locked, steering := s.timebase.source == .external }
          else s.timebase
        heat := { s.heat with race := .loaded, setMark := none, guardEnd := none }
        lanes := t.lanes, scanner := t.scanner, board := t.board, link := t.link } ∧
      (∀ lane : Lane, t.lanes[lane] =
        if h.enters lane then .cleared .idle (s.lanes[lane]).label else s.lanes[lane]) ∧
      t.scanner.state = .off ∧ t.scanner.lastTest = s.scanner.lastTest ∧
      (∀ lane : Lane, t.scanner.channels[lane] = ⟨none, none, none⟩) ∧
      s.boardKept t ∧ s.linkKept t ∧ t.answers .disarm tag (.accepted .empty) ∧
      t.tells ⟨t.masterTime, .heatState .loaded .armed .disarm (some (h.event, h.heat)) s.heat.flags
        none none⟩ ∧
      (s.timebase.state = .holdover → s.timebase.goodCount = 20000 →
        [⟨t.masterTime, .heatState .loaded .armed .disarm (some (h.event, h.heat)) s.heat.flags
            none none⟩,
          ⟨t.masterTime, .timebase .locked .holdover s.timebase.source .referenceRestored⟩]
          <:+ t.told)

/-- CLOSE_LANE of a RACING lane: CLOSED, an open window discarded without derivation, the records
kept. With no departure counted the reaction is NOT_ON_PLATFORM, with a REACTION notice; PENDING
exchanges are settled UNJUDGED by LANE_CLOSED, with their EXCHANGE notices as the notify region lets
them through. While another lane goes on the heat stays RUNNING; of the last RACING lane it ends the
heat, with cause ALL_LANES_DONE. A HOLDOVER with a full count then returns to LOCKED. The model's
choices: log entries 2, 6. -/
def Obligations.CloseLaneDiscardsTheWindow : Prop :=
  (∀ (s : State) (h : HeatRecord) (m : Nat) (tag b : Byte) (lane other : Lane), s.isRunning = true →
    s.linkReady → s.quietUntil m = true → s.heat.race = .running → s.heat.current = some h →
    b.toNat = lane.val → (s.lanes[lane]).status = .racing →
    legsApart h false 0 (s.lanes[lane]).exchanges →
    other ≠ lane → h.enters other = true → (s.lanes[other]).status = .racing →
    ∃ t, exec (.closeLane m tag [b]) s = .next t ∧
      t = { s with
        clock := max s.clock m, lanes := t.lanes, board := t.board, link := t.link } ∧
      t.lanes[lane] =
        settledLane (arrivedLane { s.lanes[lane] with status := .closed, window := none }) ∧
      s.tellsAbsence lane t ∧ s.tellsSettled h lane .laneClosed t ∧
      (∀ l : Lane, l ≠ lane → t.lanes[l] = s.lanes[l]) ∧ s.boardKept t ∧ s.linkKept t ∧
      t.answers .closeLane tag (.accepted (.laneClosed lane .closed))) ∧
  (∀ (s : State) (h : HeatRecord) (m : Nat) (tag b : Byte) (lane : Lane), s.isRunning = true →
    s.linkReady → s.quietUntil m = true → s.heat.race = .running → s.heat.current = some h →
    b.toNat = lane.val → (s.lanes[lane]).status = .racing →
    legsApart h false 0 (s.lanes[lane]).exchanges →
    (∀ l : Lane, l ≠ lane → s.laneDone l) →
    ∃ t, exec (.closeLane m tag [b]) s = .next t ∧ t.clock = max s.clock m ∧ s.EndedFrom h t ∧
      t.lanes[lane] =
        settledLane (arrivedLane { s.lanes[lane] with status := .closed, window := none }) ∧
      s.tellsAbsence lane t ∧ s.tellsSettled h lane .laneClosed t ∧
      (∀ l : Lane, l ≠ lane → t.lanes[l] = s.lanes[l]) ∧ t.placing = s.placing ∧
      t.heat.flags = s.heat.flags ∧ s.HoldoverReturns t ∧ s.linkKept t ∧
      t.answers .closeLane tag (.accepted (.laneClosed lane .closed)) ∧
      t.tells ⟨t.masterTime, .heatState .judging .running .allLanesDone (some (h.event, h.heat))
        s.heat.flags none none⟩)

/-- NEXT_HEAT in OFFICIAL: every lane cleared, the place order empty, no frozen time, no override and
no hold, the board mode and the board test kept; the head of the queue becomes the current heat,
LOADED, its labels in the lane table, or with an empty queue the race is IDLE and no lane has a label.
The HEAT_STATE notice carries its numbers. The board makes a full pass, or goes on with its test. The
model's choices: log entries 2, 6, 39. -/
def Obligations.NextHeatMovesOn : Prop :=
  ∀ (s : State) (m : Nat) (tag : Byte), s.isRunning = true → s.linkReady → s.quietUntil m = true →
    s.heat.race = .official →
    ∃ t, exec (.nextHeat m tag []) s = .next t ∧
      t = { s with
        clock := max s.clock m
        heat :=
          { s.heat with
            race := if s.heat.queue = [] then .idle else .loaded
            current := s.heat.queue.head?, flags := .clear, queue := s.heat.queue.tail
            setMark := none, startMark := none, guardEnd := none }
        lanes := t.lanes
        placing := { s.placing with order := [], linked := false }
        board := t.board, link := t.link } ∧
      (∀ lane : Lane, t.lanes[lane] = .cleared .idle (labelFrom s.heat.queue.head? lane)) ∧
      t.board.hold = .none ∧ t.board.frozen = none ∧ t.board.override = none ∧
      t.board.mode = s.board.mode ∧ t.board.test = s.board.test ∧
      (s.board.mode.isSome = true → s.PassTaken t) ∧ s.linkKept t ∧
      t.answers .nextHeat tag
        (.accepted (.newCurrent (s.heat.queue.head?.map fun h => (h.event, h.heat)))) ∧
      t.tells ⟨t.masterTime, .heatState (if s.heat.queue = [] then .idle else .loaded) .official
        .nextHeat (s.heat.queue.head?.map fun h => (h.event, h.heat)) .clear none none⟩

/-- The four amendments, of a lane the heat has, in JUDGING, and in OFFICIAL while the lock is clear:
SET_TIME sets the time, the source MANUAL and FINISHED and drops the three time reasons; DQ and
REINSTATE set and clear the mark; CLEAR_REVIEW empties the reasons. The place order follows; places
that were those of the order still are, and a PLACES notice carries those that changed. The other
lanes keep everything but their place. In OFFICIAL the lane's revisions are counted, up to 255, and
the archive's linked entry takes the lane fields afresh, with its check value; in JUDGING no revision
is counted and the archive stays. In OFFICIAL with the lock set it is refused with LOCKED. The model's
choices: log entries 2, 6, 37. -/
def Obligations.AmendmentsInJudging : Prop :=
  (∀ (s : State) (kind : AmendKind) (m : Nat) (tag b : Byte) (lane : Lane) (time : BitVec 24),
    s.isRunning = true → s.linkReady → s.quietUntil m = true → b.toNat = lane.val →
    (s.lanes[lane]).status ≠ .idle → (kind = .setTime → time.toNat ≤ 359999) →
    (s.heat.race = .judging ∨ (s.heat.race = .official ∧ s.placing.locked = false)) →
    ∃ t, exec (amendCommand kind m tag b time) s = .next t ∧
      t = { s with
        clock := max s.clock m, lanes := t.lanes
        placing :=
          { s.placing with
            order := s.amendedOrder kind lane time.toNat
            archive := t.placing.archive, check := t.placing.check }
        board := t.board, link := t.link } ∧
      t.lanes[lane] =
        { amendedLane kind time.toNat s.lanes[lane] with
          place := (t.lanes[lane]).place
          revisions :=
            if s.heat.race = .official then min 255 ((s.lanes[lane]).revisions + 1)
            else (s.lanes[lane]).revisions } ∧
      (∀ l : Lane, l ≠ lane → t.lanes[l] = { s.lanes[l] with place := (t.lanes[l]).place }) ∧
      ((∀ l : Lane, (s.lanes[l]).place = placeIn s.placing.order l) →
        ∀ l : Lane, (t.lanes[l]).place = placeIn t.placing.order l) ∧
      (s.heat.race = .official ∧ s.placing.linked = true →
        t.placing.check = Config.checkValue t.placing.archive) ∧
      (s.heat.race = .official ∧ s.placing.linked = true →
        ∀ older newest, s.placing.archive = older ++ [newest] →
          t.placing.archive = older ++
            [{ newest with results := newest.results.map (revisedResult t.lanes) }]) ∧
      (¬(s.heat.race = .official ∧ s.placing.linked = true) →
        t.placing.archive = s.placing.archive ∧ t.placing.check = s.placing.check) ∧
      s.boardKept t ∧ s.linkKept t ∧
      t.answers .amend tag (.accepted (.amended t.lanes[lane]
        (if s.heat.race = .official then
          some ((t.lanes[lane]).revisions, s.placing.linked) else none))) ∧
      (placeChanges s.lanes t.lanes ≠ [] →
        t.tells ⟨t.masterTime, .places (.amendment lane kind) (placeChanges s.lanes t.lanes)
          t.placing.order.length⟩)) ∧
  (∀ (s : State) (kind : AmendKind) (m : Nat) (tag b : Byte) (time : BitVec 24),
    s.isRunning = true → s.linkReady → s.quietUntil m = true → b.toNat ≤ 9 →
    (kind = .setTime → time.toNat ≤ 359999) → s.heat.race = .official → s.placing.locked = true →
    ∃ t, exec (amendCommand kind m tag b time) s = .next t ∧
      t = { s with clock := max s.clock m, board := t.board, link := t.link } ∧
      s.boardKept t ∧ s.linkKept t ∧ t.answers .amend tag (.refused .locked))

/-- OFFICIALISE in JUDGING with no undisqualified lane under review: the heat is OFFICIAL and its
entry is the newest of the archive and linked; of 24 entries the oldest goes; the check value follows.
The model's choices: log entries 2, 6. -/
def Obligations.OfficialiseArchivesTheHeat : Prop :=
  ∀ (s : State) (h : HeatRecord) (m : Nat) (tag : Byte), s.isRunning = true → s.linkReady →
    s.quietUntil m = true →
    s.heat.race = .judging → s.heat.current = some h →
    (∀ lane : Lane, h.enters lane = true → (s.lanes[lane]).disqualified = false →
      (s.lanes[lane]).reasons.any = false) →
    ∃ t, exec (.officialise m tag []) s = .next t ∧
      t = { s with
        clock := max s.clock m
        heat := { s.heat with race := .official }
        placing :=
          { s.placing with
            archive :=
              (if s.placing.archive.length < 24 then s.placing.archive
                else s.placing.archive.drop 1) ++
                [⟨h.event, h.heat, h.lengths, h.relay, s.heat.flags, s.laneResults h⟩]
            check := Config.checkValue t.placing.archive
            linked := true }
        board := t.board, link := t.link } ∧
      s.boardKept t ∧ s.linkKept t ∧
      t.answers .officialise tag (.accepted (.officialised t.placing.archive.length
        (decide (24 ≤ s.placing.archive.length)))) ∧
      t.tells ⟨t.masterTime, .heatState .official .judging .officialise (some (h.event, h.heat))
        s.heat.flags none none⟩

/-- LOCK_RESULTS sets the lock whether or not it is set; ARCHIVE_CLEAR empties the archive and the
link while the lock is clear, and is refused with LOCKED while it is set. The model's choices: log
entries 2, 6. -/
def Obligations.LockGuardsTheArchive : Prop :=
  ∀ (s : State) (m : Nat) (tag : Byte), s.isRunning = true → s.linkReady → s.quietUntil m = true →
    (∃ t, exec (.lockResults m tag []) s = .next t ∧
      t = { s with
        clock := max s.clock m, placing := { s.placing with locked := true }
        board := t.board, link := t.link } ∧ s.boardKept t ∧ s.linkKept t ∧
      t.answers .lockResults tag (.accepted (.lockSet (!s.placing.locked)))) ∧
    (s.placing.locked = false →
      ∃ t, exec (.archiveClear m tag []) s = .next t ∧
        t = { s with
          clock := max s.clock m
          placing :=
            { s.placing with
              archive := [], check := Config.checkValue t.placing.archive, linked := false }
          board := t.board, link := t.link } ∧ s.boardKept t ∧ s.linkKept t ∧
        t.answers .archiveClear tag (.accepted (.cleared s.placing.archive.length))) ∧
    (s.placing.locked = true →
      ∃ t, exec (.archiveClear m tag []) s = .next t ∧
        t = { s with clock := max s.clock m, board := t.board, link := t.link } ∧
        s.boardKept t ∧ s.linkKept t ∧ t.answers .archiveClear tag (.refused .locked))

/-- The board's own requests, in every race state but where said: on a configured part BOARD_MODE sets
the mode in force, during the board test too (the model's choice, log entry 56), BOARD_TEST turns the
test off, and turns it on unless the race is ARMED or RUNNING, where it is refused with WRONG_STATE. A
change of mode makes a full pass in the new mode and drops what the old one held: the pending set and
the periodic pass, or the cursor and the slot. Test on drops both, and test frames begin at row 0, 250
ticks apart; test off makes a full pass in the mode in force. The mode in force given again, a mode
recorded during the test, and test on or off given again leave what the line sends as it is.
BOARD_TEXT needs no profile: a text of 1 to 32 printable characters is the override, a longer one is
cut to 32 and the reply says so, an empty one takes the override away, and one with a character that
is not printable is refused with BAD_FIELD 1. Nothing outside the board driver and the link changes.
The model's choices: log entries 2, 6, 19, 37, 56. -/
def Obligations.BoardRequestsSetTheBoard : Prop :=
  ∀ (s : State) (m : Nat) (tag : Byte), s.isRunning = true → s.linkReady → s.quietUntil m = true →
    (s.configured = true → ∀ mode : RefreshMode,
      ∃ t, exec (.boardMode m tag [refreshByte mode]) s = .next t ∧
        t = { s with clock := max s.clock m, board := t.board, link := t.link } ∧
        t.board.mode = some mode ∧ t.board.test = s.board.test ∧
        t.board.override = s.board.override ∧ t.board.hold = s.board.hold ∧
        t.board.frozen = s.board.frozen ∧ s.linkKept t ∧
        (s.board.mode ≠ some mode → s.board.test = false →
          t.PassMade s.board.line ∧
          (mode = .continuous → t.board.periodic = none ∧
            ∀ row : RowIx, t.board.pendingRows[row] = false) ∧
          (mode = .onChange →
            t.board.cursor = 0 ∧ t.board.nextSlot = none ∧ t.board.owed = none)) ∧
        (s.board.mode ≠ some mode → s.board.test = true → s.lineSettled → s.sendsKept t) ∧
        (s.board.mode = some mode → s.board.passDue = false → s.board.image = t.imageNow →
          s.lineSettled → s.sendsKept t) ∧
        t.answers .boardMode tag (.accepted (.boardMode (some mode)))) ∧
    (s.configured = true → s.armedOrRunning = false →
      ∃ t, exec (.boardTestOn m tag) s = .next t ∧
        t = { s with clock := max s.clock m, board := t.board, link := t.link } ∧
        t.board.test = true ∧ t.board.mode = s.board.mode ∧ t.board.override = s.board.override ∧
        t.board.hold = s.board.hold ∧ t.board.frozen = s.board.frozen ∧ s.linkKept t ∧
        (s.board.test = false →
          t.board.periodic = none ∧ (∀ row : RowIx, t.board.pendingRows[row] = false) ∧
          t.board.cursor = 1 ∧ t.board.nextSlot = some (t.clock + 250) ∧
          (s.board.line = none →
            t.board.line = some ⟨0, testRow, t.clock⟩ ∧ t.board.owed = none) ∧
          (∀ f, s.board.line = some f → t.board.line = some f ∧ t.board.owed = some 0)) ∧
        (s.board.test = true → s.lineSettled → s.sendsKept t) ∧
        t.answers .boardTest tag (.accepted (.boardTest true))) ∧
    (s.configured = true → s.armedOrRunning = true →
      ∃ t, exec (.boardTestOn m tag) s = .next t ∧
        t = { s with clock := max s.clock m, board := t.board, link := t.link } ∧
        s.boardKept t ∧ s.linkKept t ∧ t.answers .boardTest tag (.refused .wrongState)) ∧
    (s.configured = true →
      ∃ t, exec (.boardTestOff m tag) s = .next t ∧
        t = { s with clock := max s.clock m, board := t.board, link := t.link } ∧
        t.board.test = false ∧ t.board.mode = s.board.mode ∧ t.board.override = s.board.override ∧
        t.board.hold = s.board.hold ∧ t.board.frozen = s.board.frozen ∧ s.linkKept t ∧
        (s.board.test = true → s.board.mode.isSome = true → t.PassMade s.board.line ∧
          (s.board.mode = some .onChange →
            t.board.cursor = 0 ∧ t.board.nextSlot = none ∧ t.board.owed = none)) ∧
        (s.board.test = false → s.board.passDue = false → s.board.image = t.imageNow →
          s.lineSettled → s.sendsKept t) ∧
        t.answers .boardTest tag (.accepted (.boardTest false))) ∧
    (∀ (n : Byte) (text : Text), text.length = n.toNat → text.all isPrintable = true →
      ∃ t, exec (.boardText m tag (n :: text)) s = .next t ∧
        t = { s with clock := max s.clock m, board := t.board, link := t.link } ∧
        (text = [] → t.board.override = none) ∧
        (1 ≤ text.length → text.length ≤ 32 → t.board.override = some text) ∧
        (32 < text.length → t.board.override = some (text.take 32)) ∧
        t.board.mode = s.board.mode ∧ t.board.test = s.board.test ∧
        t.board.hold = s.board.hold ∧ t.board.frozen = s.board.frozen ∧ s.linkKept t ∧
        t.answers .boardText tag
          (.accepted (.boardText t.board.override (decide (32 < text.length))))) ∧
    (∀ (n : Byte) (text : Text), text.length = n.toNat → text.all isPrintable = false →
      ∃ t, exec (.boardText m tag (n :: text)) s = .next t ∧
        t = { s with clock := max s.clock m, board := t.board, link := t.link } ∧
        s.boardKept t ∧ s.linkKept t ∧ t.answers .boardText tag (.refused (.badField 1 none)))


/-- PROFILE_WRITE of a profile whose fields are in range, out of ARMED and RUNNING with nothing in
flight. Unprotected: the write is in flight for 400 ticks, the store holds no valid content meanwhile,
and the profile in force stays. In COMPETITION mode with the setup window closed, one that changes the
course, the installed lanes or the source is refused with PROTECTED, naming the first of them (R190).
The model's choices: log entries 2, 6. -/
def Obligations.ProfileWriteStartsOrIsProtected : Prop :=
  (∀ (s : State) (m : Nat) (tag : Byte) (payload : List Byte), s.isRunning = true → s.linkReady →
    s.quietUntil m = true →
    profileFault payload = none → s.armedOrRunning = false → s.busy = false →
    (s.store.mode = .service ∨ s.store.setupOpen = true ∨
      ∀ p, s.store.inForce = some p →
        p.course = (profileOf payload).course ∧ p.installed = (profileOf payload).installed ∧
          p.source = (profileOf payload).source) →
    ∃ t, exec (.profileWrite m tag payload) s = .next t ∧
      t = { s with
        clock := max s.clock m
        store :=
          { s.store with
            stored := none
            write := some ⟨profileOf payload, max s.clock m + 400, false⟩ }
        board := t.board, link := t.link } ∧
      s.boardKept t ∧ s.linkKept t ∧ t.answers .profileWrite tag (.accepted .empty)) ∧
  (∀ (s : State) (p : Profile) (m : Nat) (tag : Byte) (payload : List Byte), s.isRunning = true →
    s.linkReady → s.quietUntil m = true → profileFault payload = none → s.armedOrRunning = false →
    s.busy = false →
    s.store.mode = .competition → s.store.setupOpen = false → s.store.inForce = some p →
    (p.course ≠ (profileOf payload).course ∨ p.installed ≠ (profileOf payload).installed ∨
      p.source ≠ (profileOf payload).source) →
    ∃ t, exec (.profileWrite m tag payload) s = .next t ∧
      t = { s with clock := max s.clock m, board := t.board, link := t.link } ∧
      s.boardKept t ∧ s.linkKept t ∧
      t.answers .profileWrite tag (.refused (.guarded (some
        (if p.course ≠ (profileOf payload).course then 1
          else if p.installed ≠ (profileOf payload).installed then 2 else 3)))))

/-- LEVEL_PADS and PROBE_BLOCKS in SERVICE mode, in IDLE or LOADED, with nothing in flight and the
timebase not UNLOCKED: leveling begins with the first installed pad's turn and no result; the scanner
settles for 200 ticks for the probe, which is answered later. The model's choices: log entries 2, 6.
-/
def Obligations.ServiceProceduresBegin : Prop :=
  ∀ (s : State) (m : Nat) (tag : Byte), s.isRunning = true → s.linkReady → s.quietUntil m = true →
    s.store.mode = .service → (s.heat.race = .idle ∨ s.heat.race = .loaded) → s.busy = false →
    s.timebase.state ≠ .unlocked →
    (∀ (p : Profile) (pad : PadIx) (rest : List PadIx), s.store.inForce = some p →
      installedPads p = pad :: rest →
      ∃ t, exec (.levelPads m tag []) s = .next t ∧
        t = { s with
          clock := max s.clock m
          wall :=
            { s.wall with
              results := []
              level := .measuring pad
                (match (s.wall.pads[pad]).level with
                  | .opened => .driving (max s.clock m) none
                  | .closed => .waiting (max s.clock m)) rest }
          board := t.board, link := t.link } ∧ s.boardKept t ∧ s.linkKept t ∧
        t.answers .levelPads tag (.accepted (.leveling (rest.length + 1)))) ∧
    (∃ t, exec (.probeBlocks m tag []) s = .next t ∧
      t = { s with
        clock := max s.clock m
        scanner := t.scanner, board := t.board, link := t.link } ∧
      t.scanner.state = .settling ∧ t.scanner.settlingEnd = some (max s.clock m + 200) ∧
      t.scanner.probe = some tag ∧ t.scanner.channels = s.scanner.channels ∧
      s.boardKept t ∧ s.linkKept t ∧ (s.link.line ≠ none → t.link.replies = s.link.replies))

/-- RESTART is accepted in every state: nothing changes but that no further request is executed, and
its reply is made. The receiver, the discard count and the notices stay; with the line taken the rest
of the link stays too, but for the reply behind those that wait. The model's choices: log entries 2,
6. -/
def Obligations.RestartStopsExecution : Prop :=
  ∀ (s : State) (m : Nat) (tag : Byte), s.isRunning = true → s.linkReady → s.quietUntil m = true →
    ∃ t, exec (.restart m tag []) s = .next t ∧
      t = { s with clock := max s.clock m, board := t.board, link := t.link } ∧
      t.link.restarting = true ∧ t.link.buffer = [] ∧ s.boardKept t ∧
      t.link.held = s.link.held ∧ t.link.lastByte = s.link.lastByte ∧
      t.link.discards = s.link.discards ∧
      (s.link.fresh = 0 → s.link.line ≠ none →
        t.link =
          { s.link with
            restarting := true
            replies := s.link.replies ++ [⟨.execution, some .restart, tag, .accepted .empty⟩] }) ∧
      (s.link.fresh = 0 → s.link.line = none →
        t.link.notices = s.link.notices ∧ t.link.gap = s.link.gap) ∧
      t.answers .restart tag (.accepted .empty)

/-! ### Places, values and layouts -/

/-- Places (R138): with the order recomputed, a lane in the order has one plus the number of entries
whose hundredths are strictly smaller than its own, and a lane not in it has no place. -/
def Obligations.PlaceCountsSmallerTimes : Prop :=
  ∀ (order : List (Lane × Nat)) (s : State) (lane : Lane),
    (order.map (·.1)).Nodup →
    (∀ n, (lane, n) ∈ order →
      ((s.setOrder order).lanes[lane]).place =
        some (1 + (order.filter fun e => decide (e.2 < n)).length)) ∧
    ((∀ n, (lane, n) ∉ order) → ((s.setOrder order).lanes[lane]).place = none)

/-- The order stays sorted by hundredths and then by lane, with each lane once, when a lane takes its
position in it (R137, R139). -/
def Obligations.InsertionKeepsTheOrder : Prop :=
  ∀ (order : List (Lane × Nat)) (lane : Lane) (n : Nat),
    order.Pairwise (fun a b => a.2 < b.2 ∨ (a.2 = b.2 ∧ a.1 < b.1)) → (order.map (·.1)).Nodup →
    (insertOrder (lane, n) (removeOrder lane order)).Pairwise
        (fun a b => a.2 < b.2 ∨ (a.2 = b.2 ∧ a.1 < b.1)) ∧
      ((insertOrder (lane, n) (removeOrder lane order)).map (·.1)).Nodup ∧
      ∀ e, e ∈ insertOrder (lane, n) (removeOrder lane order) ↔
        e = (lane, n) ∨ (e ∈ order ∧ e.1 ≠ lane)

/-- Signed hundredths (R15): the largest whole number not greater than the value over 100, held within
-999 to +999, with CLAMPED exactly when it had to be held. -/
def Obligations.SignedHundredthsRoundDown : Prop :=
  ∀ (ticks q : Int), 100 * q ≤ ticks → ticks < 100 * q + 100 →
    (-999 ≤ q → q ≤ 999 → signedHundredths ticks = q ∧ clamped ticks = false) ∧
    (q < -999 → signedHundredths ticks = -999 ∧ clamped ticks = true) ∧
    (999 < q → signedHundredths ticks = 999 ∧ clamped ticks = true)

/-- LOAD_HEAT's payload carries every field of a heat record: of a record the part may hold, the
payload passes every check and reads back as the same record. -/
def Obligations.HeatPayloadRoundTrip : Prop :=
  ∀ (installed : Vector Bool 10) (h : HeatRecord), h.valid installed = true →
    heatFault installed (heatPayload h) = none ∧ heatOf h.course (heatPayload h) = h

/-- PROFILE_WRITE's payload carries every field of a profile: of a profile in range, the payload
passes every check and reads back as the same profile. -/
def Obligations.ProfilePayloadRoundTrip : Prop :=
  ∀ q : Profile, q.inRange = true →
    profileFault (profilePayload q) = none ∧ profileOf (profilePayload q) = q

/-! ### Laws of the whole part -/

/-- The part after reset keeps the laws and the bounds. The model's choices: log entries 3, 4. -/
def Obligations.ResetKeepsTheLaws : Prop := State.reset.Lawful ∧ State.reset.Bounded

/-- Every step keeps law 9 and the laws of the current heat and the queue. The model's choices: log
entry 5. -/
def Obligations.EveryStepKeepsTheLaws : Prop :=
  ∀ s t : State, s.Lawful → step s = .next t → t.Lawful

/-- Every step keeps the part's lists within their sizes. The model's choices: log entry 5. -/
def Obligations.EveryStepKeepsTheBounds : Prop :=
  ∀ s t : State, s.Bounded → step s = .next t → t.Bounded

/-- Between resets the results lock, once set, stays set (law 12, R152), and master time never
decreases (R1). The model's choices: log entries 5, 7. -/
def Obligations.LockAndMasterTimeNeverGoBack : Prop :=
  (∀ s t : State, s.isRunning = true → s.placing.locked = true → step s = .next t →
    t.isRunning = true → t.placing.locked = true) ∧
  (∀ s t : State, s.isRunning = true → step s = .next t → t.isRunning = true →
    s.masterTime ≤ t.masterTime)
end

