-- ==== Sys2Proof/Laws/Frames.lean ====
section
/-!
SUPPORT. What each shared operation leaves alone: one lemma an operation, a field a conjunct. `simp` takes
the conjuncts one by one, so no later proof unfolds an operation to see that a field has stayed.
-/

namespace Sys2Proof.Machine

/-- A fold whose every step keeps a value keeps it. -/
theorem foldl_kept {α β γ : Type} (g : α → γ) (f : α → β → α) (hf : ∀ a b, g (f a b) = g a) (l : List β)
    (a : α) : g (l.foldl f a) = g a := by
  induction l generalizing a with
  | nil => rfl
  | cons b l ih => simp [List.foldl_cons, ih, hf]

@[simp] theorem State.advance_frame (m : Nat) (s : State) :
    (s.advance m).power = s.power ∧ (s.advance m).standbyLatch = s.standbyLatch ∧
      (s.advance m).timebase = s.timebase ∧ (s.advance m).heat = s.heat ∧
      (s.advance m).wall = s.wall ∧ (s.advance m).lanes = s.lanes ∧
      (s.advance m).scanner = s.scanner ∧ (s.advance m).placing = s.placing ∧
      (s.advance m).board = s.board ∧ (s.advance m).store = s.store ∧
      (s.advance m).link = s.link ∧ (s.advance m).pending = s.pending := by
  simp [State.advance]

@[simp] theorem State.updLane_frame (lane : Lane) (f : LaneRecord → LaneRecord) (s : State) :
    (s.updLane lane f).power = s.power ∧ (s.updLane lane f).standbyLatch = s.standbyLatch ∧
      (s.updLane lane f).clock = s.clock ∧ (s.updLane lane f).timebase = s.timebase ∧
      (s.updLane lane f).heat = s.heat ∧ (s.updLane lane f).wall = s.wall ∧
      (s.updLane lane f).scanner = s.scanner ∧ (s.updLane lane f).placing = s.placing ∧
      (s.updLane lane f).board = s.board ∧ (s.updLane lane f).store = s.store ∧
      (s.updLane lane f).link = s.link ∧ (s.updLane lane f).pending = s.pending := by
  simp [State.updLane]

@[simp] theorem State.notify_frame (body : NoticeBody) (s : State) :
    (s.notify body).power = s.power ∧ (s.notify body).standbyLatch = s.standbyLatch ∧
      (s.notify body).clock = s.clock ∧ (s.notify body).timebase = s.timebase ∧
      (s.notify body).heat = s.heat ∧ (s.notify body).wall = s.wall ∧
      (s.notify body).lanes = s.lanes ∧ (s.notify body).scanner = s.scanner ∧
      (s.notify body).placing = s.placing ∧ (s.notify body).board = s.board ∧
      (s.notify body).store = s.store ∧ (s.notify body).pending = s.pending := by
  unfold State.notify; repeat' split
  all_goals simp

@[simp] theorem State.pushReply_frame (r : Reply) (s : State) :
    (s.pushReply r).power = s.power ∧ (s.pushReply r).standbyLatch = s.standbyLatch ∧
      (s.pushReply r).clock = s.clock ∧ (s.pushReply r).timebase = s.timebase ∧
      (s.pushReply r).heat = s.heat ∧ (s.pushReply r).wall = s.wall ∧
      (s.pushReply r).lanes = s.lanes ∧ (s.pushReply r).scanner = s.scanner ∧
      (s.pushReply r).placing = s.placing ∧ (s.pushReply r).board = s.board ∧
      (s.pushReply r).store = s.store ∧ (s.pushReply r).pending = s.pending := by
  simp [State.pushReply]

@[simp] theorem State.discard_frame (n : Nat) (s : State) :
    (s.discard n).power = s.power ∧ (s.discard n).standbyLatch = s.standbyLatch ∧
      (s.discard n).clock = s.clock ∧ (s.discard n).timebase = s.timebase ∧
      (s.discard n).heat = s.heat ∧ (s.discard n).wall = s.wall ∧
      (s.discard n).lanes = s.lanes ∧ (s.discard n).scanner = s.scanner ∧
      (s.discard n).placing = s.placing ∧ (s.discard n).board = s.board ∧
      (s.discard n).store = s.store ∧ (s.discard n).pending = s.pending := by
  simp [State.discard]

@[simp] theorem State.notifyHeat_frame (previous : RaceState) (cause : HeatCause) (s : State) :
    (s.notifyHeat previous cause).power = s.power ∧ (s.notifyHeat previous cause).standbyLatch = s.standbyLatch ∧
      (s.notifyHeat previous cause).clock = s.clock ∧ (s.notifyHeat previous cause).timebase = s.timebase ∧
      (s.notifyHeat previous cause).heat = s.heat ∧ (s.notifyHeat previous cause).wall = s.wall ∧
      (s.notifyHeat previous cause).lanes = s.lanes ∧ (s.notifyHeat previous cause).scanner = s.scanner ∧
      (s.notifyHeat previous cause).placing = s.placing ∧ (s.notifyHeat previous cause).board = s.board ∧
      (s.notifyHeat previous cause).store = s.store ∧ (s.notifyHeat previous cause).pending = s.pending := by
  simp [State.notifyHeat]

@[simp] theorem State.notifyTimebase_frame (previous : TimebaseState) (cause : TimebaseCause) (s : State) :
    (s.notifyTimebase previous cause).power = s.power ∧ (s.notifyTimebase previous cause).standbyLatch = s.standbyLatch ∧
      (s.notifyTimebase previous cause).clock = s.clock ∧ (s.notifyTimebase previous cause).timebase = s.timebase ∧
      (s.notifyTimebase previous cause).heat = s.heat ∧ (s.notifyTimebase previous cause).wall = s.wall ∧
      (s.notifyTimebase previous cause).lanes = s.lanes ∧ (s.notifyTimebase previous cause).scanner = s.scanner ∧
      (s.notifyTimebase previous cause).placing = s.placing ∧ (s.notifyTimebase previous cause).board = s.board ∧
      (s.notifyTimebase previous cause).store = s.store ∧ (s.notifyTimebase previous cause).pending = s.pending := by
  simp [State.notifyTimebase]

@[simp] theorem State.enterAcquiring_frame (s : State) :
    (s.enterAcquiring).power = s.power ∧ (s.enterAcquiring).standbyLatch = s.standbyLatch ∧
      (s.enterAcquiring).clock = s.clock ∧ (s.enterAcquiring).heat = s.heat ∧
      (s.enterAcquiring).wall = s.wall ∧ (s.enterAcquiring).lanes = s.lanes ∧
      (s.enterAcquiring).scanner = s.scanner ∧ (s.enterAcquiring).placing = s.placing ∧
      (s.enterAcquiring).board = s.board ∧ (s.enterAcquiring).store = s.store ∧
      (s.enterAcquiring).link = s.link ∧ (s.enterAcquiring).pending = s.pending := by
  simp [State.enterAcquiring]

@[simp] theorem State.enterLocked_frame (cause : TimebaseCause) (s : State) :
    (s.enterLocked cause).power = s.power ∧ (s.enterLocked cause).standbyLatch = s.standbyLatch ∧
      (s.enterLocked cause).clock = s.clock ∧ (s.enterLocked cause).heat = s.heat ∧
      (s.enterLocked cause).wall = s.wall ∧ (s.enterLocked cause).lanes = s.lanes ∧
      (s.enterLocked cause).scanner = s.scanner ∧ (s.enterLocked cause).placing = s.placing ∧
      (s.enterLocked cause).board = s.board ∧ (s.enterLocked cause).store = s.store ∧
      (s.enterLocked cause).pending = s.pending := by
  simp [State.enterLocked]

@[simp] theorem State.holdoverReturn_frame (s : State) :
    (s.holdoverReturn).power = s.power ∧ (s.holdoverReturn).standbyLatch = s.standbyLatch ∧
      (s.holdoverReturn).clock = s.clock ∧ (s.holdoverReturn).heat = s.heat ∧
      (s.holdoverReturn).wall = s.wall ∧ (s.holdoverReturn).lanes = s.lanes ∧
      (s.holdoverReturn).scanner = s.scanner ∧ (s.holdoverReturn).placing = s.placing ∧
      (s.holdoverReturn).board = s.board ∧ (s.holdoverReturn).store = s.store ∧
      (s.holdoverReturn).pending = s.pending := by
  unfold State.holdoverReturn; repeat' split
  all_goals simp

@[simp] theorem State.goodWindowEnd_frame (s : State) :
    (s.goodWindowEnd).power = s.power ∧ (s.goodWindowEnd).standbyLatch = s.standbyLatch ∧
      (s.goodWindowEnd).clock = s.clock ∧ (s.goodWindowEnd).heat = s.heat ∧
      (s.goodWindowEnd).wall = s.wall ∧ (s.goodWindowEnd).lanes = s.lanes ∧
      (s.goodWindowEnd).scanner = s.scanner ∧ (s.goodWindowEnd).placing = s.placing ∧
      (s.goodWindowEnd).board = s.board ∧ (s.goodWindowEnd).store = s.store ∧
      (s.goodWindowEnd).pending = s.pending := by
  unfold State.goodWindowEnd
  refine ⟨?_, ?_, ?_, ?_, ?_, ?_, ?_, ?_, ?_, ?_, ?_⟩ <;>
    (try simp) <;> (repeat' split) <;> (try simp)

@[simp] theorem State.badWindowEnd_frame (s : State) :
    (s.badWindowEnd).power = s.power ∧ (s.badWindowEnd).standbyLatch = s.standbyLatch ∧
      (s.badWindowEnd).clock = s.clock ∧ (s.badWindowEnd).wall = s.wall ∧
      (s.badWindowEnd).lanes = s.lanes ∧ (s.badWindowEnd).scanner = s.scanner ∧
      (s.badWindowEnd).placing = s.placing ∧ (s.badWindowEnd).board = s.board ∧
      (s.badWindowEnd).store = s.store ∧ (s.badWindowEnd).pending = s.pending := by
  unfold State.badWindowEnd; repeat' split
  all_goals simp

@[simp] theorem State.judgeWindow_frame (cycles : Nat) (s : State) :
    (s.judgeWindow cycles).power = s.power ∧ (s.judgeWindow cycles).standbyLatch = s.standbyLatch ∧
      (s.judgeWindow cycles).clock = s.clock ∧ (s.judgeWindow cycles).wall = s.wall ∧
      (s.judgeWindow cycles).lanes = s.lanes ∧ (s.judgeWindow cycles).scanner = s.scanner ∧
      (s.judgeWindow cycles).placing = s.placing ∧ (s.judgeWindow cycles).board = s.board ∧
      (s.judgeWindow cycles).store = s.store ∧ (s.judgeWindow cycles).pending = s.pending := by
  unfold State.judgeWindow; repeat' split
  all_goals simp

@[simp] theorem State.changeSource_frame (source : TimeSource) (s : State) :
    (s.changeSource source).power = s.power ∧ (s.changeSource source).standbyLatch = s.standbyLatch ∧
      (s.changeSource source).clock = s.clock ∧ (s.changeSource source).heat = s.heat ∧
      (s.changeSource source).wall = s.wall ∧ (s.changeSource source).lanes = s.lanes ∧
      (s.changeSource source).scanner = s.scanner ∧ (s.changeSource source).placing = s.placing ∧
      (s.changeSource source).board = s.board ∧ (s.changeSource source).store = s.store ∧
      (s.changeSource source).pending = s.pending := by
  unfold State.changeSource; repeat' split
  all_goals simp

@[simp] theorem State.powerScanner_frame (s : State) :
    (s.powerScanner).power = s.power ∧ (s.powerScanner).standbyLatch = s.standbyLatch ∧
      (s.powerScanner).clock = s.clock ∧ (s.powerScanner).timebase = s.timebase ∧
      (s.powerScanner).heat = s.heat ∧ (s.powerScanner).wall = s.wall ∧
      (s.powerScanner).lanes = s.lanes ∧ (s.powerScanner).placing = s.placing ∧
      (s.powerScanner).board = s.board ∧ (s.powerScanner).store = s.store ∧
      (s.powerScanner).link = s.link ∧ (s.powerScanner).pending = s.pending := by
  simp [State.powerScanner]

@[simp] theorem State.scannerOff_frame (s : State) :
    (s.scannerOff).power = s.power ∧ (s.scannerOff).standbyLatch = s.standbyLatch ∧
      (s.scannerOff).clock = s.clock ∧ (s.scannerOff).timebase = s.timebase ∧
      (s.scannerOff).heat = s.heat ∧ (s.scannerOff).wall = s.wall ∧
      (s.scannerOff).lanes = s.lanes ∧ (s.scannerOff).placing = s.placing ∧
      (s.scannerOff).board = s.board ∧ (s.scannerOff).store = s.store ∧
      (s.scannerOff).link = s.link ∧ (s.scannerOff).pending = s.pending := by
  simp [State.scannerOff]

@[simp] theorem State.beginScanning_frame (s : State) :
    (s.beginScanning).power = s.power ∧ (s.beginScanning).standbyLatch = s.standbyLatch ∧
      (s.beginScanning).clock = s.clock ∧ (s.beginScanning).timebase = s.timebase ∧
      (s.beginScanning).heat = s.heat ∧ (s.beginScanning).wall = s.wall ∧
      (s.beginScanning).lanes = s.lanes ∧ (s.beginScanning).placing = s.placing ∧
      (s.beginScanning).board = s.board ∧ (s.beginScanning).store = s.store ∧
      (s.beginScanning).link = s.link ∧ (s.beginScanning).pending = s.pending := by
  simp [State.beginScanning]

@[simp] theorem State.takeReading_frame (p : Profile) (lane : Lane) (r : Reading) (time : Nat) (s : State) :
    (s.takeReading p lane r time).power = s.power ∧ (s.takeReading p lane r time).standbyLatch = s.standbyLatch ∧
      (s.takeReading p lane r time).clock = s.clock ∧ (s.takeReading p lane r time).timebase = s.timebase ∧
      (s.takeReading p lane r time).heat = s.heat ∧ (s.takeReading p lane r time).wall = s.wall ∧
      (s.takeReading p lane r time).lanes = s.lanes ∧ (s.takeReading p lane r time).placing = s.placing ∧
      (s.takeReading p lane r time).board = s.board ∧ (s.takeReading p lane r time).store = s.store ∧
      (s.takeReading p lane r time).link = s.link ∧ (s.takeReading p lane r time).pending = s.pending := by
  simp [State.takeReading]

@[simp] theorem State.takeProbeReading_frame (lane : Lane) (r : Reading) (s : State) :
    (s.takeProbeReading lane r).power = s.power ∧ (s.takeProbeReading lane r).standbyLatch = s.standbyLatch ∧
      (s.takeProbeReading lane r).clock = s.clock ∧ (s.takeProbeReading lane r).timebase = s.timebase ∧
      (s.takeProbeReading lane r).heat = s.heat ∧ (s.takeProbeReading lane r).wall = s.wall ∧
      (s.takeProbeReading lane r).lanes = s.lanes ∧ (s.takeProbeReading lane r).placing = s.placing ∧
      (s.takeProbeReading lane r).board = s.board ∧ (s.takeProbeReading lane r).store = s.store ∧
      (s.takeProbeReading lane r).link = s.link ∧ (s.takeProbeReading lane r).pending = s.pending := by
  unfold State.takeProbeReading; repeat' split
  all_goals simp

@[simp] theorem State.endProbe_frame (complete : Bool) (s : State) :
    (s.endProbe complete).power = s.power ∧ (s.endProbe complete).standbyLatch = s.standbyLatch ∧
      (s.endProbe complete).clock = s.clock ∧ (s.endProbe complete).timebase = s.timebase ∧
      (s.endProbe complete).heat = s.heat ∧ (s.endProbe complete).wall = s.wall ∧
      (s.endProbe complete).lanes = s.lanes ∧ (s.endProbe complete).placing = s.placing ∧
      (s.endProbe complete).board = s.board ∧ (s.endProbe complete).store = s.store ∧
      (s.endProbe complete).pending = s.pending := by
  unfold State.endProbe; repeat' split
  all_goals simp

@[simp] theorem State.setStartLoads_frame (s : State) :
    (s.setStartLoads).power = s.power ∧ (s.setStartLoads).standbyLatch = s.standbyLatch ∧
      (s.setStartLoads).clock = s.clock ∧ (s.setStartLoads).timebase = s.timebase ∧
      (s.setStartLoads).heat = s.heat ∧ (s.setStartLoads).wall = s.wall ∧
      (s.setStartLoads).lanes = s.lanes ∧ (s.setStartLoads).placing = s.placing ∧
      (s.setStartLoads).board = s.board ∧ (s.setStartLoads).store = s.store ∧
      (s.setStartLoads).link = s.link ∧ (s.setStartLoads).pending = s.pending := by
  simp [State.setStartLoads]

@[simp] theorem State.setOrder_frame (order : List (Lane × Nat)) (s : State) :
    (s.setOrder order).power = s.power ∧ (s.setOrder order).standbyLatch = s.standbyLatch ∧
      (s.setOrder order).clock = s.clock ∧ (s.setOrder order).timebase = s.timebase ∧
      (s.setOrder order).heat = s.heat ∧ (s.setOrder order).wall = s.wall ∧
      (s.setOrder order).scanner = s.scanner ∧ (s.setOrder order).board = s.board ∧
      (s.setOrder order).store = s.store ∧ (s.setOrder order).link = s.link ∧
      (s.setOrder order).pending = s.pending := by
  simp [State.setOrder]

@[simp] theorem State.notifyPlaces_frame (cause : PlacesCause) (before : Vector LaneRecord 10) (s : State) :
    (s.notifyPlaces cause before).power = s.power ∧ (s.notifyPlaces cause before).standbyLatch = s.standbyLatch ∧
      (s.notifyPlaces cause before).clock = s.clock ∧ (s.notifyPlaces cause before).timebase = s.timebase ∧
      (s.notifyPlaces cause before).heat = s.heat ∧ (s.notifyPlaces cause before).wall = s.wall ∧
      (s.notifyPlaces cause before).lanes = s.lanes ∧ (s.notifyPlaces cause before).scanner = s.scanner ∧
      (s.notifyPlaces cause before).placing = s.placing ∧ (s.notifyPlaces cause before).board = s.board ∧
      (s.notifyPlaces cause before).store = s.store ∧ (s.notifyPlaces cause before).pending = s.pending := by
  unfold State.notifyPlaces; repeat' split
  all_goals simp

@[simp] theorem State.reorder_frame (cause : PlacesCause) (order : List (Lane × Nat)) (s : State) :
    (s.reorder cause order).power = s.power ∧ (s.reorder cause order).standbyLatch = s.standbyLatch ∧
      (s.reorder cause order).clock = s.clock ∧ (s.reorder cause order).timebase = s.timebase ∧
      (s.reorder cause order).heat = s.heat ∧ (s.reorder cause order).wall = s.wall ∧
      (s.reorder cause order).scanner = s.scanner ∧ (s.reorder cause order).board = s.board ∧
      (s.reorder cause order).store = s.store ∧ (s.reorder cause order).pending = s.pending := by
  simp [State.reorder]

@[simp] theorem State.placeFinish_frame (lane : Lane) (official : Nat) (s : State) :
    (s.placeFinish lane official).power = s.power ∧ (s.placeFinish lane official).standbyLatch = s.standbyLatch ∧
      (s.placeFinish lane official).clock = s.clock ∧ (s.placeFinish lane official).timebase = s.timebase ∧
      (s.placeFinish lane official).heat = s.heat ∧ (s.placeFinish lane official).wall = s.wall ∧
      (s.placeFinish lane official).scanner = s.scanner ∧ (s.placeFinish lane official).board = s.board ∧
      (s.placeFinish lane official).store = s.store ∧ (s.placeFinish lane official).pending = s.pending := by
  simp [State.placeFinish]

@[simp] theorem State.setArchive_frame (archive : List ArchiveEntry) (linked : Bool) (s : State) :
    (s.setArchive archive linked).power = s.power ∧ (s.setArchive archive linked).standbyLatch = s.standbyLatch ∧
      (s.setArchive archive linked).clock = s.clock ∧ (s.setArchive archive linked).timebase = s.timebase ∧
      (s.setArchive archive linked).heat = s.heat ∧ (s.setArchive archive linked).wall = s.wall ∧
      (s.setArchive archive linked).lanes = s.lanes ∧ (s.setArchive archive linked).scanner = s.scanner ∧
      (s.setArchive archive linked).board = s.board ∧ (s.setArchive archive linked).store = s.store ∧
      (s.setArchive archive linked).link = s.link ∧ (s.setArchive archive linked).pending = s.pending := by
  simp [State.setArchive]

@[simp] theorem State.revise_frame (lane : Lane) (s : State) :
    (s.revise lane).power = s.power ∧ (s.revise lane).standbyLatch = s.standbyLatch ∧
      (s.revise lane).clock = s.clock ∧ (s.revise lane).timebase = s.timebase ∧
      (s.revise lane).heat = s.heat ∧ (s.revise lane).wall = s.wall ∧
      (s.revise lane).scanner = s.scanner ∧ (s.revise lane).board = s.board ∧
      (s.revise lane).store = s.store ∧ (s.revise lane).link = s.link ∧
      (s.revise lane).pending = s.pending := by
  unfold State.revise
  refine ⟨?_, ?_, ?_, ?_, ?_, ?_, ?_, ?_, ?_, ?_, ?_⟩ <;>
    (try simp) <;> (repeat' split) <;> (try simp)

@[simp] theorem State.amendTime_frame (lane : Lane) (h : Nat) (s : State) :
    (s.amendTime lane h).power = s.power ∧ (s.amendTime lane h).standbyLatch = s.standbyLatch ∧
      (s.amendTime lane h).clock = s.clock ∧ (s.amendTime lane h).timebase = s.timebase ∧
      (s.amendTime lane h).heat = s.heat ∧ (s.amendTime lane h).wall = s.wall ∧
      (s.amendTime lane h).scanner = s.scanner ∧ (s.amendTime lane h).board = s.board ∧
      (s.amendTime lane h).store = s.store ∧ (s.amendTime lane h).link = s.link ∧
      (s.amendTime lane h).pending = s.pending := by
  unfold State.amendTime; repeat' split
  all_goals simp

@[simp] theorem State.amendDq_frame (lane : Lane) (s : State) :
    (s.amendDq lane).power = s.power ∧ (s.amendDq lane).standbyLatch = s.standbyLatch ∧
      (s.amendDq lane).clock = s.clock ∧ (s.amendDq lane).timebase = s.timebase ∧
      (s.amendDq lane).heat = s.heat ∧ (s.amendDq lane).wall = s.wall ∧
      (s.amendDq lane).scanner = s.scanner ∧ (s.amendDq lane).board = s.board ∧
      (s.amendDq lane).store = s.store ∧ (s.amendDq lane).link = s.link ∧
      (s.amendDq lane).pending = s.pending := by
  unfold State.amendDq; repeat' split
  all_goals simp

@[simp] theorem State.amendReinstate_frame (lane : Lane) (s : State) :
    (s.amendReinstate lane).power = s.power ∧ (s.amendReinstate lane).standbyLatch = s.standbyLatch ∧
      (s.amendReinstate lane).clock = s.clock ∧ (s.amendReinstate lane).timebase = s.timebase ∧
      (s.amendReinstate lane).heat = s.heat ∧ (s.amendReinstate lane).wall = s.wall ∧
      (s.amendReinstate lane).scanner = s.scanner ∧ (s.amendReinstate lane).board = s.board ∧
      (s.amendReinstate lane).store = s.store ∧ (s.amendReinstate lane).link = s.link ∧
      (s.amendReinstate lane).pending = s.pending := by
  unfold State.amendReinstate
  refine ⟨?_, ?_, ?_, ?_, ?_, ?_, ?_, ?_, ?_, ?_, ?_⟩ <;>
    (try simp) <;> (repeat' split) <;> (try simp)

@[simp] theorem State.amendClearReview_frame (lane : Lane) (s : State) :
    (s.amendClearReview lane).power = s.power ∧ (s.amendClearReview lane).standbyLatch = s.standbyLatch ∧
      (s.amendClearReview lane).clock = s.clock ∧ (s.amendClearReview lane).timebase = s.timebase ∧
      (s.amendClearReview lane).heat = s.heat ∧ (s.amendClearReview lane).wall = s.wall ∧
      (s.amendClearReview lane).scanner = s.scanner ∧ (s.amendClearReview lane).placing = s.placing ∧
      (s.amendClearReview lane).board = s.board ∧ (s.amendClearReview lane).store = s.store ∧
      (s.amendClearReview lane).link = s.link ∧ (s.amendClearReview lane).pending = s.pending := by
  simp [State.amendClearReview]

@[simp] theorem State.amendChange_frame (kind : AmendKind) (lane : Lane) (time : Nat) (s : State) :
    (s.amendChange kind lane time).power = s.power ∧ (s.amendChange kind lane time).standbyLatch = s.standbyLatch ∧
      (s.amendChange kind lane time).clock = s.clock ∧ (s.amendChange kind lane time).timebase = s.timebase ∧
      (s.amendChange kind lane time).heat = s.heat ∧ (s.amendChange kind lane time).wall = s.wall ∧
      (s.amendChange kind lane time).scanner = s.scanner ∧ (s.amendChange kind lane time).board = s.board ∧
      (s.amendChange kind lane time).store = s.store ∧ (s.amendChange kind lane time).link = s.link ∧
      (s.amendChange kind lane time).pending = s.pending := by
  cases kind <;> simp [State.amendChange]

@[simp] theorem State.appendEntry_frame (h : HeatRecord) (s : State) :
    (s.appendEntry h).power = s.power ∧ (s.appendEntry h).standbyLatch = s.standbyLatch ∧
      (s.appendEntry h).clock = s.clock ∧ (s.appendEntry h).timebase = s.timebase ∧
      (s.appendEntry h).heat = s.heat ∧ (s.appendEntry h).wall = s.wall ∧
      (s.appendEntry h).lanes = s.lanes ∧ (s.appendEntry h).scanner = s.scanner ∧
      (s.appendEntry h).board = s.board ∧ (s.appendEntry h).store = s.store ∧
      (s.appendEntry h).link = s.link ∧ (s.appendEntry h).pending = s.pending := by
  simp [State.appendEntry]

@[simp] theorem State.notifyReactions_frame (lanes : List Lane) (s : State) :
    (s.notifyReactions lanes).power = s.power ∧ (s.notifyReactions lanes).standbyLatch = s.standbyLatch ∧
      (s.notifyReactions lanes).clock = s.clock ∧ (s.notifyReactions lanes).timebase = s.timebase ∧
      (s.notifyReactions lanes).heat = s.heat ∧ (s.notifyReactions lanes).wall = s.wall ∧
      (s.notifyReactions lanes).lanes = s.lanes ∧ (s.notifyReactions lanes).scanner = s.scanner ∧
      (s.notifyReactions lanes).placing = s.placing ∧ (s.notifyReactions lanes).board = s.board ∧
      (s.notifyReactions lanes).store = s.store ∧ (s.notifyReactions lanes).pending = s.pending := by
  unfold State.notifyReactions; repeat' split
  all_goals simp

@[simp] theorem State.notOnPlatform_frame (lane : Lane) (s : State) :
    (s.notOnPlatform lane).power = s.power ∧ (s.notOnPlatform lane).standbyLatch = s.standbyLatch ∧
      (s.notOnPlatform lane).clock = s.clock ∧ (s.notOnPlatform lane).timebase = s.timebase ∧
      (s.notOnPlatform lane).heat = s.heat ∧ (s.notOnPlatform lane).wall = s.wall ∧
      (s.notOnPlatform lane).scanner = s.scanner ∧ (s.notOnPlatform lane).placing = s.placing ∧
      (s.notOnPlatform lane).board = s.board ∧ (s.notOnPlatform lane).store = s.store ∧
      (s.notOnPlatform lane).pending = s.pending := by
  unfold State.notOnPlatform; repeat' split
  all_goals simp

@[simp] theorem State.settleStart_frame (h : HeatRecord) (m : Nat) (s : State) :
    (s.settleStart h m).power = s.power ∧ (s.settleStart h m).standbyLatch = s.standbyLatch ∧
      (s.settleStart h m).clock = s.clock ∧ (s.settleStart h m).timebase = s.timebase ∧
      (s.settleStart h m).heat = s.heat ∧ (s.settleStart h m).wall = s.wall ∧
      (s.settleStart h m).placing = s.placing ∧ (s.settleStart h m).board = s.board ∧
      (s.settleStart h m).store = s.store ∧ (s.settleStart h m).link = s.link ∧
      (s.settleStart h m).pending = s.pending := by
  simp [State.settleStart]

@[simp] theorem State.giveVerdict_frame (h : HeatRecord) (lane : Lane) (r : ExchangeRecord) (cause : SettleCause) (s : State) :
    (s.giveVerdict h lane r cause).power = s.power ∧ (s.giveVerdict h lane r cause).standbyLatch = s.standbyLatch ∧
      (s.giveVerdict h lane r cause).clock = s.clock ∧ (s.giveVerdict h lane r cause).timebase = s.timebase ∧
      (s.giveVerdict h lane r cause).heat = s.heat ∧ (s.giveVerdict h lane r cause).wall = s.wall ∧
      (s.giveVerdict h lane r cause).scanner = s.scanner ∧ (s.giveVerdict h lane r cause).placing = s.placing ∧
      (s.giveVerdict h lane r cause).board = s.board ∧ (s.giveVerdict h lane r cause).store = s.store ∧
      (s.giveVerdict h lane r cause).pending = s.pending := by
  unfold State.giveVerdict; repeat' split
  all_goals simp

@[simp] theorem State.settleUnjudged_frame (h : HeatRecord) (lane : Lane) (cause : SettleCause) (r : ExchangeRecord) (s : State) :
    (s.settleUnjudged h lane cause r).power = s.power ∧ (s.settleUnjudged h lane cause r).standbyLatch = s.standbyLatch ∧
      (s.settleUnjudged h lane cause r).clock = s.clock ∧ (s.settleUnjudged h lane cause r).timebase = s.timebase ∧
      (s.settleUnjudged h lane cause r).heat = s.heat ∧ (s.settleUnjudged h lane cause r).wall = s.wall ∧
      (s.settleUnjudged h lane cause r).scanner = s.scanner ∧ (s.settleUnjudged h lane cause r).placing = s.placing ∧
      (s.settleUnjudged h lane cause r).board = s.board ∧ (s.settleUnjudged h lane cause r).store = s.store ∧
      (s.settleUnjudged h lane cause r).pending = s.pending := by
  simp [State.settleUnjudged]

@[simp] theorem State.settlePending_frame (h : HeatRecord) (lane : Lane) (cause : SettleCause) (s : State) :
    (s.settlePending h lane cause).power = s.power ∧ (s.settlePending h lane cause).standbyLatch = s.standbyLatch ∧
      (s.settlePending h lane cause).clock = s.clock ∧ (s.settlePending h lane cause).timebase = s.timebase ∧
      (s.settlePending h lane cause).heat = s.heat ∧ (s.settlePending h lane cause).wall = s.wall ∧
      (s.settlePending h lane cause).scanner = s.scanner ∧ (s.settlePending h lane cause).placing = s.placing ∧
      (s.settlePending h lane cause).board = s.board ∧ (s.settlePending h lane cause).store = s.store ∧
      (s.settlePending h lane cause).pending = s.pending := by
  unfold State.settlePending
  refine ⟨?_, ?_, ?_, ?_, ?_, ?_, ?_, ?_, ?_, ?_, ?_⟩ <;> exact foldl_kept _ _ (fun s a => by simp) _ _

@[simp] theorem State.evaluateExchange_frame (h : HeatRecord) (lane : Lane) (leg : Nat) (cause : SettleCause) (s : State) :
    (s.evaluateExchange h lane leg cause).power = s.power ∧ (s.evaluateExchange h lane leg cause).standbyLatch = s.standbyLatch ∧
      (s.evaluateExchange h lane leg cause).clock = s.clock ∧ (s.evaluateExchange h lane leg cause).timebase = s.timebase ∧
      (s.evaluateExchange h lane leg cause).heat = s.heat ∧ (s.evaluateExchange h lane leg cause).wall = s.wall ∧
      (s.evaluateExchange h lane leg cause).scanner = s.scanner ∧ (s.evaluateExchange h lane leg cause).placing = s.placing ∧
      (s.evaluateExchange h lane leg cause).board = s.board ∧ (s.evaluateExchange h lane leg cause).store = s.store ∧
      (s.evaluateExchange h lane leg cause).pending = s.pending := by
  unfold State.evaluateExchange; repeat' split
  all_goals simp

@[simp] theorem State.createExchange_frame (h : HeatRecord) (lane : Lane) (leg : Nat) (s : State) :
    (s.createExchange h lane leg).power = s.power ∧ (s.createExchange h lane leg).standbyLatch = s.standbyLatch ∧
      (s.createExchange h lane leg).clock = s.clock ∧ (s.createExchange h lane leg).timebase = s.timebase ∧
      (s.createExchange h lane leg).heat = s.heat ∧ (s.createExchange h lane leg).wall = s.wall ∧
      (s.createExchange h lane leg).scanner = s.scanner ∧ (s.createExchange h lane leg).placing = s.placing ∧
      (s.createExchange h lane leg).board = s.board ∧ (s.createExchange h lane leg).store = s.store ∧
      (s.createExchange h lane leg).pending = s.pending := by
  unfold State.createExchange; repeat' split
  all_goals simp

@[simp] theorem State.legEndClosed_frame (h : HeatRecord) (lane : Lane) (leg : Nat) (source : OfficialSource) (p : Option Nat) (cause : SettleCause) (s : State) :
    (s.legEndClosed h lane leg source p cause).power = s.power ∧ (s.legEndClosed h lane leg source p cause).standbyLatch = s.standbyLatch ∧
      (s.legEndClosed h lane leg source p cause).clock = s.clock ∧ (s.legEndClosed h lane leg source p cause).timebase = s.timebase ∧
      (s.legEndClosed h lane leg source p cause).heat = s.heat ∧ (s.legEndClosed h lane leg source p cause).wall = s.wall ∧
      (s.legEndClosed h lane leg source p cause).scanner = s.scanner ∧ (s.legEndClosed h lane leg source p cause).placing = s.placing ∧
      (s.legEndClosed h lane leg source p cause).board = s.board ∧ (s.legEndClosed h lane leg source p cause).store = s.store ∧
      (s.legEndClosed h lane leg source p cause).pending = s.pending := by
  unfold State.legEndClosed; repeat' split
  all_goals simp

@[simp] theorem State.judgeTurn_frame (h : HeatRecord) (lane : Lane) (s : State) :
    (s.judgeTurn h lane).power = s.power ∧ (s.judgeTurn h lane).standbyLatch = s.standbyLatch ∧
      (s.judgeTurn h lane).clock = s.clock ∧ (s.judgeTurn h lane).timebase = s.timebase ∧
      (s.judgeTurn h lane).heat = s.heat ∧ (s.judgeTurn h lane).wall = s.wall ∧
      (s.judgeTurn h lane).scanner = s.scanner ∧ (s.judgeTurn h lane).placing = s.placing ∧
      (s.judgeTurn h lane).board = s.board ∧ (s.judgeTurn h lane).store = s.store ∧
      (s.judgeTurn h lane).pending = s.pending := by
  unfold State.judgeTurn
  refine ⟨?_, ?_, ?_, ?_, ?_, ?_, ?_, ?_, ?_, ?_, ?_⟩ <;>
    (try simp) <;> (repeat' split) <;> (try simp)

@[simp] theorem State.storeTakeover_frame (h : HeatRecord) (lane : Lane) (d : Int) (s : State) :
    (s.storeTakeover h lane d).power = s.power ∧ (s.storeTakeover h lane d).standbyLatch = s.standbyLatch ∧
      (s.storeTakeover h lane d).clock = s.clock ∧ (s.storeTakeover h lane d).timebase = s.timebase ∧
      (s.storeTakeover h lane d).heat = s.heat ∧ (s.storeTakeover h lane d).wall = s.wall ∧
      (s.storeTakeover h lane d).scanner = s.scanner ∧ (s.storeTakeover h lane d).placing = s.placing ∧
      (s.storeTakeover h lane d).board = s.board ∧ (s.storeTakeover h lane d).store = s.store ∧
      (s.storeTakeover h lane d).pending = s.pending := by
  simp [State.storeTakeover]

@[simp] theorem State.takeDeparture_frame (h : HeatRecord) (lane : Lane) (d : Int) (s : State) :
    (s.takeDeparture h lane d).power = s.power ∧ (s.takeDeparture h lane d).standbyLatch = s.standbyLatch ∧
      (s.takeDeparture h lane d).clock = s.clock ∧ (s.takeDeparture h lane d).timebase = s.timebase ∧
      (s.takeDeparture h lane d).heat = s.heat ∧ (s.takeDeparture h lane d).wall = s.wall ∧
      (s.takeDeparture h lane d).scanner = s.scanner ∧ (s.takeDeparture h lane d).placing = s.placing ∧
      (s.takeDeparture h lane d).board = s.board ∧ (s.takeDeparture h lane d).store = s.store ∧
      (s.takeDeparture h lane d).pending = s.pending := by
  unfold State.takeDeparture
  refine ⟨?_, ?_, ?_, ?_, ?_, ?_, ?_, ?_, ?_, ?_, ?_⟩ <;>
    (try simp) <;> (repeat' split) <;> (try simp)

@[simp] theorem State.scannerFault_frame (h : HeatRecord) (s : State) :
    (s.scannerFault h).power = s.power ∧ (s.scannerFault h).standbyLatch = s.standbyLatch ∧
      (s.scannerFault h).clock = s.clock ∧ (s.scannerFault h).timebase = s.timebase ∧
      (s.scannerFault h).wall = s.wall ∧ (s.scannerFault h).scanner = s.scanner ∧
      (s.scannerFault h).placing = s.placing ∧ (s.scannerFault h).board = s.board ∧
      (s.scannerFault h).store = s.store ∧ (s.scannerFault h).pending = s.pending := by
  unfold State.scannerFault
  refine ⟨?_, ?_, ?_, ?_, ?_, ?_, ?_, ?_, ?_, ?_⟩ <;>
    (try simp) <;> (repeat' split) <;> (try simp)

@[simp] theorem State.sendSplit_frame (lane : Lane) (r : LengthRecord) (leg : Nat) (s : State) :
    (s.sendSplit lane r leg).power = s.power ∧ (s.sendSplit lane r leg).standbyLatch = s.standbyLatch ∧
      (s.sendSplit lane r leg).clock = s.clock ∧ (s.sendSplit lane r leg).timebase = s.timebase ∧
      (s.sendSplit lane r leg).heat = s.heat ∧ (s.sendSplit lane r leg).wall = s.wall ∧
      (s.sendSplit lane r leg).lanes = s.lanes ∧ (s.sendSplit lane r leg).scanner = s.scanner ∧
      (s.sendSplit lane r leg).placing = s.placing ∧ (s.sendSplit lane r leg).board = s.board ∧
      (s.sendSplit lane r leg).store = s.store ∧ (s.sendSplit lane r leg).pending = s.pending := by
  simp [State.sendSplit]

@[simp] theorem State.acceptTurn_frame (h : HeatRecord) (lane : Lane) (time : Nat) (s : State) :
    (s.acceptTurn h lane time).power = s.power ∧ (s.acceptTurn h lane time).standbyLatch = s.standbyLatch ∧
      (s.acceptTurn h lane time).clock = s.clock ∧ (s.acceptTurn h lane time).timebase = s.timebase ∧
      (s.acceptTurn h lane time).heat = s.heat ∧ (s.acceptTurn h lane time).wall = s.wall ∧
      (s.acceptTurn h lane time).scanner = s.scanner ∧ (s.acceptTurn h lane time).placing = s.placing ∧
      (s.acceptTurn h lane time).board = s.board ∧ (s.acceptTurn h lane time).store = s.store ∧
      (s.acceptTurn h lane time).pending = s.pending := by
  simp [State.acceptTurn]

@[simp] theorem State.openWindow_frame (h : HeatRecord) (lane : Lane) (e : Evidence) (s : State) :
    (s.openWindow h lane e).power = s.power ∧ (s.openWindow h lane e).standbyLatch = s.standbyLatch ∧
      (s.openWindow h lane e).clock = s.clock ∧ (s.openWindow h lane e).timebase = s.timebase ∧
      (s.openWindow h lane e).heat = s.heat ∧ (s.openWindow h lane e).wall = s.wall ∧
      (s.openWindow h lane e).scanner = s.scanner ∧ (s.openWindow h lane e).placing = s.placing ∧
      (s.openWindow h lane e).board = s.board ∧ (s.openWindow h lane e).store = s.store ∧
      (s.openWindow h lane e).pending = s.pending := by
  simp [State.openWindow]

@[simp] theorem State.startHold_frame (s : State) :
    (s.startHold).power = s.power ∧ (s.startHold).standbyLatch = s.standbyLatch ∧
      (s.startHold).clock = s.clock ∧ (s.startHold).timebase = s.timebase ∧
      (s.startHold).heat = s.heat ∧ (s.startHold).wall = s.wall ∧
      (s.startHold).lanes = s.lanes ∧ (s.startHold).scanner = s.scanner ∧
      (s.startHold).placing = s.placing ∧ (s.startHold).store = s.store ∧
      (s.startHold).link = s.link ∧ (s.startHold).pending = s.pending := by
  unfold State.startHold; repeat' split
  all_goals simp

@[simp] theorem State.closeLegEnd_frame (h : HeatRecord) (lane : Lane) (w : FinishWindow) (s : State) :
    (s.closeLegEnd h lane w).power = s.power ∧ (s.closeLegEnd h lane w).standbyLatch = s.standbyLatch ∧
      (s.closeLegEnd h lane w).clock = s.clock ∧ (s.closeLegEnd h lane w).timebase = s.timebase ∧
      (s.closeLegEnd h lane w).heat = s.heat ∧ (s.closeLegEnd h lane w).wall = s.wall ∧
      (s.closeLegEnd h lane w).scanner = s.scanner ∧ (s.closeLegEnd h lane w).placing = s.placing ∧
      (s.closeLegEnd h lane w).board = s.board ∧ (s.closeLegEnd h lane w).store = s.store ∧
      (s.closeLegEnd h lane w).pending = s.pending := by
  simp [State.closeLegEnd]

@[simp] theorem State.closeFinal_frame (h : HeatRecord) (lane : Lane) (w : FinishWindow) (cause : CloseCause) (s : State) :
    (s.closeFinal h lane w cause).power = s.power ∧ (s.closeFinal h lane w cause).standbyLatch = s.standbyLatch ∧
      (s.closeFinal h lane w cause).clock = s.clock ∧ (s.closeFinal h lane w cause).timebase = s.timebase ∧
      (s.closeFinal h lane w cause).heat = s.heat ∧ (s.closeFinal h lane w cause).wall = s.wall ∧
      (s.closeFinal h lane w cause).scanner = s.scanner ∧ (s.closeFinal h lane w cause).store = s.store ∧
      (s.closeFinal h lane w cause).pending = s.pending := by
  unfold State.closeFinal
  refine ⟨?_, ?_, ?_, ?_, ?_, ?_, ?_, ?_, ?_⟩ <;>
    (try simp) <;> (repeat' split) <;> (try simp)

@[simp] theorem State.closeWindow_frame (h : HeatRecord) (cause : CloseCause) (lane : Lane) (s : State) :
    (s.closeWindow h cause lane).power = s.power ∧ (s.closeWindow h cause lane).standbyLatch = s.standbyLatch ∧
      (s.closeWindow h cause lane).clock = s.clock ∧ (s.closeWindow h cause lane).timebase = s.timebase ∧
      (s.closeWindow h cause lane).heat = s.heat ∧ (s.closeWindow h cause lane).wall = s.wall ∧
      (s.closeWindow h cause lane).scanner = s.scanner ∧ (s.closeWindow h cause lane).store = s.store ∧
      (s.closeWindow h cause lane).pending = s.pending := by
  unfold State.closeWindow
  refine ⟨?_, ?_, ?_, ?_, ?_, ?_, ?_, ?_, ?_⟩ <;>
    (try simp) <;> (repeat' split) <;> (try simp)

@[simp] theorem State.skipTurn_frame (h : HeatRecord) (lane : Lane) (touch : PadTouch) (s : State) :
    (s.skipTurn h lane touch).power = s.power ∧ (s.skipTurn h lane touch).standbyLatch = s.standbyLatch ∧
      (s.skipTurn h lane touch).clock = s.clock ∧ (s.skipTurn h lane touch).timebase = s.timebase ∧
      (s.skipTurn h lane touch).heat = s.heat ∧ (s.skipTurn h lane touch).wall = s.wall ∧
      (s.skipTurn h lane touch).scanner = s.scanner ∧ (s.skipTurn h lane touch).placing = s.placing ∧
      (s.skipTurn h lane touch).board = s.board ∧ (s.skipTurn h lane touch).store = s.store ∧
      (s.skipTurn h lane touch).pending = s.pending := by
  unfold State.skipTurn
  refine ⟨?_, ?_, ?_, ?_, ?_, ?_, ?_, ?_, ?_, ?_, ?_⟩ <;>
    (try simp) <;> (repeat' split) <;> (try simp)

@[simp] theorem State.skipLegEnd_frame (h : HeatRecord) (lane : Lane) (touch : PadTouch) (s : State) :
    (s.skipLegEnd h lane touch).power = s.power ∧ (s.skipLegEnd h lane touch).standbyLatch = s.standbyLatch ∧
      (s.skipLegEnd h lane touch).clock = s.clock ∧ (s.skipLegEnd h lane touch).timebase = s.timebase ∧
      (s.skipLegEnd h lane touch).heat = s.heat ∧ (s.skipLegEnd h lane touch).wall = s.wall ∧
      (s.skipLegEnd h lane touch).scanner = s.scanner ∧ (s.skipLegEnd h lane touch).placing = s.placing ∧
      (s.skipLegEnd h lane touch).board = s.board ∧ (s.skipLegEnd h lane touch).store = s.store ∧
      (s.skipLegEnd h lane touch).pending = s.pending := by
  simp [State.skipLegEnd]

@[simp] theorem State.skip_frame (h : HeatRecord) (lane : Lane) (touch : PadTouch) (s : State) :
    (s.skip h lane touch).power = s.power ∧ (s.skip h lane touch).standbyLatch = s.standbyLatch ∧
      (s.skip h lane touch).clock = s.clock ∧ (s.skip h lane touch).timebase = s.timebase ∧
      (s.skip h lane touch).heat = s.heat ∧ (s.skip h lane touch).wall = s.wall ∧
      (s.skip h lane touch).scanner = s.scanner ∧ (s.skip h lane touch).placing = s.placing ∧
      (s.skip h lane touch).board = s.board ∧ (s.skip h lane touch).store = s.store ∧
      (s.skip h lane touch).pending = s.pending := by
  unfold State.skip
  refine ⟨?_, ?_, ?_, ?_, ?_, ?_, ?_, ?_, ?_, ?_, ?_⟩ <;>
    (try simp) <;> (repeat' split) <;> (try simp)

@[simp] theorem State.takePad_frame (h : HeatRecord) (lane : Lane) (wall : Wall) (touch : PadTouch) (s : State) :
    (s.takePad h lane wall touch).power = s.power ∧ (s.takePad h lane wall touch).standbyLatch = s.standbyLatch ∧
      (s.takePad h lane wall touch).clock = s.clock ∧ (s.takePad h lane wall touch).timebase = s.timebase ∧
      (s.takePad h lane wall touch).heat = s.heat ∧ (s.takePad h lane wall touch).wall = s.wall ∧
      (s.takePad h lane wall touch).scanner = s.scanner ∧ (s.takePad h lane wall touch).placing = s.placing ∧
      (s.takePad h lane wall touch).board = s.board ∧ (s.takePad h lane wall touch).store = s.store ∧
      (s.takePad h lane wall touch).pending = s.pending := by
  unfold State.takePad
  refine ⟨?_, ?_, ?_, ?_, ?_, ?_, ?_, ?_, ?_, ?_, ?_⟩ <;>
    (try simp) <;> (repeat' split) <;> (try simp)

@[simp] theorem State.takePress_frame (h : HeatRecord) (lane : Lane) (button : Button) (time : Nat) (s : State) :
    (s.takePress h lane button time).power = s.power ∧ (s.takePress h lane button time).standbyLatch = s.standbyLatch ∧
      (s.takePress h lane button time).clock = s.clock ∧ (s.takePress h lane button time).timebase = s.timebase ∧
      (s.takePress h lane button time).heat = s.heat ∧ (s.takePress h lane button time).wall = s.wall ∧
      (s.takePress h lane button time).scanner = s.scanner ∧ (s.takePress h lane button time).placing = s.placing ∧
      (s.takePress h lane button time).board = s.board ∧ (s.takePress h lane button time).store = s.store ∧
      (s.takePress h lane button time).pending = s.pending := by
  unfold State.takePress
  refine ⟨?_, ?_, ?_, ?_, ?_, ?_, ?_, ?_, ?_, ?_, ?_⟩ <;>
    (try simp) <;> (repeat' split) <;> (try simp)

@[simp] theorem State.boardSettle_frame (s : State) :
    (s.boardSettle).power = s.power ∧ (s.boardSettle).standbyLatch = s.standbyLatch ∧
      (s.boardSettle).clock = s.clock ∧ (s.boardSettle).timebase = s.timebase ∧
      (s.boardSettle).heat = s.heat ∧ (s.boardSettle).wall = s.wall ∧
      (s.boardSettle).lanes = s.lanes ∧ (s.boardSettle).scanner = s.scanner ∧
      (s.boardSettle).placing = s.placing ∧ (s.boardSettle).store = s.store ∧
      (s.boardSettle).link = s.link ∧ (s.boardSettle).pending = s.pending := by
  simp [State.boardSettle]

@[simp] theorem State.sealNotices_frame (s : State) :
    (s.sealNotices).power = s.power ∧ (s.sealNotices).standbyLatch = s.standbyLatch ∧
      (s.sealNotices).clock = s.clock ∧ (s.sealNotices).timebase = s.timebase ∧
      (s.sealNotices).heat = s.heat ∧ (s.sealNotices).wall = s.wall ∧
      (s.sealNotices).lanes = s.lanes ∧ (s.sealNotices).scanner = s.scanner ∧
      (s.sealNotices).placing = s.placing ∧ (s.sealNotices).board = s.board ∧
      (s.sealNotices).store = s.store ∧ (s.sealNotices).pending = s.pending := by
  simp [State.sealNotices]

@[simp] theorem State.eventEnd_frame (s : State) :
    (s.eventEnd).power = s.power ∧ (s.eventEnd).standbyLatch = s.standbyLatch ∧
      (s.eventEnd).clock = s.clock ∧ (s.eventEnd).timebase = s.timebase ∧
      (s.eventEnd).heat = s.heat ∧ (s.eventEnd).wall = s.wall ∧
      (s.eventEnd).lanes = s.lanes ∧ (s.eventEnd).scanner = s.scanner ∧
      (s.eventEnd).placing = s.placing ∧ (s.eventEnd).store = s.store ∧
      (s.eventEnd).pending = s.pending := by
  simp [State.eventEnd]

@[simp] theorem State.askPass_frame (s : State) :
    (s.askPass).power = s.power ∧ (s.askPass).standbyLatch = s.standbyLatch ∧
      (s.askPass).clock = s.clock ∧ (s.askPass).timebase = s.timebase ∧
      (s.askPass).heat = s.heat ∧ (s.askPass).wall = s.wall ∧
      (s.askPass).lanes = s.lanes ∧ (s.askPass).scanner = s.scanner ∧
      (s.askPass).placing = s.placing ∧ (s.askPass).store = s.store ∧
      (s.askPass).link = s.link ∧ (s.askPass).pending = s.pending := by
  simp [State.askPass]

@[simp] theorem State.boardNewHeat_frame (s : State) :
    (s.boardNewHeat).power = s.power ∧ (s.boardNewHeat).standbyLatch = s.standbyLatch ∧
      (s.boardNewHeat).clock = s.clock ∧ (s.boardNewHeat).timebase = s.timebase ∧
      (s.boardNewHeat).heat = s.heat ∧ (s.boardNewHeat).wall = s.wall ∧
      (s.boardNewHeat).lanes = s.lanes ∧ (s.boardNewHeat).scanner = s.scanner ∧
      (s.boardNewHeat).placing = s.placing ∧ (s.boardNewHeat).store = s.store ∧
      (s.boardNewHeat).link = s.link ∧ (s.boardNewHeat).pending = s.pending := by
  simp [State.boardNewHeat]

@[simp] theorem State.changeMode_frame (mode : RefreshMode) (s : State) :
    (s.changeMode mode).power = s.power ∧ (s.changeMode mode).standbyLatch = s.standbyLatch ∧
      (s.changeMode mode).clock = s.clock ∧ (s.changeMode mode).timebase = s.timebase ∧
      (s.changeMode mode).heat = s.heat ∧ (s.changeMode mode).wall = s.wall ∧
      (s.changeMode mode).lanes = s.lanes ∧ (s.changeMode mode).scanner = s.scanner ∧
      (s.changeMode mode).placing = s.placing ∧ (s.changeMode mode).store = s.store ∧
      (s.changeMode mode).link = s.link ∧ (s.changeMode mode).pending = s.pending := by
  simp [State.changeMode]

@[simp] theorem State.testOn_frame (s : State) :
    (s.testOn).power = s.power ∧ (s.testOn).standbyLatch = s.standbyLatch ∧
      (s.testOn).clock = s.clock ∧ (s.testOn).timebase = s.timebase ∧
      (s.testOn).heat = s.heat ∧ (s.testOn).wall = s.wall ∧
      (s.testOn).lanes = s.lanes ∧ (s.testOn).scanner = s.scanner ∧
      (s.testOn).placing = s.placing ∧ (s.testOn).store = s.store ∧
      (s.testOn).link = s.link ∧ (s.testOn).pending = s.pending := by
  simp [State.testOn]

@[simp] theorem State.testOff_frame (s : State) :
    (s.testOff).power = s.power ∧ (s.testOff).standbyLatch = s.standbyLatch ∧
      (s.testOff).clock = s.clock ∧ (s.testOff).timebase = s.timebase ∧
      (s.testOff).heat = s.heat ∧ (s.testOff).wall = s.wall ∧
      (s.testOff).lanes = s.lanes ∧ (s.testOff).scanner = s.scanner ∧
      (s.testOff).placing = s.placing ∧ (s.testOff).store = s.store ∧
      (s.testOff).link = s.link ∧ (s.testOff).pending = s.pending := by
  simp [State.testOff]

@[simp] theorem State.startWrite_frame (p : Profile) (leveling : Bool) (s : State) :
    (s.startWrite p leveling).power = s.power ∧ (s.startWrite p leveling).standbyLatch = s.standbyLatch ∧
      (s.startWrite p leveling).clock = s.clock ∧ (s.startWrite p leveling).timebase = s.timebase ∧
      (s.startWrite p leveling).heat = s.heat ∧ (s.startWrite p leveling).wall = s.wall ∧
      (s.startWrite p leveling).lanes = s.lanes ∧ (s.startWrite p leveling).scanner = s.scanner ∧
      (s.startWrite p leveling).placing = s.placing ∧ (s.startWrite p leveling).board = s.board ∧
      (s.startWrite p leveling).link = s.link ∧ (s.startWrite p leveling).pending = s.pending := by
  simp [State.startWrite]

@[simp] theorem State.completeWrite_frame (w : StoreWrite) (s : State) :
    (s.completeWrite w).power = s.power ∧ (s.completeWrite w).standbyLatch = s.standbyLatch ∧
      (s.completeWrite w).clock = s.clock ∧ (s.completeWrite w).heat = s.heat ∧
      (s.completeWrite w).lanes = s.lanes ∧ (s.completeWrite w).scanner = s.scanner ∧
      (s.completeWrite w).placing = s.placing ∧ (s.completeWrite w).pending = s.pending := by
  unfold State.completeWrite
  refine ⟨?_, ?_, ?_, ?_, ?_, ?_, ?_, ?_⟩ <;>
    (try simp) <;> (repeat' split) <;> (try simp)

@[simp] theorem State.updPad_frame (pad : PadIx) (f : PadRecord → PadRecord) (s : State) :
    (s.updPad pad f).power = s.power ∧ (s.updPad pad f).standbyLatch = s.standbyLatch ∧
      (s.updPad pad f).clock = s.clock ∧ (s.updPad pad f).timebase = s.timebase ∧
      (s.updPad pad f).heat = s.heat ∧ (s.updPad pad f).lanes = s.lanes ∧
      (s.updPad pad f).scanner = s.scanner ∧ (s.updPad pad f).placing = s.placing ∧
      (s.updPad pad f).board = s.board ∧ (s.updPad pad f).store = s.store ∧
      (s.updPad pad f).link = s.link ∧ (s.updPad pad f).pending = s.pending := by
  simp [State.updPad]

@[simp] theorem State.updButton_frame (ix : ButtonIx) (f : ButtonRecord → ButtonRecord) (s : State) :
    (s.updButton ix f).power = s.power ∧ (s.updButton ix f).standbyLatch = s.standbyLatch ∧
      (s.updButton ix f).clock = s.clock ∧ (s.updButton ix f).timebase = s.timebase ∧
      (s.updButton ix f).heat = s.heat ∧ (s.updButton ix f).lanes = s.lanes ∧
      (s.updButton ix f).scanner = s.scanner ∧ (s.updButton ix f).placing = s.placing ∧
      (s.updButton ix f).board = s.board ∧ (s.updButton ix f).store = s.store ∧
      (s.updButton ix f).link = s.link ∧ (s.updButton ix f).pending = s.pending := by
  simp [State.updButton]

@[simp] theorem State.armPads_frame (m : Nat) (s : State) :
    (s.armPads m).power = s.power ∧ (s.armPads m).standbyLatch = s.standbyLatch ∧
      (s.armPads m).clock = s.clock ∧ (s.armPads m).timebase = s.timebase ∧
      (s.armPads m).heat = s.heat ∧ (s.armPads m).lanes = s.lanes ∧
      (s.armPads m).scanner = s.scanner ∧ (s.armPads m).placing = s.placing ∧
      (s.armPads m).board = s.board ∧ (s.armPads m).store = s.store ∧
      (s.armPads m).link = s.link ∧ (s.armPads m).pending = s.pending := by
  simp [State.armPads]

@[simp] theorem State.disarmPads_frame (s : State) :
    (s.disarmPads).power = s.power ∧ (s.disarmPads).standbyLatch = s.standbyLatch ∧
      (s.disarmPads).clock = s.clock ∧ (s.disarmPads).timebase = s.timebase ∧
      (s.disarmPads).heat = s.heat ∧ (s.disarmPads).lanes = s.lanes ∧
      (s.disarmPads).scanner = s.scanner ∧ (s.disarmPads).placing = s.placing ∧
      (s.disarmPads).board = s.board ∧ (s.disarmPads).store = s.store ∧
      (s.disarmPads).link = s.link ∧ (s.disarmPads).pending = s.pending := by
  simp [State.disarmPads]

@[simp] theorem State.deliverTouch_frame (pad : PadIx) (lead : Nat) (s : State) :
    (s.deliverTouch pad lead).power = s.power ∧ (s.deliverTouch pad lead).standbyLatch = s.standbyLatch ∧
      (s.deliverTouch pad lead).clock = s.clock ∧ (s.deliverTouch pad lead).timebase = s.timebase ∧
      (s.deliverTouch pad lead).heat = s.heat ∧ (s.deliverTouch pad lead).wall = s.wall ∧
      (s.deliverTouch pad lead).scanner = s.scanner ∧ (s.deliverTouch pad lead).placing = s.placing ∧
      (s.deliverTouch pad lead).board = s.board ∧ (s.deliverTouch pad lead).store = s.store ∧
      (s.deliverTouch pad lead).pending = s.pending := by
  unfold State.deliverTouch; repeat' split
  all_goals simp

@[simp] theorem State.qualifyPad_frame (pad : PadIx) (s : State) :
    (s.qualifyPad pad).power = s.power ∧ (s.qualifyPad pad).standbyLatch = s.standbyLatch ∧
      (s.qualifyPad pad).clock = s.clock ∧ (s.qualifyPad pad).timebase = s.timebase ∧
      (s.qualifyPad pad).heat = s.heat ∧ (s.qualifyPad pad).scanner = s.scanner ∧
      (s.qualifyPad pad).placing = s.placing ∧ (s.qualifyPad pad).board = s.board ∧
      (s.qualifyPad pad).store = s.store ∧ (s.qualifyPad pad).pending = s.pending := by
  unfold State.qualifyPad; repeat' split
  all_goals simp

@[simp] theorem State.qualifyArmed_frame (s : State) :
    (s.qualifyArmed).power = s.power ∧ (s.qualifyArmed).standbyLatch = s.standbyLatch ∧
      (s.qualifyArmed).clock = s.clock ∧ (s.qualifyArmed).timebase = s.timebase ∧
      (s.qualifyArmed).heat = s.heat ∧ (s.qualifyArmed).scanner = s.scanner ∧
      (s.qualifyArmed).placing = s.placing ∧ (s.qualifyArmed).board = s.board ∧
      (s.qualifyArmed).store = s.store ∧ (s.qualifyArmed).pending = s.pending := by
  unfold State.qualifyArmed
  refine ⟨?_, ?_, ?_, ?_, ?_, ?_, ?_, ?_, ?_, ?_⟩ <;> exact foldl_kept _ _ (fun s a => by simp) _ _

@[simp] theorem State.padCloses_frame (pad : PadIx) (stamp : Nat) (s : State) :
    (s.padCloses pad stamp).power = s.power ∧ (s.padCloses pad stamp).standbyLatch = s.standbyLatch ∧
      (s.padCloses pad stamp).clock = s.clock ∧ (s.padCloses pad stamp).timebase = s.timebase ∧
      (s.padCloses pad stamp).heat = s.heat ∧ (s.padCloses pad stamp).lanes = s.lanes ∧
      (s.padCloses pad stamp).scanner = s.scanner ∧ (s.padCloses pad stamp).placing = s.placing ∧
      (s.padCloses pad stamp).board = s.board ∧ (s.padCloses pad stamp).store = s.store ∧
      (s.padCloses pad stamp).link = s.link ∧ (s.padCloses pad stamp).pending = s.pending := by
  simp [State.padCloses]

@[simp] theorem State.padOpens_frame (pad : PadIx) (stamp : Nat) (s : State) :
    (s.padOpens pad stamp).power = s.power ∧ (s.padOpens pad stamp).standbyLatch = s.standbyLatch ∧
      (s.padOpens pad stamp).clock = s.clock ∧ (s.padOpens pad stamp).timebase = s.timebase ∧
      (s.padOpens pad stamp).heat = s.heat ∧ (s.padOpens pad stamp).scanner = s.scanner ∧
      (s.padOpens pad stamp).placing = s.placing ∧ (s.padOpens pad stamp).board = s.board ∧
      (s.padOpens pad stamp).store = s.store ∧ (s.padOpens pad stamp).pending = s.pending := by
  unfold State.padOpens; repeat' split
  all_goals simp

@[simp] theorem State.deliverPress_frame (lane : Lane) (button : Button) (stamp : Nat) (s : State) :
    (s.deliverPress lane button stamp).power = s.power ∧ (s.deliverPress lane button stamp).standbyLatch = s.standbyLatch ∧
      (s.deliverPress lane button stamp).clock = s.clock ∧ (s.deliverPress lane button stamp).timebase = s.timebase ∧
      (s.deliverPress lane button stamp).heat = s.heat ∧ (s.deliverPress lane button stamp).wall = s.wall ∧
      (s.deliverPress lane button stamp).scanner = s.scanner ∧ (s.deliverPress lane button stamp).placing = s.placing ∧
      (s.deliverPress lane button stamp).board = s.board ∧ (s.deliverPress lane button stamp).store = s.store ∧
      (s.deliverPress lane button stamp).pending = s.pending := by
  unfold State.deliverPress; repeat' split
  all_goals simp

@[simp] theorem State.buttonCloses_frame (lane : Lane) (button : Button) (stamp : Nat) (s : State) :
    (s.buttonCloses lane button stamp).power = s.power ∧ (s.buttonCloses lane button stamp).standbyLatch = s.standbyLatch ∧
      (s.buttonCloses lane button stamp).clock = s.clock ∧ (s.buttonCloses lane button stamp).timebase = s.timebase ∧
      (s.buttonCloses lane button stamp).heat = s.heat ∧ (s.buttonCloses lane button stamp).scanner = s.scanner ∧
      (s.buttonCloses lane button stamp).placing = s.placing ∧ (s.buttonCloses lane button stamp).board = s.board ∧
      (s.buttonCloses lane button stamp).store = s.store ∧ (s.buttonCloses lane button stamp).pending = s.pending := by
  unfold State.buttonCloses
  refine ⟨?_, ?_, ?_, ?_, ?_, ?_, ?_, ?_, ?_, ?_⟩ <;>
    (try simp) <;> (repeat' split) <;> (try simp)

@[simp] theorem State.nextTurn_frame (rest : List PadIx) (s : State) :
    (s.nextTurn rest).power = s.power ∧ (s.nextTurn rest).standbyLatch = s.standbyLatch ∧
      (s.nextTurn rest).clock = s.clock ∧ (s.nextTurn rest).timebase = s.timebase ∧
      (s.nextTurn rest).heat = s.heat ∧ (s.nextTurn rest).lanes = s.lanes ∧
      (s.nextTurn rest).scanner = s.scanner ∧ (s.nextTurn rest).placing = s.placing ∧
      (s.nextTurn rest).board = s.board ∧ (s.nextTurn rest).link = s.link ∧
      (s.nextTurn rest).pending = s.pending := by
  unfold State.nextTurn; repeat' split
  all_goals simp

@[simp] theorem State.levelResult_frame (pad : PadIx) (r : LevelResult) (rest : List PadIx) (s : State) :
    (s.levelResult pad r rest).power = s.power ∧ (s.levelResult pad r rest).standbyLatch = s.standbyLatch ∧
      (s.levelResult pad r rest).clock = s.clock ∧ (s.levelResult pad r rest).timebase = s.timebase ∧
      (s.levelResult pad r rest).heat = s.heat ∧ (s.levelResult pad r rest).lanes = s.lanes ∧
      (s.levelResult pad r rest).scanner = s.scanner ∧ (s.levelResult pad r rest).placing = s.placing ∧
      (s.levelResult pad r rest).board = s.board ∧ (s.levelResult pad r rest).link = s.link ∧
      (s.levelResult pad r rest).pending = s.pending := by
  simp [State.levelResult]

@[simp] theorem State.levelEdge_frame (pad : PadIx) (level : Level) (stamp : Nat) (s : State) :
    (s.levelEdge pad level stamp).power = s.power ∧ (s.levelEdge pad level stamp).standbyLatch = s.standbyLatch ∧
      (s.levelEdge pad level stamp).clock = s.clock ∧ (s.levelEdge pad level stamp).timebase = s.timebase ∧
      (s.levelEdge pad level stamp).heat = s.heat ∧ (s.levelEdge pad level stamp).lanes = s.lanes ∧
      (s.levelEdge pad level stamp).scanner = s.scanner ∧ (s.levelEdge pad level stamp).placing = s.placing ∧
      (s.levelEdge pad level stamp).board = s.board ∧ (s.levelEdge pad level stamp).store = s.store ∧
      (s.levelEdge pad level stamp).link = s.link ∧ (s.levelEdge pad level stamp).pending = s.pending := by
  unfold State.levelEdge; repeat' split
  all_goals simp

@[simp] theorem State.abandonLeveling_frame (s : State) :
    (s.abandonLeveling).power = s.power ∧ (s.abandonLeveling).standbyLatch = s.standbyLatch ∧
      (s.abandonLeveling).clock = s.clock ∧ (s.abandonLeveling).timebase = s.timebase ∧
      (s.abandonLeveling).heat = s.heat ∧ (s.abandonLeveling).lanes = s.lanes ∧
      (s.abandonLeveling).scanner = s.scanner ∧ (s.abandonLeveling).placing = s.placing ∧
      (s.abandonLeveling).board = s.board ∧ (s.abandonLeveling).store = s.store ∧
      (s.abandonLeveling).pending = s.pending := by
  unfold State.abandonLeveling; repeat' split
  all_goals simp

@[simp] theorem State.setLabels_frame (current : Option HeatRecord) (s : State) :
    (s.setLabels current).power = s.power ∧ (s.setLabels current).standbyLatch = s.standbyLatch ∧
      (s.setLabels current).clock = s.clock ∧ (s.setLabels current).timebase = s.timebase ∧
      (s.setLabels current).heat = s.heat ∧ (s.setLabels current).wall = s.wall ∧
      (s.setLabels current).scanner = s.scanner ∧ (s.setLabels current).placing = s.placing ∧
      (s.setLabels current).board = s.board ∧ (s.setLabels current).store = s.store ∧
      (s.setLabels current).link = s.link ∧ (s.setLabels current).pending = s.pending := by
  simp [State.setLabels]

@[simp] theorem State.setCurrent_frame (current : Option HeatRecord) (cause : HeatCause) (s : State) :
    (s.setCurrent current cause).power = s.power ∧ (s.setCurrent current cause).standbyLatch = s.standbyLatch ∧
      (s.setCurrent current cause).clock = s.clock ∧ (s.setCurrent current cause).timebase = s.timebase ∧
      (s.setCurrent current cause).wall = s.wall ∧ (s.setCurrent current cause).scanner = s.scanner ∧
      (s.setCurrent current cause).placing = s.placing ∧ (s.setCurrent current cause).store = s.store ∧
      (s.setCurrent current cause).pending = s.pending := by
  simp [State.setCurrent]

@[simp] theorem State.promote_frame (cause : HeatCause) (s : State) :
    (s.promote cause).power = s.power ∧ (s.promote cause).standbyLatch = s.standbyLatch ∧
      (s.promote cause).clock = s.clock ∧ (s.promote cause).timebase = s.timebase ∧
      (s.promote cause).wall = s.wall ∧ (s.promote cause).scanner = s.scanner ∧
      (s.promote cause).placing = s.placing ∧ (s.promote cause).store = s.store ∧
      (s.promote cause).pending = s.pending := by
  unfold State.promote; repeat' split
  all_goals simp

@[simp] theorem State.clearEntered_frame (h : HeatRecord) (status : LaneStatus) (s : State) :
    (s.clearEntered h status).power = s.power ∧ (s.clearEntered h status).standbyLatch = s.standbyLatch ∧
      (s.clearEntered h status).clock = s.clock ∧ (s.clearEntered h status).timebase = s.timebase ∧
      (s.clearEntered h status).heat = s.heat ∧ (s.clearEntered h status).wall = s.wall ∧
      (s.clearEntered h status).scanner = s.scanner ∧ (s.clearEntered h status).placing = s.placing ∧
      (s.clearEntered h status).board = s.board ∧ (s.clearEntered h status).store = s.store ∧
      (s.clearEntered h status).link = s.link ∧ (s.clearEntered h status).pending = s.pending := by
  simp [State.clearEntered]

@[simp] theorem State.armHeat_frame (h : HeatRecord) (s : State) :
    (s.armHeat h).power = s.power ∧ (s.armHeat h).standbyLatch = s.standbyLatch ∧
      (s.armHeat h).clock = s.clock ∧ (s.armHeat h).timebase = s.timebase ∧
      (s.armHeat h).wall = s.wall ∧ (s.armHeat h).placing = s.placing ∧
      (s.armHeat h).board = s.board ∧ (s.armHeat h).pending = s.pending := by
  unfold State.armHeat; repeat' split
  all_goals simp

@[simp] theorem State.disarmHeat_frame (cause : HeatCause) (s : State) :
    (s.disarmHeat cause).power = s.power ∧ (s.disarmHeat cause).standbyLatch = s.standbyLatch ∧
      (s.disarmHeat cause).clock = s.clock ∧ (s.disarmHeat cause).wall = s.wall ∧
      (s.disarmHeat cause).placing = s.placing ∧ (s.disarmHeat cause).board = s.board ∧
      (s.disarmHeat cause).store = s.store ∧ (s.disarmHeat cause).pending = s.pending := by
  unfold State.disarmHeat
  refine ⟨?_, ?_, ?_, ?_, ?_, ?_, ?_, ?_⟩ <;>
    (try simp) <;> (repeat' split) <;> (try simp)

@[simp] theorem State.raceEntered_frame (h : HeatRecord) (s : State) :
    (s.raceEntered h).power = s.power ∧ (s.raceEntered h).standbyLatch = s.standbyLatch ∧
      (s.raceEntered h).clock = s.clock ∧ (s.raceEntered h).timebase = s.timebase ∧
      (s.raceEntered h).heat = s.heat ∧ (s.raceEntered h).wall = s.wall ∧
      (s.raceEntered h).scanner = s.scanner ∧ (s.raceEntered h).placing = s.placing ∧
      (s.raceEntered h).board = s.board ∧ (s.raceEntered h).store = s.store ∧
      (s.raceEntered h).link = s.link ∧ (s.raceEntered h).pending = s.pending := by
  simp [State.raceEntered]

@[simp] theorem State.startHeat_frame (h : HeatRecord) (stamp : Nat) (cause : HeatCause) (s : State) :
    (s.startHeat h stamp cause).power = s.power ∧ (s.startHeat h stamp cause).standbyLatch = s.standbyLatch ∧
      (s.startHeat h stamp cause).clock = s.clock ∧ (s.startHeat h stamp cause).timebase = s.timebase ∧
      (s.startHeat h stamp cause).placing = s.placing ∧ (s.startHeat h stamp cause).store = s.store ∧
      (s.startHeat h stamp cause).pending = s.pending := by
  simp [State.startHeat]

@[simp] theorem State.recallHeat_frame (h : HeatRecord) (stamp : Nat) (cause : HeatCause) (s : State) :
    (s.recallHeat h stamp cause).power = s.power ∧ (s.recallHeat h stamp cause).standbyLatch = s.standbyLatch ∧
      (s.recallHeat h stamp cause).clock = s.clock ∧ (s.recallHeat h stamp cause).timebase = s.timebase ∧
      (s.recallHeat h stamp cause).scanner = s.scanner ∧ (s.recallHeat h stamp cause).store = s.store ∧
      (s.recallHeat h stamp cause).pending = s.pending := by
  simp [State.recallHeat]

@[simp] theorem State.closeRacing_frame (h : HeatRecord) (lane : Lane) (s : State) :
    (s.closeRacing h lane).power = s.power ∧ (s.closeRacing h lane).standbyLatch = s.standbyLatch ∧
      (s.closeRacing h lane).clock = s.clock ∧ (s.closeRacing h lane).timebase = s.timebase ∧
      (s.closeRacing h lane).heat = s.heat ∧ (s.closeRacing h lane).wall = s.wall ∧
      (s.closeRacing h lane).scanner = s.scanner ∧ (s.closeRacing h lane).placing = s.placing ∧
      (s.closeRacing h lane).board = s.board ∧ (s.closeRacing h lane).store = s.store ∧
      (s.closeRacing h lane).pending = s.pending := by
  unfold State.closeRacing; repeat' split
  all_goals simp

@[simp] theorem State.closeOpen_frame (h : HeatRecord) (lane : Lane) (s : State) :
    (s.closeOpen h lane).power = s.power ∧ (s.closeOpen h lane).standbyLatch = s.standbyLatch ∧
      (s.closeOpen h lane).clock = s.clock ∧ (s.closeOpen h lane).timebase = s.timebase ∧
      (s.closeOpen h lane).heat = s.heat ∧ (s.closeOpen h lane).wall = s.wall ∧
      (s.closeOpen h lane).scanner = s.scanner ∧ (s.closeOpen h lane).store = s.store ∧
      (s.closeOpen h lane).pending = s.pending := by
  unfold State.closeOpen; repeat' split
  all_goals simp

@[simp] theorem State.freezeBoard_frame (s : State) :
    (s.freezeBoard).power = s.power ∧ (s.freezeBoard).standbyLatch = s.standbyLatch ∧
      (s.freezeBoard).clock = s.clock ∧ (s.freezeBoard).timebase = s.timebase ∧
      (s.freezeBoard).heat = s.heat ∧ (s.freezeBoard).wall = s.wall ∧
      (s.freezeBoard).lanes = s.lanes ∧ (s.freezeBoard).scanner = s.scanner ∧
      (s.freezeBoard).placing = s.placing ∧ (s.freezeBoard).store = s.store ∧
      (s.freezeBoard).link = s.link ∧ (s.freezeBoard).pending = s.pending := by
  simp [State.freezeBoard]

@[simp] theorem State.closeWindows_frame (h : HeatRecord) (s : State) :
    (s.closeWindows h).power = s.power ∧ (s.closeWindows h).standbyLatch = s.standbyLatch ∧
      (s.closeWindows h).clock = s.clock ∧ (s.closeWindows h).timebase = s.timebase ∧
      (s.closeWindows h).heat = s.heat ∧ (s.closeWindows h).wall = s.wall ∧
      (s.closeWindows h).scanner = s.scanner ∧ (s.closeWindows h).store = s.store ∧
      (s.closeWindows h).pending = s.pending := by
  unfold State.closeWindows State.eachLane
  refine ⟨?_, ?_, ?_, ?_, ?_, ?_, ?_, ?_, ?_⟩ <;> exact foldl_kept _ _ (fun s a => by simp) _ _

@[simp] theorem State.closeLanes_frame (h : HeatRecord) (s : State) :
    (s.closeLanes h).power = s.power ∧ (s.closeLanes h).standbyLatch = s.standbyLatch ∧
      (s.closeLanes h).clock = s.clock ∧ (s.closeLanes h).timebase = s.timebase ∧
      (s.closeLanes h).heat = s.heat ∧ (s.closeLanes h).wall = s.wall ∧
      (s.closeLanes h).scanner = s.scanner ∧ (s.closeLanes h).placing = s.placing ∧
      (s.closeLanes h).board = s.board ∧ (s.closeLanes h).store = s.store ∧
      (s.closeLanes h).pending = s.pending := by
  unfold State.closeLanes State.eachLane
  refine ⟨?_, ?_, ?_, ?_, ?_, ?_, ?_, ?_, ?_, ?_, ?_⟩ <;> exact foldl_kept _ _ (fun s a => by simp) _ _

@[simp] theorem State.settleExchanges_frame (h : HeatRecord) (s : State) :
    (s.settleExchanges h).power = s.power ∧ (s.settleExchanges h).standbyLatch = s.standbyLatch ∧
      (s.settleExchanges h).clock = s.clock ∧ (s.settleExchanges h).timebase = s.timebase ∧
      (s.settleExchanges h).heat = s.heat ∧ (s.settleExchanges h).wall = s.wall ∧
      (s.settleExchanges h).scanner = s.scanner ∧ (s.settleExchanges h).placing = s.placing ∧
      (s.settleExchanges h).board = s.board ∧ (s.settleExchanges h).store = s.store ∧
      (s.settleExchanges h).pending = s.pending := by
  unfold State.settleExchanges State.eachLane
  refine ⟨?_, ?_, ?_, ?_, ?_, ?_, ?_, ?_, ?_, ?_, ?_⟩ <;> exact foldl_kept _ _ (fun s a => by simp) _ _

@[simp] theorem State.enterJudging_frame (s : State) :
    (s.enterJudging).power = s.power ∧ (s.enterJudging).standbyLatch = s.standbyLatch ∧
      (s.enterJudging).clock = s.clock ∧ (s.enterJudging).timebase = s.timebase ∧
      (s.enterJudging).wall = s.wall ∧ (s.enterJudging).lanes = s.lanes ∧
      (s.enterJudging).scanner = s.scanner ∧ (s.enterJudging).placing = s.placing ∧
      (s.enterJudging).store = s.store ∧ (s.enterJudging).link = s.link ∧
      (s.enterJudging).pending = s.pending := by
  simp [State.enterJudging]

@[simp] theorem State.endHeat_frame (h : HeatRecord) (cause : HeatCause) (s : State) :
    (s.endHeat h cause).power = s.power ∧ (s.endHeat h cause).standbyLatch = s.standbyLatch ∧
      (s.endHeat h cause).clock = s.clock ∧ (s.endHeat h cause).store = s.store ∧
      (s.endHeat h cause).pending = s.pending := by
  simp [State.endHeat]

@[simp] theorem State.endIfDone_frame (h : HeatRecord) (s : State) :
    (s.endIfDone h).power = s.power ∧ (s.endIfDone h).standbyLatch = s.standbyLatch ∧
      (s.endIfDone h).clock = s.clock ∧ (s.endIfDone h).store = s.store ∧
      (s.endIfDone h).pending = s.pending := by
  unfold State.endIfDone; repeat' split
  all_goals simp

@[simp] theorem State.overtime_frame (s : State) :
    (s.overtime).power = s.power ∧ (s.overtime).standbyLatch = s.standbyLatch ∧
      (s.overtime).clock = s.clock ∧ (s.overtime).store = s.store ∧
      (s.overtime).pending = s.pending := by
  unfold State.overtime; repeat' split
  all_goals simp

@[simp] theorem State.stopTimebase_frame (s : State) :
    (s.stopTimebase).power = s.power ∧ (s.stopTimebase).standbyLatch = s.standbyLatch ∧
      (s.stopTimebase).heat = s.heat ∧ (s.stopTimebase).wall = s.wall ∧
      (s.stopTimebase).lanes = s.lanes ∧ (s.stopTimebase).scanner = s.scanner ∧
      (s.stopTimebase).placing = s.placing ∧ (s.stopTimebase).board = s.board ∧
      (s.stopTimebase).store = s.store ∧ (s.stopTimebase).link = s.link ∧
      (s.stopTimebase).pending = s.pending := by
  simp [State.stopTimebase]

@[simp] theorem State.limitHeat_frame (s : State) :
    (s.limitHeat).power = s.power ∧ (s.limitHeat).standbyLatch = s.standbyLatch ∧
      (s.limitHeat).clock = s.clock ∧ (s.limitHeat).store = s.store ∧
      (s.limitHeat).pending = s.pending := by
  unfold State.limitHeat; repeat' split
  all_goals simp

@[simp] theorem State.reachLimit_frame (s : State) :
    (s.reachLimit).power = s.power ∧ (s.reachLimit).standbyLatch = s.standbyLatch ∧
      (s.reachLimit).store = s.store ∧ (s.reachLimit).pending = s.pending := by
  simp [State.reachLimit]

@[simp] theorem State.setHeld_frame (held : List Byte) (s : State) :
    (s.setHeld held).power = s.power ∧ (s.setHeld held).standbyLatch = s.standbyLatch ∧
      (s.setHeld held).clock = s.clock ∧ (s.setHeld held).timebase = s.timebase ∧
      (s.setHeld held).heat = s.heat ∧ (s.setHeld held).wall = s.wall ∧
      (s.setHeld held).lanes = s.lanes ∧ (s.setHeld held).scanner = s.scanner ∧
      (s.setHeld held).placing = s.placing ∧ (s.setHeld held).board = s.board ∧
      (s.setHeld held).store = s.store ∧ (s.setHeld held).pending = s.pending := by
  simp [State.setHeld]

@[simp] theorem State.immediate_frame (r : Reply) (s : State) :
    (s.immediate r).power = s.power ∧ (s.immediate r).standbyLatch = s.standbyLatch ∧
      (s.immediate r).clock = s.clock ∧ (s.immediate r).timebase = s.timebase ∧
      (s.immediate r).heat = s.heat ∧ (s.immediate r).wall = s.wall ∧
      (s.immediate r).lanes = s.lanes ∧ (s.immediate r).scanner = s.scanner ∧
      (s.immediate r).placing = s.placing ∧ (s.immediate r).board = s.board ∧
      (s.immediate r).store = s.store ∧ (s.immediate r).pending = s.pending := by
  unfold State.immediate; repeat' split
  all_goals simp

@[simp] theorem State.joinBuffer_frame (r : Request) (s : State) :
    (s.joinBuffer r).power = s.power ∧ (s.joinBuffer r).standbyLatch = s.standbyLatch ∧
      (s.joinBuffer r).clock = s.clock ∧ (s.joinBuffer r).timebase = s.timebase ∧
      (s.joinBuffer r).heat = s.heat ∧ (s.joinBuffer r).wall = s.wall ∧
      (s.joinBuffer r).lanes = s.lanes ∧ (s.joinBuffer r).scanner = s.scanner ∧
      (s.joinBuffer r).placing = s.placing ∧ (s.joinBuffer r).board = s.board ∧
      (s.joinBuffer r).store = s.store ∧ (s.joinBuffer r).pending = s.pending := by
  unfold State.joinBuffer; repeat' split
  all_goals simp

@[simp] theorem State.transmit_frame (s : State) :
    (s.transmit).power = s.power ∧ (s.transmit).standbyLatch = s.standbyLatch ∧
      (s.transmit).clock = s.clock ∧ (s.transmit).timebase = s.timebase ∧
      (s.transmit).heat = s.heat ∧ (s.transmit).wall = s.wall ∧
      (s.transmit).lanes = s.lanes ∧ (s.transmit).scanner = s.scanner ∧
      (s.transmit).placing = s.placing ∧ (s.transmit).board = s.board ∧
      (s.transmit).store = s.store ∧ (s.transmit).pending = s.pending := by
  unfold State.transmit; repeat' split
  all_goals simp

@[simp] theorem State.settle_frame (s : State) :
    (s.settle).power = s.power ∧ (s.settle).standbyLatch = s.standbyLatch ∧
      (s.settle).clock = s.clock ∧ (s.settle).timebase = s.timebase ∧
      (s.settle).heat = s.heat ∧ (s.settle).wall = s.wall ∧
      (s.settle).lanes = s.lanes ∧ (s.settle).scanner = s.scanner ∧
      (s.settle).placing = s.placing ∧ (s.settle).store = s.store ∧
      (s.settle).pending = s.pending := by
  simp [State.settle]

@[simp] theorem State.takeRaceLimit_frame (s : State) :
    (s.takeRaceLimit).power = s.power ∧ (s.takeRaceLimit).standbyLatch = s.standbyLatch ∧
      (s.takeRaceLimit).store = s.store ∧ (s.takeRaceLimit).pending = s.pending := by
  unfold State.takeRaceLimit; repeat' split
  all_goals simp

@[simp] theorem State.takeMasterLimit_frame (s : State) :
    (s.takeMasterLimit).power = s.power ∧ (s.takeMasterLimit).standbyLatch = s.standbyLatch ∧
      (s.takeMasterLimit).store = s.store ∧ (s.takeMasterLimit).pending = s.pending := by
  simp [State.takeMasterLimit]

@[simp] theorem State.reach_frame (m : Nat) (s : State) :
    (s.reach m).power = s.power ∧ (s.reach m).standbyLatch = s.standbyLatch ∧
      (s.reach m).store = s.store ∧ (s.reach m).pending = s.pending := by
  unfold State.reach
  refine ⟨?_, ?_, ?_, ?_⟩ <;>
    (try simp) <;> (repeat' split) <;> (try simp)

@[simp] theorem State.missWindow_frame (s : State) :
    (s.missWindow).power = s.power ∧ (s.missWindow).standbyLatch = s.standbyLatch ∧
      (s.missWindow).store = s.store ∧ (s.missWindow).pending = s.pending := by
  unfold State.missWindow State.windowEnds
  dsimp only
  repeat' split
  all_goals simp

@[simp] theorem State.pass_frame (m : Nat) (s : State) :
    (s.pass m).power = s.power ∧ (s.pass m).standbyLatch = s.standbyLatch ∧
      (s.pass m).store = s.store ∧ (s.pass m).pending = s.pending := by
  unfold State.pass
  dsimp only
  split <;> simp

end Sys2Proof.Machine
end

