-- ==== Sys2Proof/Laws/LinkFrames.lean ====
section
/-!
SUPPORT. Of the console link, the shared operations of the other blocks touch only the notice queue and
the GAP mark: one lemma an operation, a field a conjunct. An ended probe also adds its reply.
-/

namespace Sys2Proof.Machine

@[simp] theorem State.pushReply_link (r : Reply) (s : State) :
    (s.pushReply r).link.held = s.link.held ∧ (s.pushReply r).link.lastByte = s.link.lastByte ∧
      (s.pushReply r).link.discards = s.link.discards ∧ (s.pushReply r).link.buffer = s.link.buffer ∧
      (s.pushReply r).link.replies = s.link.replies ++ [r] ∧
      (s.pushReply r).link.notices = s.link.notices ∧ (s.pushReply r).link.gap = s.link.gap ∧
      (s.pushReply r).link.line = s.link.line ∧ (s.pushReply r).link.restarting = s.link.restarting := by
  simp [State.pushReply]

@[simp] theorem State.notify_link (body : NoticeBody) (s : State) :
    (s.notify body).link.held = s.link.held ∧ (s.notify body).link.lastByte = s.link.lastByte ∧
      (s.notify body).link.discards = s.link.discards ∧ (s.notify body).link.buffer = s.link.buffer ∧
      (s.notify body).link.replies = s.link.replies ∧ (s.notify body).link.line = s.link.line ∧
      (s.notify body).link.restarting = s.link.restarting := by
  unfold State.notify; repeat' split
  all_goals simp

@[simp] theorem State.notifyHeat_link (previous : RaceState) (cause : HeatCause) (s : State) :
    (s.notifyHeat previous cause).link.held = s.link.held ∧ (s.notifyHeat previous cause).link.lastByte = s.link.lastByte ∧
      (s.notifyHeat previous cause).link.discards = s.link.discards ∧ (s.notifyHeat previous cause).link.buffer = s.link.buffer ∧
      (s.notifyHeat previous cause).link.replies = s.link.replies ∧ (s.notifyHeat previous cause).link.line = s.link.line ∧
      (s.notifyHeat previous cause).link.restarting = s.link.restarting := by
  simp [State.notifyHeat]

@[simp] theorem State.notifyTimebase_link (previous : TimebaseState) (cause : TimebaseCause) (s : State) :
    (s.notifyTimebase previous cause).link.held = s.link.held ∧ (s.notifyTimebase previous cause).link.lastByte = s.link.lastByte ∧
      (s.notifyTimebase previous cause).link.discards = s.link.discards ∧ (s.notifyTimebase previous cause).link.buffer = s.link.buffer ∧
      (s.notifyTimebase previous cause).link.replies = s.link.replies ∧ (s.notifyTimebase previous cause).link.line = s.link.line ∧
      (s.notifyTimebase previous cause).link.restarting = s.link.restarting := by
  simp [State.notifyTimebase]

@[simp] theorem State.enterLocked_link (cause : TimebaseCause) (s : State) :
    (s.enterLocked cause).link.held = s.link.held ∧ (s.enterLocked cause).link.lastByte = s.link.lastByte ∧
      (s.enterLocked cause).link.discards = s.link.discards ∧ (s.enterLocked cause).link.buffer = s.link.buffer ∧
      (s.enterLocked cause).link.replies = s.link.replies ∧ (s.enterLocked cause).link.line = s.link.line ∧
      (s.enterLocked cause).link.restarting = s.link.restarting := by
  simp [State.enterLocked]

@[simp] theorem State.holdoverReturn_link (s : State) :
    (s.holdoverReturn).link.held = s.link.held ∧ (s.holdoverReturn).link.lastByte = s.link.lastByte ∧
      (s.holdoverReturn).link.discards = s.link.discards ∧ (s.holdoverReturn).link.buffer = s.link.buffer ∧
      (s.holdoverReturn).link.replies = s.link.replies ∧ (s.holdoverReturn).link.line = s.link.line ∧
      (s.holdoverReturn).link.restarting = s.link.restarting := by
  unfold State.holdoverReturn; repeat' split
  all_goals simp

@[simp] theorem State.goodWindowEnd_link (s : State) :
    (s.goodWindowEnd).link.held = s.link.held ∧ (s.goodWindowEnd).link.lastByte = s.link.lastByte ∧
      (s.goodWindowEnd).link.discards = s.link.discards ∧ (s.goodWindowEnd).link.buffer = s.link.buffer ∧
      (s.goodWindowEnd).link.replies = s.link.replies ∧ (s.goodWindowEnd).link.line = s.link.line ∧
      (s.goodWindowEnd).link.restarting = s.link.restarting := by
  unfold State.goodWindowEnd
  refine ⟨?_, ?_, ?_, ?_, ?_, ?_, ?_⟩ <;>
    (try simp) <;> (repeat' split) <;> (try simp)

@[simp] theorem State.badWindowEnd_link (s : State) :
    (s.badWindowEnd).link.held = s.link.held ∧ (s.badWindowEnd).link.lastByte = s.link.lastByte ∧
      (s.badWindowEnd).link.discards = s.link.discards ∧ (s.badWindowEnd).link.buffer = s.link.buffer ∧
      (s.badWindowEnd).link.replies = s.link.replies ∧ (s.badWindowEnd).link.line = s.link.line ∧
      (s.badWindowEnd).link.restarting = s.link.restarting := by
  unfold State.badWindowEnd; repeat' split
  all_goals simp

@[simp] theorem State.judgeWindow_link (cycles : Nat) (s : State) :
    (s.judgeWindow cycles).link.held = s.link.held ∧ (s.judgeWindow cycles).link.lastByte = s.link.lastByte ∧
      (s.judgeWindow cycles).link.discards = s.link.discards ∧ (s.judgeWindow cycles).link.buffer = s.link.buffer ∧
      (s.judgeWindow cycles).link.replies = s.link.replies ∧ (s.judgeWindow cycles).link.line = s.link.line ∧
      (s.judgeWindow cycles).link.restarting = s.link.restarting := by
  unfold State.judgeWindow; repeat' split
  all_goals simp

@[simp] theorem State.changeSource_link (source : TimeSource) (s : State) :
    (s.changeSource source).link.held = s.link.held ∧ (s.changeSource source).link.lastByte = s.link.lastByte ∧
      (s.changeSource source).link.discards = s.link.discards ∧ (s.changeSource source).link.buffer = s.link.buffer ∧
      (s.changeSource source).link.replies = s.link.replies ∧ (s.changeSource source).link.line = s.link.line ∧
      (s.changeSource source).link.restarting = s.link.restarting := by
  unfold State.changeSource; repeat' split
  all_goals simp

@[simp] theorem State.endProbe_link (complete : Bool) (s : State) :
    (s.endProbe complete).link.held = s.link.held ∧ (s.endProbe complete).link.lastByte = s.link.lastByte ∧
      (s.endProbe complete).link.discards = s.link.discards ∧ (s.endProbe complete).link.buffer = s.link.buffer ∧
      (s.endProbe complete).link.line = s.link.line ∧ (s.endProbe complete).link.restarting = s.link.restarting := by
  unfold State.endProbe; repeat' split
  all_goals simp

@[simp] theorem State.notifyPlaces_link (cause : PlacesCause) (before : Vector LaneRecord 10) (s : State) :
    (s.notifyPlaces cause before).link.held = s.link.held ∧ (s.notifyPlaces cause before).link.lastByte = s.link.lastByte ∧
      (s.notifyPlaces cause before).link.discards = s.link.discards ∧ (s.notifyPlaces cause before).link.buffer = s.link.buffer ∧
      (s.notifyPlaces cause before).link.replies = s.link.replies ∧ (s.notifyPlaces cause before).link.line = s.link.line ∧
      (s.notifyPlaces cause before).link.restarting = s.link.restarting := by
  unfold State.notifyPlaces; repeat' split
  all_goals simp

@[simp] theorem State.reorder_link (cause : PlacesCause) (order : List (Lane × Nat)) (s : State) :
    (s.reorder cause order).link.held = s.link.held ∧ (s.reorder cause order).link.lastByte = s.link.lastByte ∧
      (s.reorder cause order).link.discards = s.link.discards ∧ (s.reorder cause order).link.buffer = s.link.buffer ∧
      (s.reorder cause order).link.replies = s.link.replies ∧ (s.reorder cause order).link.line = s.link.line ∧
      (s.reorder cause order).link.restarting = s.link.restarting := by
  simp [State.reorder]

@[simp] theorem State.placeFinish_link (lane : Lane) (official : Nat) (s : State) :
    (s.placeFinish lane official).link.held = s.link.held ∧ (s.placeFinish lane official).link.lastByte = s.link.lastByte ∧
      (s.placeFinish lane official).link.discards = s.link.discards ∧ (s.placeFinish lane official).link.buffer = s.link.buffer ∧
      (s.placeFinish lane official).link.replies = s.link.replies ∧ (s.placeFinish lane official).link.line = s.link.line ∧
      (s.placeFinish lane official).link.restarting = s.link.restarting := by
  simp [State.placeFinish]

@[simp] theorem State.notifyReactions_link (lanes : List Lane) (s : State) :
    (s.notifyReactions lanes).link.held = s.link.held ∧ (s.notifyReactions lanes).link.lastByte = s.link.lastByte ∧
      (s.notifyReactions lanes).link.discards = s.link.discards ∧ (s.notifyReactions lanes).link.buffer = s.link.buffer ∧
      (s.notifyReactions lanes).link.replies = s.link.replies ∧ (s.notifyReactions lanes).link.line = s.link.line ∧
      (s.notifyReactions lanes).link.restarting = s.link.restarting := by
  unfold State.notifyReactions; repeat' split
  all_goals simp

@[simp] theorem State.notOnPlatform_link (lane : Lane) (s : State) :
    (s.notOnPlatform lane).link.held = s.link.held ∧ (s.notOnPlatform lane).link.lastByte = s.link.lastByte ∧
      (s.notOnPlatform lane).link.discards = s.link.discards ∧ (s.notOnPlatform lane).link.buffer = s.link.buffer ∧
      (s.notOnPlatform lane).link.replies = s.link.replies ∧ (s.notOnPlatform lane).link.line = s.link.line ∧
      (s.notOnPlatform lane).link.restarting = s.link.restarting := by
  unfold State.notOnPlatform; repeat' split
  all_goals simp

@[simp] theorem State.giveVerdict_link (h : HeatRecord) (lane : Lane) (r : ExchangeRecord) (cause : SettleCause) (s : State) :
    (s.giveVerdict h lane r cause).link.held = s.link.held ∧ (s.giveVerdict h lane r cause).link.lastByte = s.link.lastByte ∧
      (s.giveVerdict h lane r cause).link.discards = s.link.discards ∧ (s.giveVerdict h lane r cause).link.buffer = s.link.buffer ∧
      (s.giveVerdict h lane r cause).link.replies = s.link.replies ∧ (s.giveVerdict h lane r cause).link.line = s.link.line ∧
      (s.giveVerdict h lane r cause).link.restarting = s.link.restarting := by
  unfold State.giveVerdict; repeat' split
  all_goals simp

@[simp] theorem State.settleUnjudged_link (h : HeatRecord) (lane : Lane) (cause : SettleCause) (r : ExchangeRecord) (s : State) :
    (s.settleUnjudged h lane cause r).link.held = s.link.held ∧ (s.settleUnjudged h lane cause r).link.lastByte = s.link.lastByte ∧
      (s.settleUnjudged h lane cause r).link.discards = s.link.discards ∧ (s.settleUnjudged h lane cause r).link.buffer = s.link.buffer ∧
      (s.settleUnjudged h lane cause r).link.replies = s.link.replies ∧ (s.settleUnjudged h lane cause r).link.line = s.link.line ∧
      (s.settleUnjudged h lane cause r).link.restarting = s.link.restarting := by
  simp [State.settleUnjudged]

@[simp] theorem State.settlePending_link (h : HeatRecord) (lane : Lane) (cause : SettleCause) (s : State) :
    (s.settlePending h lane cause).link.held = s.link.held ∧ (s.settlePending h lane cause).link.lastByte = s.link.lastByte ∧
      (s.settlePending h lane cause).link.discards = s.link.discards ∧ (s.settlePending h lane cause).link.buffer = s.link.buffer ∧
      (s.settlePending h lane cause).link.replies = s.link.replies ∧ (s.settlePending h lane cause).link.line = s.link.line ∧
      (s.settlePending h lane cause).link.restarting = s.link.restarting := by
  unfold State.settlePending
  refine ⟨?_, ?_, ?_, ?_, ?_, ?_, ?_⟩
  · exact foldl_kept (fun s : State => s.link.held) _ (fun s a => by simp) _ _
  · exact foldl_kept (fun s : State => s.link.lastByte) _ (fun s a => by simp) _ _
  · exact foldl_kept (fun s : State => s.link.discards) _ (fun s a => by simp) _ _
  · exact foldl_kept (fun s : State => s.link.buffer) _ (fun s a => by simp) _ _
  · exact foldl_kept (fun s : State => s.link.replies) _ (fun s a => by simp) _ _
  · exact foldl_kept (fun s : State => s.link.line) _ (fun s a => by simp) _ _
  · exact foldl_kept (fun s : State => s.link.restarting) _ (fun s a => by simp) _ _

@[simp] theorem State.evaluateExchange_link (h : HeatRecord) (lane : Lane) (leg : Nat) (cause : SettleCause) (s : State) :
    (s.evaluateExchange h lane leg cause).link.held = s.link.held ∧ (s.evaluateExchange h lane leg cause).link.lastByte = s.link.lastByte ∧
      (s.evaluateExchange h lane leg cause).link.discards = s.link.discards ∧ (s.evaluateExchange h lane leg cause).link.buffer = s.link.buffer ∧
      (s.evaluateExchange h lane leg cause).link.replies = s.link.replies ∧ (s.evaluateExchange h lane leg cause).link.line = s.link.line ∧
      (s.evaluateExchange h lane leg cause).link.restarting = s.link.restarting := by
  unfold State.evaluateExchange; repeat' split
  all_goals simp

@[simp] theorem State.createExchange_link (h : HeatRecord) (lane : Lane) (leg : Nat) (s : State) :
    (s.createExchange h lane leg).link.held = s.link.held ∧ (s.createExchange h lane leg).link.lastByte = s.link.lastByte ∧
      (s.createExchange h lane leg).link.discards = s.link.discards ∧ (s.createExchange h lane leg).link.buffer = s.link.buffer ∧
      (s.createExchange h lane leg).link.replies = s.link.replies ∧ (s.createExchange h lane leg).link.line = s.link.line ∧
      (s.createExchange h lane leg).link.restarting = s.link.restarting := by
  unfold State.createExchange; repeat' split
  all_goals simp

@[simp] theorem State.legEndClosed_link (h : HeatRecord) (lane : Lane) (leg : Nat) (source : OfficialSource) (p : Option Nat) (cause : SettleCause) (s : State) :
    (s.legEndClosed h lane leg source p cause).link.held = s.link.held ∧ (s.legEndClosed h lane leg source p cause).link.lastByte = s.link.lastByte ∧
      (s.legEndClosed h lane leg source p cause).link.discards = s.link.discards ∧ (s.legEndClosed h lane leg source p cause).link.buffer = s.link.buffer ∧
      (s.legEndClosed h lane leg source p cause).link.replies = s.link.replies ∧ (s.legEndClosed h lane leg source p cause).link.line = s.link.line ∧
      (s.legEndClosed h lane leg source p cause).link.restarting = s.link.restarting := by
  unfold State.legEndClosed; repeat' split
  all_goals simp

@[simp] theorem State.judgeTurn_link (h : HeatRecord) (lane : Lane) (s : State) :
    (s.judgeTurn h lane).link.held = s.link.held ∧ (s.judgeTurn h lane).link.lastByte = s.link.lastByte ∧
      (s.judgeTurn h lane).link.discards = s.link.discards ∧ (s.judgeTurn h lane).link.buffer = s.link.buffer ∧
      (s.judgeTurn h lane).link.replies = s.link.replies ∧ (s.judgeTurn h lane).link.line = s.link.line ∧
      (s.judgeTurn h lane).link.restarting = s.link.restarting := by
  unfold State.judgeTurn
  refine ⟨?_, ?_, ?_, ?_, ?_, ?_, ?_⟩ <;>
    (try simp) <;> (repeat' split) <;> (try simp)

@[simp] theorem State.storeTakeover_link (h : HeatRecord) (lane : Lane) (d : Int) (s : State) :
    (s.storeTakeover h lane d).link.held = s.link.held ∧ (s.storeTakeover h lane d).link.lastByte = s.link.lastByte ∧
      (s.storeTakeover h lane d).link.discards = s.link.discards ∧ (s.storeTakeover h lane d).link.buffer = s.link.buffer ∧
      (s.storeTakeover h lane d).link.replies = s.link.replies ∧ (s.storeTakeover h lane d).link.line = s.link.line ∧
      (s.storeTakeover h lane d).link.restarting = s.link.restarting := by
  simp [State.storeTakeover]

@[simp] theorem State.takeDeparture_link (h : HeatRecord) (lane : Lane) (d : Int) (s : State) :
    (s.takeDeparture h lane d).link.held = s.link.held ∧ (s.takeDeparture h lane d).link.lastByte = s.link.lastByte ∧
      (s.takeDeparture h lane d).link.discards = s.link.discards ∧ (s.takeDeparture h lane d).link.buffer = s.link.buffer ∧
      (s.takeDeparture h lane d).link.replies = s.link.replies ∧ (s.takeDeparture h lane d).link.line = s.link.line ∧
      (s.takeDeparture h lane d).link.restarting = s.link.restarting := by
  unfold State.takeDeparture
  refine ⟨?_, ?_, ?_, ?_, ?_, ?_, ?_⟩ <;>
    (try simp) <;> (repeat' split) <;> (try simp)

@[simp] theorem State.scannerFault_link (h : HeatRecord) (s : State) :
    (s.scannerFault h).link.held = s.link.held ∧ (s.scannerFault h).link.lastByte = s.link.lastByte ∧
      (s.scannerFault h).link.discards = s.link.discards ∧ (s.scannerFault h).link.buffer = s.link.buffer ∧
      (s.scannerFault h).link.replies = s.link.replies ∧ (s.scannerFault h).link.line = s.link.line ∧
      (s.scannerFault h).link.restarting = s.link.restarting := by
  unfold State.scannerFault
  refine ⟨?_, ?_, ?_, ?_, ?_, ?_, ?_⟩ <;>
    (try simp) <;> (repeat' split) <;> (try simp)

@[simp] theorem State.sendSplit_link (lane : Lane) (r : LengthRecord) (leg : Nat) (s : State) :
    (s.sendSplit lane r leg).link.held = s.link.held ∧ (s.sendSplit lane r leg).link.lastByte = s.link.lastByte ∧
      (s.sendSplit lane r leg).link.discards = s.link.discards ∧ (s.sendSplit lane r leg).link.buffer = s.link.buffer ∧
      (s.sendSplit lane r leg).link.replies = s.link.replies ∧ (s.sendSplit lane r leg).link.line = s.link.line ∧
      (s.sendSplit lane r leg).link.restarting = s.link.restarting := by
  simp [State.sendSplit]

@[simp] theorem State.acceptTurn_link (h : HeatRecord) (lane : Lane) (time : Nat) (s : State) :
    (s.acceptTurn h lane time).link.held = s.link.held ∧ (s.acceptTurn h lane time).link.lastByte = s.link.lastByte ∧
      (s.acceptTurn h lane time).link.discards = s.link.discards ∧ (s.acceptTurn h lane time).link.buffer = s.link.buffer ∧
      (s.acceptTurn h lane time).link.replies = s.link.replies ∧ (s.acceptTurn h lane time).link.line = s.link.line ∧
      (s.acceptTurn h lane time).link.restarting = s.link.restarting := by
  simp [State.acceptTurn]

@[simp] theorem State.openWindow_link (h : HeatRecord) (lane : Lane) (e : Evidence) (s : State) :
    (s.openWindow h lane e).link.held = s.link.held ∧ (s.openWindow h lane e).link.lastByte = s.link.lastByte ∧
      (s.openWindow h lane e).link.discards = s.link.discards ∧ (s.openWindow h lane e).link.buffer = s.link.buffer ∧
      (s.openWindow h lane e).link.replies = s.link.replies ∧ (s.openWindow h lane e).link.line = s.link.line ∧
      (s.openWindow h lane e).link.restarting = s.link.restarting := by
  simp [State.openWindow]

@[simp] theorem State.closeLegEnd_link (h : HeatRecord) (lane : Lane) (w : FinishWindow) (s : State) :
    (s.closeLegEnd h lane w).link.held = s.link.held ∧ (s.closeLegEnd h lane w).link.lastByte = s.link.lastByte ∧
      (s.closeLegEnd h lane w).link.discards = s.link.discards ∧ (s.closeLegEnd h lane w).link.buffer = s.link.buffer ∧
      (s.closeLegEnd h lane w).link.replies = s.link.replies ∧ (s.closeLegEnd h lane w).link.line = s.link.line ∧
      (s.closeLegEnd h lane w).link.restarting = s.link.restarting := by
  simp [State.closeLegEnd]

@[simp] theorem State.closeFinal_link (h : HeatRecord) (lane : Lane) (w : FinishWindow) (cause : CloseCause) (s : State) :
    (s.closeFinal h lane w cause).link.held = s.link.held ∧ (s.closeFinal h lane w cause).link.lastByte = s.link.lastByte ∧
      (s.closeFinal h lane w cause).link.discards = s.link.discards ∧ (s.closeFinal h lane w cause).link.buffer = s.link.buffer ∧
      (s.closeFinal h lane w cause).link.replies = s.link.replies ∧ (s.closeFinal h lane w cause).link.line = s.link.line ∧
      (s.closeFinal h lane w cause).link.restarting = s.link.restarting := by
  unfold State.closeFinal
  refine ⟨?_, ?_, ?_, ?_, ?_, ?_, ?_⟩ <;>
    (try simp) <;> (repeat' split) <;> (try simp)

@[simp] theorem State.closeWindow_link (h : HeatRecord) (cause : CloseCause) (lane : Lane) (s : State) :
    (s.closeWindow h cause lane).link.held = s.link.held ∧ (s.closeWindow h cause lane).link.lastByte = s.link.lastByte ∧
      (s.closeWindow h cause lane).link.discards = s.link.discards ∧ (s.closeWindow h cause lane).link.buffer = s.link.buffer ∧
      (s.closeWindow h cause lane).link.replies = s.link.replies ∧ (s.closeWindow h cause lane).link.line = s.link.line ∧
      (s.closeWindow h cause lane).link.restarting = s.link.restarting := by
  unfold State.closeWindow
  refine ⟨?_, ?_, ?_, ?_, ?_, ?_, ?_⟩ <;>
    (try simp) <;> (repeat' split) <;> (try simp)

@[simp] theorem State.skipTurn_link (h : HeatRecord) (lane : Lane) (touch : PadTouch) (s : State) :
    (s.skipTurn h lane touch).link.held = s.link.held ∧ (s.skipTurn h lane touch).link.lastByte = s.link.lastByte ∧
      (s.skipTurn h lane touch).link.discards = s.link.discards ∧ (s.skipTurn h lane touch).link.buffer = s.link.buffer ∧
      (s.skipTurn h lane touch).link.replies = s.link.replies ∧ (s.skipTurn h lane touch).link.line = s.link.line ∧
      (s.skipTurn h lane touch).link.restarting = s.link.restarting := by
  unfold State.skipTurn
  refine ⟨?_, ?_, ?_, ?_, ?_, ?_, ?_⟩ <;>
    (try simp) <;> (repeat' split) <;> (try simp)

@[simp] theorem State.skipLegEnd_link (h : HeatRecord) (lane : Lane) (touch : PadTouch) (s : State) :
    (s.skipLegEnd h lane touch).link.held = s.link.held ∧ (s.skipLegEnd h lane touch).link.lastByte = s.link.lastByte ∧
      (s.skipLegEnd h lane touch).link.discards = s.link.discards ∧ (s.skipLegEnd h lane touch).link.buffer = s.link.buffer ∧
      (s.skipLegEnd h lane touch).link.replies = s.link.replies ∧ (s.skipLegEnd h lane touch).link.line = s.link.line ∧
      (s.skipLegEnd h lane touch).link.restarting = s.link.restarting := by
  simp [State.skipLegEnd]

@[simp] theorem State.skip_link (h : HeatRecord) (lane : Lane) (touch : PadTouch) (s : State) :
    (s.skip h lane touch).link.held = s.link.held ∧ (s.skip h lane touch).link.lastByte = s.link.lastByte ∧
      (s.skip h lane touch).link.discards = s.link.discards ∧ (s.skip h lane touch).link.buffer = s.link.buffer ∧
      (s.skip h lane touch).link.replies = s.link.replies ∧ (s.skip h lane touch).link.line = s.link.line ∧
      (s.skip h lane touch).link.restarting = s.link.restarting := by
  unfold State.skip
  refine ⟨?_, ?_, ?_, ?_, ?_, ?_, ?_⟩ <;>
    (try simp) <;> (repeat' split) <;> (try simp)

@[simp] theorem State.takePad_link (h : HeatRecord) (lane : Lane) (wall : Wall) (touch : PadTouch) (s : State) :
    (s.takePad h lane wall touch).link.held = s.link.held ∧ (s.takePad h lane wall touch).link.lastByte = s.link.lastByte ∧
      (s.takePad h lane wall touch).link.discards = s.link.discards ∧ (s.takePad h lane wall touch).link.buffer = s.link.buffer ∧
      (s.takePad h lane wall touch).link.replies = s.link.replies ∧ (s.takePad h lane wall touch).link.line = s.link.line ∧
      (s.takePad h lane wall touch).link.restarting = s.link.restarting := by
  unfold State.takePad
  refine ⟨?_, ?_, ?_, ?_, ?_, ?_, ?_⟩ <;>
    (try simp) <;> (repeat' split) <;> (try simp)

@[simp] theorem State.takePress_link (h : HeatRecord) (lane : Lane) (button : Button) (time : Nat) (s : State) :
    (s.takePress h lane button time).link.held = s.link.held ∧ (s.takePress h lane button time).link.lastByte = s.link.lastByte ∧
      (s.takePress h lane button time).link.discards = s.link.discards ∧ (s.takePress h lane button time).link.buffer = s.link.buffer ∧
      (s.takePress h lane button time).link.replies = s.link.replies ∧ (s.takePress h lane button time).link.line = s.link.line ∧
      (s.takePress h lane button time).link.restarting = s.link.restarting := by
  unfold State.takePress
  refine ⟨?_, ?_, ?_, ?_, ?_, ?_, ?_⟩ <;>
    (try simp) <;> (repeat' split) <;> (try simp)

@[simp] theorem State.sealNotices_link (s : State) :
    (s.sealNotices).link.held = s.link.held ∧ (s.sealNotices).link.lastByte = s.link.lastByte ∧
      (s.sealNotices).link.discards = s.link.discards ∧ (s.sealNotices).link.buffer = s.link.buffer ∧
      (s.sealNotices).link.replies = s.link.replies ∧ (s.sealNotices).link.line = s.link.line ∧
      (s.sealNotices).link.restarting = s.link.restarting := by
  simp [State.sealNotices]

@[simp] theorem State.eventEnd_link (s : State) :
    (s.eventEnd).link.held = s.link.held ∧ (s.eventEnd).link.lastByte = s.link.lastByte ∧
      (s.eventEnd).link.discards = s.link.discards ∧ (s.eventEnd).link.buffer = s.link.buffer ∧
      (s.eventEnd).link.replies = s.link.replies ∧ (s.eventEnd).link.line = s.link.line ∧
      (s.eventEnd).link.restarting = s.link.restarting := by
  simp [State.eventEnd]

@[simp] theorem State.completeWrite_link (w : StoreWrite) (s : State) :
    (s.completeWrite w).link.held = s.link.held ∧ (s.completeWrite w).link.lastByte = s.link.lastByte ∧
      (s.completeWrite w).link.discards = s.link.discards ∧ (s.completeWrite w).link.buffer = s.link.buffer ∧
      (s.completeWrite w).link.replies = s.link.replies ∧ (s.completeWrite w).link.line = s.link.line ∧
      (s.completeWrite w).link.restarting = s.link.restarting := by
  unfold State.completeWrite
  refine ⟨?_, ?_, ?_, ?_, ?_, ?_, ?_⟩ <;>
    (try simp) <;> (repeat' split) <;> (try simp)

@[simp] theorem State.deliverTouch_link (pad : PadIx) (lead : Nat) (s : State) :
    (s.deliverTouch pad lead).link.held = s.link.held ∧ (s.deliverTouch pad lead).link.lastByte = s.link.lastByte ∧
      (s.deliverTouch pad lead).link.discards = s.link.discards ∧ (s.deliverTouch pad lead).link.buffer = s.link.buffer ∧
      (s.deliverTouch pad lead).link.replies = s.link.replies ∧ (s.deliverTouch pad lead).link.line = s.link.line ∧
      (s.deliverTouch pad lead).link.restarting = s.link.restarting := by
  unfold State.deliverTouch; repeat' split
  all_goals simp

@[simp] theorem State.qualifyPad_link (pad : PadIx) (s : State) :
    (s.qualifyPad pad).link.held = s.link.held ∧ (s.qualifyPad pad).link.lastByte = s.link.lastByte ∧
      (s.qualifyPad pad).link.discards = s.link.discards ∧ (s.qualifyPad pad).link.buffer = s.link.buffer ∧
      (s.qualifyPad pad).link.replies = s.link.replies ∧ (s.qualifyPad pad).link.line = s.link.line ∧
      (s.qualifyPad pad).link.restarting = s.link.restarting := by
  unfold State.qualifyPad; repeat' split
  all_goals simp

@[simp] theorem State.qualifyArmed_link (s : State) :
    (s.qualifyArmed).link.held = s.link.held ∧ (s.qualifyArmed).link.lastByte = s.link.lastByte ∧
      (s.qualifyArmed).link.discards = s.link.discards ∧ (s.qualifyArmed).link.buffer = s.link.buffer ∧
      (s.qualifyArmed).link.replies = s.link.replies ∧ (s.qualifyArmed).link.line = s.link.line ∧
      (s.qualifyArmed).link.restarting = s.link.restarting := by
  unfold State.qualifyArmed
  refine ⟨?_, ?_, ?_, ?_, ?_, ?_, ?_⟩
  · exact foldl_kept (fun s : State => s.link.held) _ (fun s a => by simp) _ _
  · exact foldl_kept (fun s : State => s.link.lastByte) _ (fun s a => by simp) _ _
  · exact foldl_kept (fun s : State => s.link.discards) _ (fun s a => by simp) _ _
  · exact foldl_kept (fun s : State => s.link.buffer) _ (fun s a => by simp) _ _
  · exact foldl_kept (fun s : State => s.link.replies) _ (fun s a => by simp) _ _
  · exact foldl_kept (fun s : State => s.link.line) _ (fun s a => by simp) _ _
  · exact foldl_kept (fun s : State => s.link.restarting) _ (fun s a => by simp) _ _

@[simp] theorem State.padOpens_link (pad : PadIx) (stamp : Nat) (s : State) :
    (s.padOpens pad stamp).link.held = s.link.held ∧ (s.padOpens pad stamp).link.lastByte = s.link.lastByte ∧
      (s.padOpens pad stamp).link.discards = s.link.discards ∧ (s.padOpens pad stamp).link.buffer = s.link.buffer ∧
      (s.padOpens pad stamp).link.replies = s.link.replies ∧ (s.padOpens pad stamp).link.line = s.link.line ∧
      (s.padOpens pad stamp).link.restarting = s.link.restarting := by
  unfold State.padOpens; repeat' split
  all_goals simp

@[simp] theorem State.deliverPress_link (lane : Lane) (button : Button) (stamp : Nat) (s : State) :
    (s.deliverPress lane button stamp).link.held = s.link.held ∧ (s.deliverPress lane button stamp).link.lastByte = s.link.lastByte ∧
      (s.deliverPress lane button stamp).link.discards = s.link.discards ∧ (s.deliverPress lane button stamp).link.buffer = s.link.buffer ∧
      (s.deliverPress lane button stamp).link.replies = s.link.replies ∧ (s.deliverPress lane button stamp).link.line = s.link.line ∧
      (s.deliverPress lane button stamp).link.restarting = s.link.restarting := by
  unfold State.deliverPress; repeat' split
  all_goals simp

@[simp] theorem State.buttonCloses_link (lane : Lane) (button : Button) (stamp : Nat) (s : State) :
    (s.buttonCloses lane button stamp).link.held = s.link.held ∧ (s.buttonCloses lane button stamp).link.lastByte = s.link.lastByte ∧
      (s.buttonCloses lane button stamp).link.discards = s.link.discards ∧ (s.buttonCloses lane button stamp).link.buffer = s.link.buffer ∧
      (s.buttonCloses lane button stamp).link.replies = s.link.replies ∧ (s.buttonCloses lane button stamp).link.line = s.link.line ∧
      (s.buttonCloses lane button stamp).link.restarting = s.link.restarting := by
  unfold State.buttonCloses
  refine ⟨?_, ?_, ?_, ?_, ?_, ?_, ?_⟩ <;>
    (try simp) <;> (repeat' split) <;> (try simp)

@[simp] theorem State.abandonLeveling_link (s : State) :
    (s.abandonLeveling).link.held = s.link.held ∧ (s.abandonLeveling).link.lastByte = s.link.lastByte ∧
      (s.abandonLeveling).link.discards = s.link.discards ∧ (s.abandonLeveling).link.buffer = s.link.buffer ∧
      (s.abandonLeveling).link.replies = s.link.replies ∧ (s.abandonLeveling).link.line = s.link.line ∧
      (s.abandonLeveling).link.restarting = s.link.restarting := by
  unfold State.abandonLeveling; repeat' split
  all_goals simp

@[simp] theorem State.setCurrent_link (current : Option HeatRecord) (cause : HeatCause) (s : State) :
    (s.setCurrent current cause).link.held = s.link.held ∧ (s.setCurrent current cause).link.lastByte = s.link.lastByte ∧
      (s.setCurrent current cause).link.discards = s.link.discards ∧ (s.setCurrent current cause).link.buffer = s.link.buffer ∧
      (s.setCurrent current cause).link.replies = s.link.replies ∧ (s.setCurrent current cause).link.line = s.link.line ∧
      (s.setCurrent current cause).link.restarting = s.link.restarting := by
  simp [State.setCurrent]

@[simp] theorem State.promote_link (cause : HeatCause) (s : State) :
    (s.promote cause).link.held = s.link.held ∧ (s.promote cause).link.lastByte = s.link.lastByte ∧
      (s.promote cause).link.discards = s.link.discards ∧ (s.promote cause).link.buffer = s.link.buffer ∧
      (s.promote cause).link.replies = s.link.replies ∧ (s.promote cause).link.line = s.link.line ∧
      (s.promote cause).link.restarting = s.link.restarting := by
  unfold State.promote; repeat' split
  all_goals simp

@[simp] theorem State.armHeat_link (h : HeatRecord) (s : State) :
    (s.armHeat h).link.held = s.link.held ∧ (s.armHeat h).link.lastByte = s.link.lastByte ∧
      (s.armHeat h).link.discards = s.link.discards ∧ (s.armHeat h).link.buffer = s.link.buffer ∧
      (s.armHeat h).link.replies = s.link.replies ∧ (s.armHeat h).link.line = s.link.line ∧
      (s.armHeat h).link.restarting = s.link.restarting := by
  unfold State.armHeat; repeat' split
  all_goals simp

@[simp] theorem State.disarmHeat_link (cause : HeatCause) (s : State) :
    (s.disarmHeat cause).link.held = s.link.held ∧ (s.disarmHeat cause).link.lastByte = s.link.lastByte ∧
      (s.disarmHeat cause).link.discards = s.link.discards ∧ (s.disarmHeat cause).link.buffer = s.link.buffer ∧
      (s.disarmHeat cause).link.replies = s.link.replies ∧ (s.disarmHeat cause).link.line = s.link.line ∧
      (s.disarmHeat cause).link.restarting = s.link.restarting := by
  unfold State.disarmHeat
  refine ⟨?_, ?_, ?_, ?_, ?_, ?_, ?_⟩ <;>
    (try simp) <;> (repeat' split) <;> (try simp)

@[simp] theorem State.startHeat_link (h : HeatRecord) (stamp : Nat) (cause : HeatCause) (s : State) :
    (s.startHeat h stamp cause).link.held = s.link.held ∧ (s.startHeat h stamp cause).link.lastByte = s.link.lastByte ∧
      (s.startHeat h stamp cause).link.discards = s.link.discards ∧ (s.startHeat h stamp cause).link.buffer = s.link.buffer ∧
      (s.startHeat h stamp cause).link.replies = s.link.replies ∧ (s.startHeat h stamp cause).link.line = s.link.line ∧
      (s.startHeat h stamp cause).link.restarting = s.link.restarting := by
  simp [State.startHeat]

@[simp] theorem State.recallHeat_link (h : HeatRecord) (stamp : Nat) (cause : HeatCause) (s : State) :
    (s.recallHeat h stamp cause).link.held = s.link.held ∧ (s.recallHeat h stamp cause).link.lastByte = s.link.lastByte ∧
      (s.recallHeat h stamp cause).link.discards = s.link.discards ∧ (s.recallHeat h stamp cause).link.buffer = s.link.buffer ∧
      (s.recallHeat h stamp cause).link.replies = s.link.replies ∧ (s.recallHeat h stamp cause).link.line = s.link.line ∧
      (s.recallHeat h stamp cause).link.restarting = s.link.restarting := by
  simp [State.recallHeat]

@[simp] theorem State.closeRacing_link (h : HeatRecord) (lane : Lane) (s : State) :
    (s.closeRacing h lane).link.held = s.link.held ∧ (s.closeRacing h lane).link.lastByte = s.link.lastByte ∧
      (s.closeRacing h lane).link.discards = s.link.discards ∧ (s.closeRacing h lane).link.buffer = s.link.buffer ∧
      (s.closeRacing h lane).link.replies = s.link.replies ∧ (s.closeRacing h lane).link.line = s.link.line ∧
      (s.closeRacing h lane).link.restarting = s.link.restarting := by
  unfold State.closeRacing; repeat' split
  all_goals simp

@[simp] theorem State.closeOpen_link (h : HeatRecord) (lane : Lane) (s : State) :
    (s.closeOpen h lane).link.held = s.link.held ∧ (s.closeOpen h lane).link.lastByte = s.link.lastByte ∧
      (s.closeOpen h lane).link.discards = s.link.discards ∧ (s.closeOpen h lane).link.buffer = s.link.buffer ∧
      (s.closeOpen h lane).link.replies = s.link.replies ∧ (s.closeOpen h lane).link.line = s.link.line ∧
      (s.closeOpen h lane).link.restarting = s.link.restarting := by
  unfold State.closeOpen; repeat' split
  all_goals simp

@[simp] theorem State.closeWindows_link (h : HeatRecord) (s : State) :
    (s.closeWindows h).link.held = s.link.held ∧ (s.closeWindows h).link.lastByte = s.link.lastByte ∧
      (s.closeWindows h).link.discards = s.link.discards ∧ (s.closeWindows h).link.buffer = s.link.buffer ∧
      (s.closeWindows h).link.replies = s.link.replies ∧ (s.closeWindows h).link.line = s.link.line ∧
      (s.closeWindows h).link.restarting = s.link.restarting := by
  unfold State.closeWindows State.eachLane
  refine ⟨?_, ?_, ?_, ?_, ?_, ?_, ?_⟩
  · exact foldl_kept (fun s : State => s.link.held) _ (fun s a => by simp) _ _
  · exact foldl_kept (fun s : State => s.link.lastByte) _ (fun s a => by simp) _ _
  · exact foldl_kept (fun s : State => s.link.discards) _ (fun s a => by simp) _ _
  · exact foldl_kept (fun s : State => s.link.buffer) _ (fun s a => by simp) _ _
  · exact foldl_kept (fun s : State => s.link.replies) _ (fun s a => by simp) _ _
  · exact foldl_kept (fun s : State => s.link.line) _ (fun s a => by simp) _ _
  · exact foldl_kept (fun s : State => s.link.restarting) _ (fun s a => by simp) _ _

@[simp] theorem State.closeLanes_link (h : HeatRecord) (s : State) :
    (s.closeLanes h).link.held = s.link.held ∧ (s.closeLanes h).link.lastByte = s.link.lastByte ∧
      (s.closeLanes h).link.discards = s.link.discards ∧ (s.closeLanes h).link.buffer = s.link.buffer ∧
      (s.closeLanes h).link.replies = s.link.replies ∧ (s.closeLanes h).link.line = s.link.line ∧
      (s.closeLanes h).link.restarting = s.link.restarting := by
  unfold State.closeLanes State.eachLane
  refine ⟨?_, ?_, ?_, ?_, ?_, ?_, ?_⟩
  · exact foldl_kept (fun s : State => s.link.held) _ (fun s a => by simp) _ _
  · exact foldl_kept (fun s : State => s.link.lastByte) _ (fun s a => by simp) _ _
  · exact foldl_kept (fun s : State => s.link.discards) _ (fun s a => by simp) _ _
  · exact foldl_kept (fun s : State => s.link.buffer) _ (fun s a => by simp) _ _
  · exact foldl_kept (fun s : State => s.link.replies) _ (fun s a => by simp) _ _
  · exact foldl_kept (fun s : State => s.link.line) _ (fun s a => by simp) _ _
  · exact foldl_kept (fun s : State => s.link.restarting) _ (fun s a => by simp) _ _

@[simp] theorem State.settleExchanges_link (h : HeatRecord) (s : State) :
    (s.settleExchanges h).link.held = s.link.held ∧ (s.settleExchanges h).link.lastByte = s.link.lastByte ∧
      (s.settleExchanges h).link.discards = s.link.discards ∧ (s.settleExchanges h).link.buffer = s.link.buffer ∧
      (s.settleExchanges h).link.replies = s.link.replies ∧ (s.settleExchanges h).link.line = s.link.line ∧
      (s.settleExchanges h).link.restarting = s.link.restarting := by
  unfold State.settleExchanges State.eachLane
  refine ⟨?_, ?_, ?_, ?_, ?_, ?_, ?_⟩
  · exact foldl_kept (fun s : State => s.link.held) _ (fun s a => by simp) _ _
  · exact foldl_kept (fun s : State => s.link.lastByte) _ (fun s a => by simp) _ _
  · exact foldl_kept (fun s : State => s.link.discards) _ (fun s a => by simp) _ _
  · exact foldl_kept (fun s : State => s.link.buffer) _ (fun s a => by simp) _ _
  · exact foldl_kept (fun s : State => s.link.replies) _ (fun s a => by simp) _ _
  · exact foldl_kept (fun s : State => s.link.line) _ (fun s a => by simp) _ _
  · exact foldl_kept (fun s : State => s.link.restarting) _ (fun s a => by simp) _ _

@[simp] theorem State.endHeat_link (h : HeatRecord) (cause : HeatCause) (s : State) :
    (s.endHeat h cause).link.held = s.link.held ∧ (s.endHeat h cause).link.lastByte = s.link.lastByte ∧
      (s.endHeat h cause).link.discards = s.link.discards ∧ (s.endHeat h cause).link.buffer = s.link.buffer ∧
      (s.endHeat h cause).link.replies = s.link.replies ∧ (s.endHeat h cause).link.line = s.link.line ∧
      (s.endHeat h cause).link.restarting = s.link.restarting := by
  simp [State.endHeat]

@[simp] theorem State.endIfDone_link (h : HeatRecord) (s : State) :
    (s.endIfDone h).link.held = s.link.held ∧ (s.endIfDone h).link.lastByte = s.link.lastByte ∧
      (s.endIfDone h).link.discards = s.link.discards ∧ (s.endIfDone h).link.buffer = s.link.buffer ∧
      (s.endIfDone h).link.replies = s.link.replies ∧ (s.endIfDone h).link.line = s.link.line ∧
      (s.endIfDone h).link.restarting = s.link.restarting := by
  unfold State.endIfDone; repeat' split
  all_goals simp

@[simp] theorem State.overtime_link (s : State) :
    (s.overtime).link.held = s.link.held ∧ (s.overtime).link.lastByte = s.link.lastByte ∧
      (s.overtime).link.discards = s.link.discards ∧ (s.overtime).link.buffer = s.link.buffer ∧
      (s.overtime).link.replies = s.link.replies ∧ (s.overtime).link.line = s.link.line ∧
      (s.overtime).link.restarting = s.link.restarting := by
  unfold State.overtime; repeat' split
  all_goals simp

@[simp] theorem State.limitHeat_link (s : State) :
    (s.limitHeat).link.held = s.link.held ∧ (s.limitHeat).link.lastByte = s.link.lastByte ∧
      (s.limitHeat).link.discards = s.link.discards ∧ (s.limitHeat).link.buffer = s.link.buffer ∧
      (s.limitHeat).link.replies = s.link.replies ∧ (s.limitHeat).link.line = s.link.line ∧
      (s.limitHeat).link.restarting = s.link.restarting := by
  unfold State.limitHeat; repeat' split
  all_goals simp

@[simp] theorem State.reachLimit_link (s : State) :
    (s.reachLimit).link.held = s.link.held ∧ (s.reachLimit).link.lastByte = s.link.lastByte ∧
      (s.reachLimit).link.discards = s.link.discards ∧ (s.reachLimit).link.buffer = s.link.buffer ∧
      (s.reachLimit).link.line = s.link.line ∧ (s.reachLimit).link.restarting = s.link.restarting := by
  simp [State.reachLimit]

end Sys2Proof.Machine
end

