-- ==== Sys2Proof/Laws/Handlers.lean ====
section
/-!
SUPPORT. What executing a request leaves alone, whichever it is, and when it is answered: one lemma a
handler, and the lemmas for every request.
-/

namespace Sys2Proof.Machine

@[simp] theorem State.accept_state (c : Content) (s : State) : (s.accept c).state = s := rfl
@[simp] theorem State.deny_state (d : Denial) (s : State) : (s.deny d).state = s := rfl
@[simp] theorem State.accept_answer (c : Content) (s : State) :
    (s.accept c).answer = some (.accepted c) := rfl
@[simp] theorem State.deny_answer (d : Denial) (s : State) :
    (s.deny d).answer = some (.refused d) := rfl

/-- What every request's execution leaves alone: power and latch, the clock, the waiting commands, and
of the link everything but the notices, the GAP mark and the RESTART mark. -/
def State.Undisturbed (s t : State) : Prop :=
  t.power = s.power ∧ t.standbyLatch = s.standbyLatch ∧ t.clock = s.clock ∧ t.pending = s.pending ∧
    t.link.held = s.link.held ∧ t.link.lastByte = s.link.lastByte ∧
    t.link.discards = s.link.discards ∧ t.link.buffer = s.link.buffer ∧
    t.link.replies = s.link.replies ∧ t.link.line = s.link.line

theorem State.Undisturbed.refl (s : State) : s.Undisturbed s := by simp [State.Undisturbed]

theorem State.handleLoadHeat_frame (p : List Byte) (s : State) :
    s.Undisturbed (s.handleLoadHeat p).state := by
  unfold State.handleLoadHeat State.Undisturbed
  (repeat' split) <;> (try simp) <;> (repeat' split) <;> simp

theorem State.handleWithdrawHeat_frame (p : List Byte) (s : State) :
    s.Undisturbed (s.handleWithdrawHeat p).state := by
  unfold State.handleWithdrawHeat State.Undisturbed
  (repeat' split) <;> (try simp) <;> (repeat' split) <;> simp

theorem State.handleQueryQueue_frame (p : List Byte) (s : State) :
    s.Undisturbed (s.handleQueryQueue p).state := by
  unfold State.handleQueryQueue State.Undisturbed
  (repeat' split) <;> simp

theorem State.handleArm_frame (p : List Byte) (s : State) :
    s.Undisturbed (s.handleArm p).state := by
  unfold State.handleArm State.Undisturbed
  (repeat' split) <;> simp

theorem State.handleDisarm_frame (p : List Byte) (s : State) :
    s.Undisturbed (s.handleDisarm p).state := by
  unfold State.handleDisarm State.Undisturbed
  (repeat' split) <;> simp

theorem State.handleStart_frame (p : List Byte) (s : State) :
    s.Undisturbed (s.handleStart p).state := by
  unfold State.handleStart State.Undisturbed
  (repeat' split) <;> simp

theorem State.handleRecall_frame (p : List Byte) (s : State) :
    s.Undisturbed (s.handleRecall p).state := by
  unfold State.handleRecall State.Undisturbed
  (repeat' split) <;> simp

theorem State.handleEndHeat_frame (p : List Byte) (s : State) :
    s.Undisturbed (s.handleEndHeat p).state := by
  unfold State.handleEndHeat State.Undisturbed
  (repeat' split) <;> simp

theorem State.handleCloseLane_frame (p : List Byte) (s : State) :
    s.Undisturbed (s.handleCloseLane p).state := by
  unfold State.handleCloseLane
  split
  · next byte =>
    by_cases h1 : 9 < byte.toNat
    · rw [if_pos h1]; exact .refl s
    rw [if_neg h1]
    by_cases h2 : s.heat.race ≠ .running
    · rw [if_pos h2]; exact .refl s
    rw [if_neg h2]
    dsimp only
    cases s.heat.current with
    | none => exact .refl s
    | some h =>
      dsimp only
      by_cases h3 : (s.lanes[laneOf byte.toNat]).status ≠ .racing
      · rw [if_pos h3]; exact .refl s
      · rw [if_neg h3]; simp [State.Undisturbed]
  · exact .refl s

theorem State.handleNextHeat_frame (p : List Byte) (s : State) :
    s.Undisturbed (s.handleNextHeat p).state := by
  unfold State.handleNextHeat State.Undisturbed
  (repeat' split) <;> simp

theorem State.handleAmend_frame (p : List Byte) (s : State) :
    s.Undisturbed (s.handleAmend p).state := by
  unfold State.handleAmend State.Undisturbed
  (repeat' split) <;> (try simp [State.amend]); (repeat' split) <;> simp

theorem State.handleOfficialise_frame (p : List Byte) (s : State) :
    s.Undisturbed (s.handleOfficialise p).state := by
  unfold State.handleOfficialise State.Undisturbed
  (repeat' split) <;> simp

theorem State.handleLockResults_frame (p : List Byte) (s : State) :
    s.Undisturbed (s.handleLockResults p).state := by
  unfold State.handleLockResults State.Undisturbed
  (repeat' split) <;> simp

theorem State.handleStatus_frame (p : List Byte) (s : State) :
    s.Undisturbed (s.handleStatus p).state := by
  unfold State.handleStatus State.Undisturbed
  (repeat' split) <;> simp

theorem State.handleQueryLane_frame (p : List Byte) (s : State) :
    s.Undisturbed (s.handleQueryLane p).state := by
  unfold State.handleQueryLane State.Undisturbed
  (repeat' split) <;> simp

theorem State.handleQueryArchive_frame (p : List Byte) (s : State) :
    s.Undisturbed (s.handleQueryArchive p).state := by
  unfold State.handleQueryArchive State.Undisturbed
  (repeat' split) <;> simp

theorem State.handleArchiveClear_frame (p : List Byte) (s : State) :
    s.Undisturbed (s.handleArchiveClear p).state := by
  unfold State.handleArchiveClear State.Undisturbed
  (repeat' split) <;> simp

theorem State.handleBoardMode_frame (p : List Byte) (s : State) :
    s.Undisturbed (s.handleBoardMode p).state := by
  unfold State.handleBoardMode State.Undisturbed
  (repeat' split) <;> (try simp) <;> (repeat' split) <;> simp

theorem State.handleBoardTest_frame (p : List Byte) (s : State) :
    s.Undisturbed (s.handleBoardTest p).state := by
  unfold State.handleBoardTest State.Undisturbed
  (repeat' split) <;> simp

theorem State.handleBoardText_frame (p : List Byte) (s : State) :
    s.Undisturbed (s.handleBoardText p).state := by
  unfold State.handleBoardText State.Undisturbed
  (repeat' split) <;> simp

theorem State.handleTimebaseRestart_frame (p : List Byte) (s : State) :
    s.Undisturbed (s.handleTimebaseRestart p).state := by
  unfold State.handleTimebaseRestart State.Undisturbed
  (repeat' split) <;> simp

theorem State.handleProfileRead_frame (p : List Byte) (s : State) :
    s.Undisturbed (s.handleProfileRead p).state := by
  unfold State.handleProfileRead State.Undisturbed
  (repeat' split) <;> simp

theorem State.handleProfileWrite_frame (p : List Byte) (s : State) :
    s.Undisturbed (s.handleProfileWrite p).state := by
  unfold State.handleProfileWrite State.Undisturbed
  (repeat' split) <;> simp

theorem State.handleLevelPads_frame (p : List Byte) (s : State) :
    s.Undisturbed (s.handleLevelPads p).state := by
  unfold State.handleLevelPads State.Undisturbed
  (repeat' split) <;> simp

theorem State.handleProbeBlocks_frame (tag : Byte) (p : List Byte) (s : State) :
    s.Undisturbed (s.handleProbeBlocks tag p).state := by
  unfold State.handleProbeBlocks State.Undisturbed
  (repeat' split) <;> simp

theorem State.handleRestart_frame (p : List Byte) (s : State) :
    s.Undisturbed (s.handleRestart p).state := by
  unfold State.handleRestart State.Undisturbed
  (repeat' split) <;> simp

/-- Whatever the request, its execution leaves these alone. -/
theorem State.handle_frame (r : Request) (s : State) : s.Undisturbed (s.handle r).state := by
  obtain ⟨kind, tag, p⟩ := r
  cases kind
  · exact State.handleLoadHeat_frame p s
  · exact State.handleWithdrawHeat_frame p s
  · exact State.handleQueryQueue_frame p s
  · exact State.handleArm_frame p s
  · exact State.handleDisarm_frame p s
  · exact State.handleStart_frame p s
  · exact State.handleRecall_frame p s
  · exact State.handleEndHeat_frame p s
  · exact State.handleCloseLane_frame p s
  · exact State.handleNextHeat_frame p s
  · exact State.handleAmend_frame p s
  · exact State.handleOfficialise_frame p s
  · exact State.handleLockResults_frame p s
  · exact State.handleStatus_frame p s
  · exact State.handleQueryLane_frame p s
  · exact State.handleQueryArchive_frame p s
  · exact State.handleArchiveClear_frame p s
  · exact State.handleBoardMode_frame p s
  · exact State.handleBoardTest_frame p s
  · exact State.handleBoardText_frame p s
  · exact State.handleTimebaseRestart_frame p s
  · exact State.handleProfileRead_frame p s
  · exact State.handleProfileWrite_frame p s
  · exact State.handleLevelPads_frame p s
  · exact State.handleProbeBlocks_frame tag p s
  · exact State.handleRestart_frame p s

end Sys2Proof.Machine
end

