-- ==== Sys2Proof/Laws/Link.lean ====
section
/-!
SUPPORT. The console link's shared operations: what a request does that arrives on a ready link, and
where its reply and its notices are then.
-/

namespace Sys2Proof.Machine

/-! ### Where a message is -/

theorem State.notify_tells (n : NoticeBody) (s : State) : (s.notify n).tells ⟨s.masterTime, n⟩ := by
  unfold State.notify State.tells
  dsimp only
  split <;> simp

/-- A reply that has been made is in the list or on the line; transmission keeps it there. -/
theorem State.transmit_gives {r : Reply} {s : State} (h : s.gives r) : s.transmit.gives r := by
  unfold State.transmit
  split
  · next hc =>
    unfold State.gives at h ⊢
    have hl : s.link.line = none := by
      have := hc
      simp [Link.canBegin] at this
      exact this.1
    rw [hl] at h
    simp only [reduceCtorEq, exists_false, or_false] at h
    dsimp only [Link.begin]
    cases hr : s.link.replies with
    | nil => simp [hr] at h
    | cons a rest =>
      rw [hr] at h
      rcases List.mem_cons.mp h with rfl | h
      · right; exact ⟨s.clock, rfl⟩
      · left; exact h
  · exact h

/-- A notice that has been made is in the queue or on the line; transmission keeps it there. -/
theorem State.transmit_tells {n : Notice} {s : State} (h : s.tells n) : s.transmit.tells n := by
  unfold State.transmit
  split
  · next hc =>
    unfold State.tells at h ⊢
    have hl : s.link.line = none := by
      have := hc
      simp [Link.canBegin] at this
      exact this.1
    rw [hl] at h
    simp only [reduceCtorEq, exists_false, or_false] at h
    dsimp only [Link.begin]
    cases hr : s.link.replies with
    | nil =>
      cases hn : s.link.notices with
      | nil => simp [hn] at h
      | cons a rest =>
        rw [hn] at h
        rcases List.mem_cons.mp h with rfl | h
        · right; exact ⟨s.link.gap, s.clock, rfl⟩
        · left; exact h
    | cons a rest => left; exact h
  · exact h

theorem State.boardSettle_tells {n : Notice} {s : State} (h : s.tells n) : s.boardSettle.tells n := h

theorem State.boardSettle_gives {r : Reply} {s : State} (h : s.gives r) : s.boardSettle.gives r := h

/-! ### The end of an event -/

@[simp] theorem State.sealNotices_fresh (s : State) : s.sealNotices.link.fresh = 0 := rfl

@[simp] theorem State.sealNotices_gap (s : State) : s.sealNotices.link.gap = s.link.gap := rfl

/-- A notice that gives no review reasons stays as it is. -/
theorem State.sealNotices_tells {n : Notice} {s : State} (hp : n.completed s.lanes = n) (h : s.tells n) :
    s.sealNotices.tells n := by
  rcases h with h | h
  · left
    rw [← List.take_append_drop (s.link.notices.length - s.link.fresh) s.link.notices] at h
    rcases List.mem_append.mp h with h | h
    · exact List.mem_append_left _ h
    · exact List.mem_append_right _ (List.mem_map.mpr ⟨n, h, hp⟩)
  · exact Or.inr h

/-- A notice of the event in progress is completed. -/
theorem State.sealNotices_completes {n : Notice} {s : State} (h : n ∈ s.link.freshNotices) :
    s.sealNotices.tells (n.completed s.lanes) :=
  Or.inl (List.mem_append_right _ (List.mem_map_of_mem h))

theorem State.eventEnd_tells {n : Notice} {s : State} (hp : n.completed s.lanes = n) (h : s.tells n) :
    s.eventEnd.tells n :=
  State.sealNotices_tells (s := s.boardSettle) hp h

theorem State.eventEnd_completes {n : Notice} {s : State} (h : n ∈ s.link.freshNotices) :
    s.eventEnd.tells (n.completed s.lanes) :=
  State.sealNotices_completes (s := s.boardSettle) h

theorem State.eventEnd_gives {r : Reply} {s : State} (h : s.gives r) : s.eventEnd.gives r := h

theorem State.settle_tells {n : Notice} {s : State} (hp : n.completed s.lanes = n) (h : s.tells n) :
    s.settle.tells n :=
  State.transmit_tells (State.eventEnd_tells hp h)

theorem State.settle_completes {n : Notice} {s : State} (h : n ∈ s.link.freshNotices) :
    s.settle.tells (n.completed s.lanes) :=
  State.transmit_tells (State.eventEnd_completes h)

theorem State.pushReply_tells {n : Notice} {r : Reply} {s : State} (h : s.tells n) :
    (s.pushReply r).tells n := h

theorem State.pushReply_gives (r : Reply) (s : State) : (s.pushReply r).gives r := by
  unfold State.gives; simp

/-! ### What transmission touches -/

@[simp] theorem State.transmit_link (s : State) :
    s.transmit.link.held = s.link.held ∧ s.transmit.link.lastByte = s.link.lastByte ∧
      s.transmit.link.discards = s.link.discards ∧ s.transmit.link.buffer = s.link.buffer ∧
      s.transmit.link.restarting = s.link.restarting := by
  unfold State.transmit Link.begin
  (repeat' split) <;> simp

@[simp] theorem State.settle_link (s : State) :
    s.settle.link.held = s.link.held ∧ s.settle.link.lastByte = s.link.lastByte ∧
      s.settle.link.discards = s.link.discards ∧ s.settle.link.buffer = s.link.buffer ∧
      s.settle.link.restarting = s.link.restarting := by
  simp [State.settle]

/-- The board's own settings stay when it takes up what an event changed. -/
@[simp] theorem State.boardSettle_settings (s : State) :
    s.boardSettle.board.mode = s.board.mode ∧ s.boardSettle.board.test = s.board.test ∧
      s.boardSettle.board.override = s.board.override ∧ s.boardSettle.board.hold = s.board.hold ∧
      s.boardSettle.board.frozen = s.board.frozen := by
  unfold State.boardSettle boardAfter fullPass joinChanged feedLine beginFrame takeSlot
  dsimp only
  refine ⟨?_, ?_, ?_, ?_, ?_⟩ <;> (repeat' split) <;> rfl

@[simp] theorem State.eventEnd_board (s : State) : s.eventEnd.board = s.boardSettle.board := rfl

@[simp] theorem State.settle_settings (s : State) :
    s.settle.board.mode = s.board.mode ∧ s.settle.board.test = s.board.test ∧
      s.settle.board.override = s.board.override ∧ s.settle.board.hold = s.board.hold ∧
      s.settle.board.frozen = s.board.frozen := by
  simp [State.settle]

/-! ### A request on a ready link -/

/-- Its reply has been made, or it makes none. -/
theorem Handled.replied_gives {h : Handled} {r : Request} {a : Answer} (ha : h.answer = some a) :
    (h.replied r).gives ⟨.execution, some r.kind, r.tag, a⟩ := by
  unfold Handled.replied
  rw [ha]
  exact State.pushReply_gives _ _

theorem State.executed_buffer (r : Request) (s : State) :
    (s.executed r).link.buffer = s.link.buffer := by
  have h := State.handle_frame r s
  unfold State.Undisturbed at h
  unfold State.executed Handled.replied
  split <;> simp [h]

/-- A request that meets an empty buffer, no waiting execution reply and no RESTART is executed at once,
and a free line begins what is then ready (R175, R176, R179). -/
theorem State.submit_ready {s : State} (r : Request) (h : s.linkReady) :
    s.submit r = (s.executed r).transmit := by
  obtain ⟨hb, hw, hr⟩ := h
  unfold State.submit State.joinBuffer
  rw [hb]
  simp only [List.length_nil, Config.bufferMax, Nat.zero_lt_succ, if_true, List.nil_append]
  unfold State.serveAll
  have hs : ({ s with link := { s.link with buffer := [] } } : State) = s := by rw [← hb]
  have hE : State.executeHead { s with link := { s.link with buffer := [r] } } = s.executed r := by
    unfold State.executeHead
    dsimp only
    rw [hs]
  have hc : ({ s.link with buffer := [r] } : Link).canExecute = true := by
    have hw' : ({ s.link with buffer := [r] } : Link).executionWaits = false := hw
    unfold Link.canExecute
    rw [hw']
    simp [hr]
  simp only [List.length_singleton]
  have hbuf : (s.executed r).link.buffer = [] := by rw [State.executed_buffer, hb]
  have hn : (s.executed r).link.canExecute = false := by simp [Link.canExecute, hbuf]
  have hn' : (s.executed r).transmit.link.canExecute = false := by simp [Link.canExecute, hbuf]
  rw [State.serve, if_pos hc, hE, State.serve, hn]
  simp only [Bool.false_eq_true, if_false]
  split
  · next hb' =>
    rw [State.serve, hn']
    simp only [Bool.false_eq_true, if_false]
    have : (s.executed r).transmit.link.canBegin = false := by
      unfold State.transmit
      rw [if_pos hb']
      dsimp only [Link.begin]
      split
      · simp [Link.canBegin]
      · simp [Link.canBegin]
      · next h1 h2 => simp [Link.canBegin, h1, h2] at hb'
    rw [this]; rfl
  · next hb' => unfold State.transmit; rw [if_neg hb']

/-- The clock that comes to no limit only moves. -/
theorem State.reach_quiet {m : Nat} {s : State} (h : s.noLimitBy m = true) : s.reach m = s.advance m := by
  unfold State.noLimitBy at h
  simp only [Bool.and_eq_true, Bool.not_eq_true'] at h
  unfold State.reach
  simp [h.1, h.2]

/-- Quiet time passes, and nothing else happens. -/
theorem State.pass_quiet {m : Nat} {s : State} (h : s.quietUntil m = true) : s.pass m = s.advance m := by
  unfold State.quietUntil at h
  rw [Bool.and_eq_true, Bool.not_eq_true'] at h
  unfold State.pass
  rw [h.2]
  exact State.reach_quiet h.1

/-- The request, as a command on a running part with a ready link, before any limit. -/
theorem State.request_ready {s : State} (kind : RequestKind) (moment : Nat) (tag : Byte) (p : List Byte)
    (hr : s.isRunning = true) (h : s.linkReady) (hq : s.quietUntil moment = true) :
    s.request kind moment tag p = ((s.advance moment).executed ⟨kind, tag, p⟩).transmit := by
  unfold State.request State.whenRunning
  rw [if_pos hr]
  show (s.pass moment).submit _ = _
  rw [State.pass_quiet hq]
  exact State.submit_ready _ h

/-- A request whose handling is known: the state after, and its reply (R176). -/
theorem State.request_handled {s : State} {kind : RequestKind} {moment : Nat} {tag : Byte}
    {p : List Byte} {u : State} {a : Answer} (hr : s.isRunning = true) (h : s.linkReady)
    (hq : s.quietUntil moment = true) (hh : (s.advance moment).handle ⟨kind, tag, p⟩ = ⟨u, some a⟩) :
    s.request kind moment tag p =
      (u.pushReply ⟨.execution, some kind, tag, a⟩).settle := by
  rw [State.request_ready _ _ _ _ hr h hq]
  unfold State.executed
  rw [hh]
  rfl

end Sys2Proof.Machine
end

