-- ==== Sys2Proof/Laws/Events.lean ====
section
/-!
SUPPORT. The shared shape of the events: an event at a deadline that no limit comes before happens at that
deadline, or now when it is past; and what `settle` adds is the board's and the line's.
-/

namespace Sys2Proof.Machine

theorem State.le_advance_clock (m : Nat) (s : State) : s.clock ≤ (s.advance m).clock := by
  unfold State.advance; exact Nat.le_max_left _ _

@[simp] theorem State.advance_masterTime_of_clock (s t : State) (h : t.clock = s.clock) :
    t.masterTime = s.masterTime := by
  unfold State.masterTime; rw [h]

/-- An event at a deadline, with no limit on the way: it happens there, or now when that is past. The
deadline is to be the same once time has passed up to it. -/
theorem State.atDeadline_quiet {d : Nat} {deadline : State → Option Nat} (f : State → State) {s : State}
    (hd : deadline s = some d) (hq : s.quietUntil d = true) (hd' : deadline (s.advance d) = some d) :
    s.atDeadline deadline f = f (s.advance d) := by
  unfold State.atDeadline
  rw [hd]
  dsimp only
  rw [State.pass_quiet hq, hd']
  exact if_pos (by simp [State.comes, State.advance])

theorem State.ifDue_quiet {d : Nat} {deadline : State → Option Nat} (f : State → State) {s : State}
    (hd : deadline s = some d) (hq : s.quietUntil d = true) (hd' : deadline (s.advance d) = some d) :
    s.ifDue deadline f = (f (s.advance d)).settle :=
  State.atDeadline_quiet _ hd hq hd'

/-- A window of the reference monitor that the event is about, with no limit at the end of its tick. -/
theorem State.windowEnds_quiet {applies : State → Bool} (f : State → State) {s : State}
    (h : applies s = true) (hq : s.noLimitBy (s.clock + 1) = true)
    (h' : applies (s.advance (s.clock + 1)) = true) :
    s.windowEnds applies f = (f (s.advance (s.clock + 1))).settle := by
  unfold State.windowEnds
  rw [if_pos h, State.reach_quiet hq]
  exact if_pos h'

/-- A window without a cycle changes nothing when there is nothing left to lose (R3). -/
theorem State.judgeWindow_zero {s : State} (hm : s.monitoring = true) (hw : s.watches = false) :
    s.judgeWindow 0 = s := by
  unfold State.watches at hw
  rw [hm] at hw
  simp only [Bool.true_and, Bool.not_eq_false', Bool.and_eq_true, bne_iff_ne, ne_eq, beq_iff_eq] at hw
  obtain ⟨⟨h1, h2⟩, h3⟩ := hw
  unfold State.judgeWindow State.badWindowEnd
  rw [if_neg (by decide)]
  dsimp only
  rw [if_neg h1, ← h2, ← h3]

/-- After a missed window there is nothing left that another one could lose: the windows that `State.pass`
does not judge are those that change nothing (R3; log entry 13). -/
theorem State.missWindow_watches (s : State) : s.missWindow.watches = false := by
  unfold State.missWindow State.windowEnds
  dsimp only
  split
  · split
    · rw [State.judgeWindow, if_neg (by decide), State.badWindowEnd]
      split <;> simp_all [State.watches, State.notifyTimebase]
    · next h => simp [State.watches, h]
  · next h => simp [State.watches, h]

/-- What a running part does with an event. -/
theorem State.whenRunning_running {s : State} (f : State → State) (h : s.isRunning = true) :
    s.whenRunning f = f s := by
  unfold State.whenRunning; rw [if_pos h]

/-- Two states are equal when every field is. -/
theorem State.ext_fields {s t : State} (h1 : s.power = t.power) (h2 : s.standbyLatch = t.standbyLatch)
    (h3 : s.clock = t.clock) (h4 : s.timebase = t.timebase) (h5 : s.heat = t.heat)
    (h6 : s.wall = t.wall) (h7 : s.lanes = t.lanes) (h8 : s.scanner = t.scanner)
    (h9 : s.placing = t.placing) (h10 : s.board = t.board) (h11 : s.store = t.store)
    (h12 : s.link = t.link) (h13 : s.pending = t.pending) : s = t := by
  cases s; cases t; simp_all

/-- What `settle` leaves is the state, but for the board and the link. -/
theorem State.settle_eq (s : State) :
    s.settle = { s with board := s.settle.board, link := s.settle.link } := by
  apply State.ext_fields <;> simp

/-- What `transmit` leaves is the state, but for the link. -/
theorem State.transmit_eq (s : State) : s.transmit = { s with link := s.transmit.link } := by
  apply State.ext_fields <;> simp

theorem State.settle_linkKept (s : State) : s.linkKept s.settle := by simp [State.linkKept]

theorem State.settle_boardKept (s : State) : s.boardKept s.settle := by simp [State.boardKept]

/-- After `settle` the image is the one the records give (R155). -/
theorem State.settle_image (s : State) : s.settle.board.image = s.settle.imageNow := by
  have hi : s.settle.board.image = s.imageNow := by
    unfold State.settle
    rw [show s.eventEnd.transmit.board = s.boardSettle.board by simp]
    unfold State.boardSettle boardAfter fullPass joinChanged feedLine beginFrame takeSlot
    dsimp only
    (repeat' split) <;> rfl
  rw [hi]
  unfold State.imageNow State.rowOf State.bannerText State.clockText State.leadHundredths
    State.runningOrder State.raceTicks State.raceTime State.masterTime
  simp

end Sys2Proof.Machine
end

