-- ==== Sys2Proof/Laws/State.lean ====
section
/-!
SUPPORT. What the updates of State set: one lemma a field an update sets, true by `rfl` or by one look at
a table. Laws/Frames.lean says what they leave.
-/

namespace Sys2Proof.Machine

/-! ### Tables -/

@[simp] theorem tab_getElem {α : Type} {n : Nat} (f : Fin n → α) (i : Nat) (h : i < n) :
    (tab f)[i] = f ⟨i, h⟩ := by
  simp [tab]

theorem vector_ext {α : Type} {n : Nat} {v w : Vector α n} (h : ∀ i : Fin n, v[i] = w[i]) : v = w :=
  Vector.ext fun i hi => h ⟨i, hi⟩

@[simp] theorem tab_self {α : Type} {n : Nat} (v : Vector α n) : (tab fun i => v[i]) = v := by
  apply vector_ext; intro i; simp

/-! ### Lanes, pads and buttons -/

@[simp] theorem State.updLane_lanes (lane : Lane) (f : LaneRecord → LaneRecord) (s : State) :
    (s.updLane lane f).lanes = s.lanes.set lane (f s.lanes[lane]) := rfl

@[simp] theorem State.updPad_pads (pad : PadIx) (f : PadRecord → PadRecord) (s : State) :
    (s.updPad pad f).wall = { s.wall with pads := s.wall.pads.set pad (f s.wall.pads[pad]) } := rfl

@[simp] theorem State.updButton_buttons (ix : ButtonIx) (f : ButtonRecord → ButtonRecord) (s : State) :
    (s.updButton ix f).wall =
      { s.wall with buttons := s.wall.buttons.set ix (f s.wall.buttons[ix]) } := rfl

@[simp] theorem State.setOrder_placing (order : List (Lane × Nat)) (s : State) :
    (s.setOrder order).placing = { s.placing with order := order } := rfl

@[simp] theorem State.setOrder_lanes (order : List (Lane × Nat)) (s : State) :
    (s.setOrder order).lanes = tab fun lane => { s.lanes[lane] with place := placeIn order lane } := rfl

@[simp] theorem State.setLabels_lanes (current : Option HeatRecord) (s : State) :
    (s.setLabels current).lanes = tab fun lane =>
      { s.lanes[lane] with
        label := match current with
          | none => []
          | some h => if h.enters lane then h.labels[lane] else [] } := rfl

@[simp] theorem State.clearEntered_lanes (h : HeatRecord) (status : LaneStatus) (s : State) :
    (s.clearEntered h status).lanes = tab fun lane =>
      if h.enters lane then .cleared status (s.lanes[lane]).label else s.lanes[lane] := rfl

@[simp] theorem State.raceEntered_lanes (h : HeatRecord) (s : State) :
    (s.raceEntered h).lanes = tab fun lane =>
      if h.enters lane then
        { s.lanes[lane] with status := .racing, leg := 1, expected := 1, gateBase := 0 }
      else s.lanes[lane] := rfl

@[simp] theorem State.disarmPads_wall (s : State) :
    s.disarmPads.wall =
      { s.wall with
        armed := false, pads := tab fun pad => { s.wall.pads[pad] with capture := .unarmed } } := rfl

@[simp] theorem State.armPads_wall (startMark : Nat) (s : State) :
    (s.armPads startMark).wall =
      { s.wall with armed := true, pads := tab fun pad => armRecord startMark s.wall.pads[pad] } := rfl

/-! ### The timebase, the scanner, the store and the board -/

@[simp] theorem State.enterAcquiring_timebase (s : State) :
    s.enterAcquiring.timebase =
      { s.timebase with
        state := .acquiring, goodCount := 0, steering := false
        acquiringEnd := s.clock + Config.acquiringTicks } := rfl

@[simp] theorem State.enterLocked_timebase (cause : TimebaseCause) (s : State) :
    (s.enterLocked cause).timebase =
      { s.timebase with state := .locked, steering := s.timebase.source == .external } := by
  unfold State.enterLocked State.notifyTimebase; simp

@[simp] theorem State.powerScanner_scanner (s : State) :
    s.powerScanner.scanner =
      { s.scanner with state := .settling, settlingEnd := some (s.clock + Config.settlingTicks) } := rfl

@[simp] theorem State.scannerOff_scanner (s : State) :
    s.scannerOff.scanner =
      { s.scanner with
        state := .off, settlingEnd := none, sweepStart := none
        channels := tab fun _ => ⟨none, none, none⟩
        probe := none, probeTest := none, probeReadings := tab fun _ => none } := rfl

@[simp] theorem State.beginScanning_scanner (s : State) :
    s.beginScanning.scanner =
      { s.scanner with state := .scanning, settlingEnd := none, sweepStart := some (s.clock + 1) } := rfl

@[simp] theorem State.keepTest_scanner (t : SelfTest) (s : State) :
    (s.keepTest t).scanner = { s.scanner with lastTest := some t } := rfl

@[simp] theorem State.enterFault_scanner (s : State) :
    s.enterFault.scanner = { s.scanner with state := .fault, settlingEnd := none } := rfl

@[simp] theorem State.startWrite_store (profile : Profile) (leveling : Bool) (s : State) :
    (s.startWrite profile leveling).store =
      { s.store with stored := none, write := some ⟨profile, s.clock + Config.writeTicks, leveling⟩ } := rfl

@[simp] theorem State.askPass_board (s : State) : s.askPass.board = { s.board with passDue := true } := rfl

@[simp] theorem State.boardNewHeat_board (s : State) :
    s.boardNewHeat.board = { s.board with override := none, passDue := true } := rfl

@[simp] theorem State.freezeBoard_board (s : State) :
    s.freezeBoard.board =
      { s.board with
        frozen := some (hundredths s.raceTicks)
        hold := match s.board.hold with
          | .holding _ => .spent
          | other => other } := rfl

end Sys2Proof.Machine
end

