-- ==== Sys2Proof/Laws/Outcomes.lean ====
section
/-!
SUPPORT. What a command leaves, said once: `u.Leaves t` says that `t` is `u` but for what `settle` does to
the board and to the console line. An event that is due, and a request on a ready link, leave so what their
effect makes; a proof about a command then only has to compute that effect.
-/

namespace Sys2Proof.Machine

/-- `t` is what the end of a command makes of `u`: every block but the board and the link as it is, the
board's settings, the link's lists of arrivals and what has been told as they are. -/
structure State.Leaves (u t : State) : Prop where
  power : t.power = u.power
  standbyLatch : t.standbyLatch = u.standbyLatch
  clock : t.clock = u.clock
  timebase : t.timebase = u.timebase
  heat : t.heat = u.heat
  wall : t.wall = u.wall
  lanes : t.lanes = u.lanes
  scanner : t.scanner = u.scanner
  placing : t.placing = u.placing
  store : t.store = u.store
  pending : t.pending = u.pending
  board : u.boardKept t
  link : u.linkKept t
  tells : ∀ n : Notice, n.completed u.lanes = n → u.tells n → t.tells n
  completes : ∀ n ∈ u.link.freshNotices, t.tells (n.completed u.lanes)
  gives : ∀ r, u.gives r → t.gives r

/-- A state left so is the state itself with another board and another link. -/
theorem State.Leaves.eq {u t : State} (h : u.Leaves t) : t = { u with board := t.board, link := t.link } := by
  apply State.ext_fields <;> simp [h.power, h.standbyLatch, h.clock, h.timebase, h.heat, h.wall, h.lanes,
    h.scanner, h.placing, h.store, h.pending]

theorem State.Leaves.masterTime {u t : State} (h : u.Leaves t) : t.masterTime = u.masterTime := by
  unfold State.masterTime; rw [h.clock]

/-- What `settle` leaves (R155, R179). -/
theorem State.settle_leaves (u : State) : u.Leaves u.settle where
  power := by simp
  standbyLatch := by simp
  clock := by simp
  timebase := by simp
  heat := by simp
  wall := by simp
  lanes := by simp
  scanner := by simp
  placing := by simp
  store := by simp
  pending := by simp
  board := State.settle_boardKept u
  link := State.settle_linkKept u
  tells := fun _ hp h => State.settle_tells hp h
  completes := fun _ h => State.settle_completes h
  gives := fun _ h => State.transmit_gives (State.eventEnd_gives h)

/-- An event that no limit comes before leaves what its effect makes at its deadline. -/
theorem State.ifDue_leaves {d : Nat} {deadline : State → Option Nat} (f : State → State) {s : State}
    (hd : deadline s = some d) (hq : s.quietUntil d = true) (hd' : deadline (s.advance d) = some d) :
    State.Leaves (f (s.advance d)) (s.ifDue deadline f) := by
  rw [State.ifDue_quiet f hd hq hd']; exact State.settle_leaves _

/-- The notice just made is the newest in the queue (R180). -/
theorem State.notify_newest (b : NoticeBody) (s : State) :
    (s.notify b).link.notices.getLast? = some ⟨s.masterTime, b⟩ := by
  unfold State.notify
  dsimp only
  split <;> simp

/-- What stands in the middle of a list is among what is left when no more than is before it is dropped. -/
theorem mem_drop_middle {α : Type} (x : α) (before after : List α) {k : Nat} (h : k ≤ before.length) :
    x ∈ (before ++ x :: after).drop k := by
  rw [List.drop_append_of_le_length h]
  exact List.mem_append_right _ (List.mem_cons_self ..)

/-- The newest notice, made by the event in progress, is fresh, and stays so when one more is made: a full
queue gives up its oldest (R180). -/
theorem State.newest_fresh {n : Notice} {s : State} (h : s.link.notices.getLast? = some n)
    (hf : 0 < s.link.fresh) :
    n ∈ s.link.freshNotices ∧ ∀ b, n ∈ (s.notify b).link.freshNotices := by
  obtain ⟨l, hl⟩ := List.getLast?_eq_some_iff.mp h
  refine ⟨?_, fun b => ?_⟩
  · unfold Link.freshNotices
    rw [hl]
    exact mem_drop_middle n l [] (by simp; omega)
  · unfold State.notify Link.freshNotices
    dsimp only
    split
    · rw [hl, List.append_assoc]
      exact mem_drop_middle n l [_] (by simp; omega)
    · next hl' =>
      rw [hl] at hl' ⊢
      cases l with
      | nil => simp [Config.noticeMax] at hl'
      | cons a l =>
        simp only [List.cons_append, List.drop_succ_cons, List.drop_zero, List.append_assoc]
        exact mem_drop_middle n l [_] (by simp; omega)

/-- The newest notice has been told, and stays so when one more is made: a full queue gives up its oldest
(R180). -/
theorem State.newest_tells {n : Notice} {s : State} (h : s.link.notices.getLast? = some n) :
    s.tells n ∧ ∀ b, (s.notify b).tells n := by
  have hm : n ∈ s.link.notices := List.mem_of_getLast? h
  refine ⟨Or.inl hm, fun b => Or.inl ?_⟩
  unfold State.notify
  dsimp only
  split
  · simp [hm]
  · next hl =>
    obtain ⟨l, hl'⟩ := List.getLast?_eq_some_iff.mp h
    rw [hl']
    cases l with
    | nil => rw [hl'] at hl; simp [Config.noticeMax] at hl
    | cons a l => simp

/-- A HEAT_STATE notice and a return from HOLDOVER behind it: the HEAT_STATE notice has been told. -/
theorem State.holdoverReturn_tells {n : Notice} {s : State} (h : s.link.notices.getLast? = some n) :
    s.holdoverReturn.tells n := by
  unfold State.holdoverReturn
  split
  · unfold State.enterLocked State.notifyTimebase
    exact (State.newest_tells (s := { s with timebase :=
      { s.timebase with state := .locked, steering := s.timebase.source == .external } }) h).2 _
  · exact (State.newest_tells h).1

/-- A request on a ready link, before any limit, leaves what its handling makes, and its answer has been
made (R176). -/
theorem State.request_leaves {s : State} {kind : RequestKind} {moment : Nat} {tag : Byte}
    {p : List Byte} {u : State} {a : Answer} (hr : s.isRunning = true) (h : s.linkReady)
    (hq : s.quietUntil moment = true) (hh : (s.advance moment).handle ⟨kind, tag, p⟩ = ⟨u, some a⟩) :
    u.Leaves (s.request kind moment tag p) ∧ (s.request kind moment tag p).answers kind tag a := by
  rw [State.request_handled hr h hq hh]
  have l := State.settle_leaves (u.pushReply ⟨.execution, some kind, tag, a⟩)
  refine ⟨⟨?_, ?_, ?_, ?_, ?_, ?_, ?_, ?_, ?_, ?_, ?_, ?_, ?_, ?_, ?_, ?_⟩, ?_⟩
  · simpa using l.power
  · simpa using l.standbyLatch
  · simpa using l.clock
  · simpa using l.timebase
  · simpa using l.heat
  · simpa using l.wall
  · simpa using l.lanes
  · simpa using l.scanner
  · simpa using l.placing
  · simpa using l.store
  · simpa using l.pending
  · simpa [State.boardKept] using l.board
  · simpa [State.linkKept] using l.link
  · exact fun n hp hn => l.tells n hp (State.pushReply_tells hn)
  · exact l.completes
  · intro r hg
    apply l.gives
    rcases hg with hg | hg
    · exact Or.inl (by simp [hg])
    · exact Or.inr (by simpa using hg)
  · exact l.gives _ (State.pushReply_gives _ _)

end Sys2Proof.Machine
end

