-- ==== Sys2Proof/Laws/PerInstr.lean ====
section
/-!
SUPPORT. What holds of every command as syntax: no word of the opcode table spells it, since no row of the
table has bits (log entry 30).
-/

namespace Sys2Proof.Laws

/-- No word spells the command. -/
def NoWord.Statement (i : Sys2Proof.Instr) : Prop := ∀ nbits w, Sys2Proof.decodeTableWord nbits w ≠ some i

/-- The table gives no row any bits, so a word spells nothing. -/
theorem no_word (i : Sys2Proof.Instr) : NoWord.Statement i := fun _ _ h => nomatch h

theorem NoWord.powerUp : NoWord.Statement .powerUp := no_word _
theorem NoWord.resetPin : NoWord.Statement .resetPin := no_word _
theorem NoWord.standbyLatchSet : NoWord.Statement .standbyLatchSet := no_word _
theorem NoWord.startUp p q : NoWord.Statement (.startUp p q) := no_word _
theorem NoWord.restartReset : NoWord.Statement .restartReset := no_word _
theorem NoWord.masterTimeLimit : NoWord.Statement .masterTimeLimit := no_word _
theorem NoWord.acquiringIntervalEnd : NoWord.Statement .acquiringIntervalEnd := no_word _
theorem NoWord.referenceWindowEnd p : NoWord.Statement (.referenceWindowEnd p) := no_word _
theorem NoWord.referenceAcquired : NoWord.Statement .referenceAcquired := no_word _
theorem NoWord.referenceRestored : NoWord.Statement .referenceRestored := no_word _
theorem NoWord.tenthBoundary p : NoWord.Statement (.tenthBoundary p) := no_word _
theorem NoWord.raceTimeLimit : NoWord.Statement .raceTimeLimit := no_word _
theorem NoWord.setLineEdge p q : NoWord.Statement (.setLineEdge p q) := no_word _
theorem NoWord.startLineEdge p q : NoWord.Statement (.startLineEdge p q) := no_word _
theorem NoWord.recallLineEdge p q : NoWord.Statement (.recallLineEdge p q) := no_word _
theorem NoWord.padEdge p q r t : NoWord.Statement (.padEdge p q r t) := no_word _
theorem NoWord.padQualifyTime p q : NoWord.Statement (.padQualifyTime p q) := no_word _
theorem NoWord.buttonEdge p q r t : NoWord.Statement (.buttonEdge p q r t) := no_word _
theorem NoWord.finishWindowClose p : NoWord.Statement (.finishWindowClose p) := no_word _
theorem NoWord.scannerSettlingEnd p q : NoWord.Statement (.scannerSettlingEnd p q) := no_word _
theorem NoWord.channelSample p q r : NoWord.Statement (.channelSample p q r) := no_word _
theorem NoWord.probeSweepComplete p : NoWord.Statement (.probeSweepComplete p) := no_word _
theorem NoWord.levelWaitExpiry : NoWord.Statement .levelWaitExpiry := no_word _
theorem NoWord.levelDriveEnd : NoWord.Statement .levelDriveEnd := no_word _
theorem NoWord.profileWriteComplete : NoWord.Statement .profileWriteComplete := no_word _
theorem NoWord.boardSlot : NoWord.Statement .boardSlot := no_word _
theorem NoWord.boardFrameEnd p : NoWord.Statement (.boardFrameEnd p) := no_word _
theorem NoWord.boardPeriodicPass : NoWord.Statement .boardPeriodicPass := no_word _
theorem NoWord.firstFinishHoldEnd : NoWord.Statement .firstFinishHoldEnd := no_word _
theorem NoWord.consoleFrameReceived p q : NoWord.Statement (.consoleFrameReceived p q) := no_word _
theorem NoWord.byteFramingError p : NoWord.Statement (.byteFramingError p) := no_word _
theorem NoWord.payloadLengthTooLong p q : NoWord.Statement (.payloadLengthTooLong p q) := no_word _
theorem NoWord.receiverSilence : NoWord.Statement .receiverSilence := no_word _
theorem NoWord.transmitFrameEnd p : NoWord.Statement (.transmitFrameEnd p) := no_word _
theorem NoWord.loadHeat p q r : NoWord.Statement (.loadHeat p q r) := no_word _
theorem NoWord.withdrawHeat p q r : NoWord.Statement (.withdrawHeat p q r) := no_word _
theorem NoWord.queryQueue p q r : NoWord.Statement (.queryQueue p q r) := no_word _
theorem NoWord.arm p q r : NoWord.Statement (.arm p q r) := no_word _
theorem NoWord.disarm p q r : NoWord.Statement (.disarm p q r) := no_word _
theorem NoWord.start p q r : NoWord.Statement (.start p q r) := no_word _
theorem NoWord.recall p q r : NoWord.Statement (.recall p q r) := no_word _
theorem NoWord.endHeat p q r : NoWord.Statement (.endHeat p q r) := no_word _
theorem NoWord.closeLane p q r : NoWord.Statement (.closeLane p q r) := no_word _
theorem NoWord.nextHeat p q r : NoWord.Statement (.nextHeat p q r) := no_word _
theorem NoWord.setTime p q r t : NoWord.Statement (.setTime p q r t) := no_word _
theorem NoWord.dq p q r : NoWord.Statement (.dq p q r) := no_word _
theorem NoWord.reinstate p q r : NoWord.Statement (.reinstate p q r) := no_word _
theorem NoWord.clearReview p q r : NoWord.Statement (.clearReview p q r) := no_word _
theorem NoWord.officialise p q r : NoWord.Statement (.officialise p q r) := no_word _
theorem NoWord.lockResults p q r : NoWord.Statement (.lockResults p q r) := no_word _
theorem NoWord.status p q r : NoWord.Statement (.status p q r) := no_word _
theorem NoWord.queryLane p q r : NoWord.Statement (.queryLane p q r) := no_word _
theorem NoWord.queryArchive p q r : NoWord.Statement (.queryArchive p q r) := no_word _
theorem NoWord.archiveClear p q r : NoWord.Statement (.archiveClear p q r) := no_word _
theorem NoWord.boardMode p q r : NoWord.Statement (.boardMode p q r) := no_word _
theorem NoWord.boardTestOn p q : NoWord.Statement (.boardTestOn p q) := no_word _
theorem NoWord.boardTestOff p q : NoWord.Statement (.boardTestOff p q) := no_word _
theorem NoWord.boardText p q r : NoWord.Statement (.boardText p q r) := no_word _
theorem NoWord.timebaseRestart p q r : NoWord.Statement (.timebaseRestart p q r) := no_word _
theorem NoWord.profileRead p q r : NoWord.Statement (.profileRead p q r) := no_word _
theorem NoWord.profileWrite p q r : NoWord.Statement (.profileWrite p q r) := no_word _
theorem NoWord.levelPads p q r : NoWord.Statement (.levelPads p q r) := no_word _
theorem NoWord.probeBlocks p q r : NoWord.Statement (.probeBlocks p q r) := no_word _
theorem NoWord.restart p q r : NoWord.Statement (.restart p q r) := no_word _
theorem NoWord.consoleByteReceived p q : NoWord.Statement (.consoleByteReceived p q) := no_word _
theorem NoWord.mainPowerOff : NoWord.Statement .mainPowerOff := no_word _

end Sys2Proof.Laws
end

