-- ==== Sys2Proof/WellFormed.lean ====
section
/-!
DEFINITION. What the operands of a command must satisfy to be something the part can receive. Lanes,
walls, readings and bytes are right by their types; three things are left to check: a timestamp is a
master time (R1), a request frame's payload has at most 512 bytes (R173), and a complete console frame
has the envelope of R184.
-/

namespace Sys2Proof

/-- A timestamp is a master time: it never exceeds the counter's limit (R1, R12). -/
def stampOk (stamp : Nat) : Bool := stamp ≤ Config.masterLimit

/-- A received frame never carries more than 512 payload bytes (R173). -/
def payloadOk (payload : List Byte) : Bool := payload.length ≤ Config.payloadMax

/-- The bytes are one whole console frame: start byte 0xA5, a payload length of at most 512, and 7 bytes
besides the payload (R173, R184). Its CRC may fail. -/
def frameOk (bytes : List Byte) : Bool :=
  let len := (bytes.getD 3 0).toNat * 256 + (bytes.getD 4 0).toNat
  bytes.getD 0 0 == 0xA5#8 && (len ≤ Config.payloadMax) && (bytes.length == 7 + len)

/-- A command whose operands the part can receive. -/
def Instr.wellFormed : Instr → Bool
  | .powerUp => true
  | .resetPin => true
  | .standbyLatchSet => true
  | .startUp _ _ => true
  | .restartReset => true
  | .masterTimeLimit => true
  | .acquiringIntervalEnd => true
  | .referenceWindowEnd _ => true
  | .referenceAcquired => true
  | .referenceRestored => true
  | .tenthBoundary _ => true
  | .raceTimeLimit => true
  | .setLineEdge _ stamp => stampOk stamp
  | .startLineEdge _ stamp => stampOk stamp
  | .recallLineEdge _ stamp => stampOk stamp
  | .padEdge _ _ _ stamp => stampOk stamp
  | .padQualifyTime _ _ => true
  | .buttonEdge _ _ _ stamp => stampOk stamp
  | .finishWindowClose _ => true
  | .scannerSettlingEnd _ _ => true
  | .channelSample _ _ _ => true
  | .probeSweepComplete _ => true
  | .levelWaitExpiry => true
  | .levelDriveEnd => true
  | .profileWriteComplete => true
  | .boardSlot => true
  | .boardFrameEnd _ => true
  | .boardPeriodicPass => true
  | .firstFinishHoldEnd => true
  | .consoleFrameReceived bytes _ => frameOk bytes
  | .byteFramingError _ => true
  | .payloadLengthTooLong _ _ => true
  | .receiverSilence => true
  | .transmitFrameEnd _ => true
  | .loadHeat _ _ payload => payloadOk payload
  | .withdrawHeat _ _ payload => payloadOk payload
  | .queryQueue _ _ payload => payloadOk payload
  | .arm _ _ payload => payloadOk payload
  | .disarm _ _ payload => payloadOk payload
  | .start _ _ payload => payloadOk payload
  | .recall _ _ payload => payloadOk payload
  | .endHeat _ _ payload => payloadOk payload
  | .closeLane _ _ payload => payloadOk payload
  | .nextHeat _ _ payload => payloadOk payload
  | .setTime _ _ _ _ => true
  | .dq _ _ _ => true
  | .reinstate _ _ _ => true
  | .clearReview _ _ _ => true
  | .officialise _ _ payload => payloadOk payload
  | .lockResults _ _ payload => payloadOk payload
  | .status _ _ payload => payloadOk payload
  | .queryLane _ _ payload => payloadOk payload
  | .queryArchive _ _ payload => payloadOk payload
  | .archiveClear _ _ payload => payloadOk payload
  | .boardMode _ _ payload => payloadOk payload
  | .boardTestOn _ _ => true
  | .boardTestOff _ _ => true
  | .boardText _ _ payload => payloadOk payload
  | .timebaseRestart _ _ payload => payloadOk payload
  | .profileRead _ _ payload => payloadOk payload
  | .profileWrite _ _ payload => payloadOk payload
  | .levelPads _ _ payload => payloadOk payload
  | .probeBlocks _ _ payload => payloadOk payload
  | .restart _ _ payload => payloadOk payload
  | .consoleByteReceived _ _ => true
  | .mainPowerOff => true

end Sys2Proof
end

