-- ==== Sys2Proof/Tests/Slice0.lean ====
section
/-!
SUPPORT. Our own tests: the well-formedness smoke, the manual's tables and worked examples, one-step
checks, and for every statement with hypotheses a concrete state and operands that meet them. Expected
values come from the manual's tables and examples (cited) or from hand calculation by its rules.
-/

namespace Sys2Proof.Tests

open Sys2Proof Sys2Proof.Machine

/-! ### States to start from -/

/-- A profile: a 50 m course, ten lanes, Q = 3, latency 19 at wall A and 12 at wall B, platform latency 7,
recall window 10.00 s; row 0 is the clock. -/
def pool : Profile :=
  { course := .m50, installed := Vector.replicate 10 true, source := .internal, recallWindow := 1000
    latencies := tab fun pad => if pad.val % 2 = 0 then 19 else 12
    dead := Vector.replicate 20 false, qualify := 3, platformLatency := 7
    loadedLimit := 600, unloadedLimit := 400
    routing := (Vector.replicate 12 (.blank, false)).set 0 (.clock, true), defaultMode := .onChange }

/-- A 100 m individual heat of lanes 3, 4 and 7 with the limits of section 6.7. -/
def sprint : HeatRecord :=
  { event := 12, heat := 3, lengths := 2, relay := false, startType := .platform
    entered := lanesOf 0x98, labels := Vector.replicate 10 [], banner := [], inhibit := 2000
    buttonWindow := 200, discrepancy := 30, lo := 0, hi := 0, notify := .all, course := .m50 }

/-- A relay of 4 by 100 m of lanes 1 and 6 with the limits of section 7.5's example. -/
def relay : HeatRecord :=
  { sprint with lengths := 8, relay := true, entered := lanesOf 0x42, lo := -3, hi := 100 }

/-- A configured part in SERVICE mode, its timebase LOCKED, in the ON_CHANGE mode. -/
def ready : State :=
  { State.reset with
    clock := 1000000
    timebase := { State.reset.timebase with state := .locked }
    board := { State.reset.board with mode := some .onChange }
    store := { State.reset.store with inForce := some pool, stored := some pool } }

/-- `ready` with a heat LOADED. -/
def loaded (h : HeatRecord) : State :=
  { ready with heat := { ready.heat with race := .loaded, current := some h } }

/-- `ready` with a heat ARMED. -/
def armed (h : HeatRecord) : State :=
  { ready with
    heat := { ready.heat with race := .armed, current := some h }
    lanes := tab fun lane => .cleared (if h.enters lane then .entered else .idle) [] }

/-- `ready` with a heat RUNNING from master time 1,000,000, `ticks` into it; every lane as a START leaves
it, its start departure counted. -/
def racing (h : HeatRecord) (ticks : Nat) : State :=
  { ready with
    clock := 1000000 + ticks
    heat := { ready.heat with race := .running, current := some h, startMark := some 1000000 }
    wall := { ready.wall with armed := true, pads := Vector.replicate 20 ⟨.opened, none, .opened, 0⟩ }
    lanes := tab fun lane => .cleared (if h.enters lane then .racing else .idle) [] }

/-- The state an outcome leads to; the state before where it leads to none. -/
def after (c : Instr) (s : State) : State :=
  match exec c s with
  | .next t => t
  | _ => s

/-- The answer the newest reply carries. -/
def answered (s : State) : Option Answer :=
  match s.link.line with
  | some ⟨.reply r, _⟩ => some r.answer
  | _ => s.link.replies.getLast?.map (·.answer)

def unpowered : State := { ready with power := .off, standbyLatch := true }

def inReset : State := { ready with power := .held .power true }

/-- The RESTART reply with tag 7 is on the line since `began`. -/
def restarting (began : Nat) : State :=
  { ready with
    link :=
      { ready.link with
        line := some ⟨.reply ⟨.execution, some .restart, 7, .accepted .empty⟩, began⟩ } }

/-- A timebase state, source and good-window count. -/
def counting (state : TimebaseState) (source : TimeSource) (n : Nat) : State :=
  { ready with
    timebase := { ready.timebase with state := state, source := source, goodCount := n } }

/-- A heat recalled, with its guard end. -/
def guarded (guardEnd : Nat) : State :=
  { armed sprint with heat := { (armed sprint).heat with guardEnd := some guardEnd } }

/-- SCANNING from `first`, with a lane's channel as given. -/
def scanning (lane : Lane) (s : State) (first : Nat) (channel : Channel) : State :=
  { s with
    scanner :=
      { ready.scanner with
        state := .scanning, sweepStart := some first
        channels := (Vector.replicate 10 ⟨none, none, none⟩).set lane channel } }

/-- An ARMED heat with lane 4 off its platform 4 ticks before 1,000,000, its wall-A pad closed just before
then and its wall-B pad at that tick. -/
def onTheBlocks : State :=
  let s := scanning 4 (guarded 1000000) 999001 ⟨some .unloaded, some (300, 999998), none⟩
  let s := s.updLane 4 fun r => { r with reaction := .preStart 999996, departures := 1 }
  (s.updPad 8 fun _ => ⟨.closed, some 999999, .unarmed, 0⟩).updPad 9 fun _ =>
    ⟨.closed, some 1000000, .unarmed, 0⟩

/-- An ARMED heat with a SET mark. -/
def marked : State :=
  { armed sprint with heat := { (armed sprint).heat with setMark := some 999000 } }

def setHeld (s : State) : State := { s with heat := { s.heat with setLine := .closed } }

/-- A heat RUNNING with a closure on a lane's pad since `lead`, the lane on length `n` with a window and
exchanges. -/
def touching (h : HeatRecord) (lane : Lane) (wall : Wall) (lead n : Nat)
    (window : Option FinishWindow) (exchanges : List ExchangeRecord) : State :=
  let s := (racing h 5).updPad (padIx lane wall) fun _ => ⟨.closed, some lead, .qualifying lead, 0⟩
  s.updLane lane fun r =>
    { r with departures := 1, expected := n, window := window, exchanges := exchanges }

/-- A lane that is CLOSED. -/
def closedLane (lane : Lane) (s : State) : State := s.updLane lane fun r => { r with status := .closed }

/-- A lane that has counted no departure. -/
def absent (lane : Lane) (s : State) : State := s.updLane lane fun r => { r with departures := 0 }

/-- The same, with the scanner in FAULT. -/
def faulty (lane : Lane) (s : State) : State :=
  { absent lane s with scanner := { s.scanner with state := .fault } }

/-- A heat RUNNING whose race-time limit lies at the master-time limit. -/
def lateRace : State :=
  let s := racing sprint 5
  { s with heat := { s.heat with startMark := some 1099475627775 } }

/-- A heat RUNNING whose closure on a pad began at `lead`; lane 4 has counted its start departure. -/
def closing (pad : PadIx) (lead : Nat) : State :=
  let s := (racing sprint 5).updPad pad fun _ => ⟨.closed, some lead, .qualifying lead, 0⟩
  s.updLane 4 fun r => { r with departures := 1 }

def captured (capture : PadCapture) : State :=
  (racing sprint 5).updPad 8 fun _ => ⟨.closed, some 1000001, capture, 0⟩

/-- A heat RUNNING under a profile whose recall window is 0. -/
def neverRecalled : State :=
  { racing sprint 5 with
    store := { ready.store with inForce := some { pool with recallWindow := 0 } } }

/-- The heat ended at the race-time limit with no lane placed. -/
def overtimed : State :=
  { racing sprint 36000000 with
    heat := { (racing sprint 36000000).heat with race := .judging }
    board := { ready.board with frozen := some 360000 } }

def buttonHeld : State := (racing sprint 5).updButton 12 fun _ => ⟨.closed, none⟩

/-- Lane 4 of section 6.7 after its turn at 251,118, on its final length; its B1 was locked out until the
gate opened. -/
def lastLength : State :=
  let s := (racing sprint 251500).updButton 12 fun _ => ⟨.opened, some 1451118⟩
  s.updLane 4 fun r => { r with expected := 2, gateBase := 251118, departures := 1 }

/-- Lane 4 RACING with these length records. -/
def lengthsOf (lengths : List LengthRecord) : State :=
  lastLength.updLane 4 fun r => { r with lengths := lengths }

/-- Lane 4's window after both presses of section 6.7. -/
def softWindow : FinishWindow := ⟨523412, 543412, 451118, none, [(0, 523412), (1, 523689)]⟩

/-- Section 6.7 with both presses collected. -/
def softFinish : State := lastLength.updLane 4 fun r => { r with window := some softWindow }

/-- The same with no other lane RACING any more. -/
def lastLane : State :=
  (softFinish.updLane 3 fun r => { r with status := .closed }).updLane 7 fun r =>
    { r with status := .closed }

/-- Lane 7 of section 6.8 with the wave's touch and the three presses collected. -/
def waveFinish : State :=
  (racing sprint 598455).updLane 7 fun r =>
    { r with
      expected := 2, gateBase := 254600, departures := 1
      window := some
        ⟨594020, 614020, 454600, some ⟨594020, 594020, 0⟩, [(0, 598310), (2, 598402), (1, 598455)]⟩ }

/-- The window of section 7.5's example: the touch of lane 6 and its three presses. -/
def legWindow : FinishWindow :=
  ⟨578921, 598921, 468400, some ⟨578921, 578930, 9⟩, [(0, 579110), (1, 579180), (2, 579240)]⟩

/-- Its exchange record, with the departure held. -/
def takeover (departure : Int) : ExchangeRecord := ⟨1, .opened, none, some departure, none, .pending⟩

/-- Section 7.5's example before the window closes. -/
def legEnd (departure : Int) : State :=
  (racing relay 579240).updLane 6 fun r =>
    { r with
      expected := 2, gateBase := 268400, departures := 2, window := some legWindow
      exchanges := [takeover departure] }

/-- The same window without the touch. -/
def buttonsOnly : FinishWindow := { legWindow with pad := none }

/-- Lane 6 on the last length of the leg of an exchange, its window about to close. -/
def atLegEnd (w : FinishWindow) (before : List ExchangeRecord) (e : ExchangeRecord) : State :=
  (racing relay 579240).updLane 6 fun r =>
    { r with
      expected := 2 * e.leg, leg := e.leg, gateBase := 268400, window := some w
      departures := if e.departure.isSome then e.leg + 1 else e.leg, exchanges := before ++ [e] }

/-- Lane 6 on its final length, the last exchange not settled, and no other lane RACING. -/
def lastTeam : State :=
  ((racing relay 579240).updLane 1 fun r => { r with status := .closed }).updLane 6 fun r =>
    { r with
      expected := 8, leg := 4, gateBase := 268400, departures := 3, window := some legWindow
      exchanges := [⟨3, .opened, none, none, none, .pending⟩] }

/-- Lane 6 with a swimmer on the platform whose takeover an exchange awaits: `past` legs ends behind it. -/
def takingOver (past : Nat) (e : ExchangeRecord) : State :=
  (scanning 6 (racing relay 579240) 999001 ⟨some .loaded, some (700, 1579239), some .loaded⟩).updLane 6
    fun r =>
      { r with
        expected := 2 * e.leg + past, leg := e.leg + past, departures := e.leg, exchanges := [e] }

/-- The same lane on the first length of the relay, its start departure counted. -/
def onFirstLength : State :=
  (scanning 6 (racing relay 579240) 999001 ⟨some .loaded, some (700, 1579239), some .loaded⟩).updLane 6
    fun r => { r with departures := 1 }

/-- Leveling at pad 0 with pads 1 and 2 to come. -/
def leveling (step : LevelStep) : State :=
  { ready with wall := { ready.wall with level := .measuring 0 step [1, 2] } }

/-- Leveling waits for pad 0, whose line is closed. -/
def waited : State :=
  (leveling (.waiting 1000000)).updPad 0 fun _ => ⟨.closed, some 999990, .unarmed, 0⟩

/-- Leveling at the last pad, with the results of two others. -/
def lastPad (step : LevelStep) : State :=
  { ready with
    wall :=
      { ready.wall with level := .measuring 19 step [], results := [(0, .latency 5), (1, .dead)] } }

def settling : State :=
  { armed sprint with
    scanner := { ready.scanner with state := .settling, settlingEnd := some 1000200 } }

/-- The heat RUNNING before its self-test, lanes 4 and 7 without a sensor that was ready. -/
def lateTest : State :=
  let s := (racing sprint 5).updLane 4 fun r => { r with reaction := .absent .sensorNotReady }
  let s := s.updLane 7 fun r => { r with reaction := .absent .sensorNotReady }
  { s with scanner := settling.scanner }

/-- A probe's sweep with the readings of the first lanes taken. -/
def swept (lanes : Nat) : State :=
  { ready with
    scanner :=
      { ready.scanner with
        state := .scanning, sweepStart := some 1000201, probe := some 7
        probeReadings := tab fun lane =>
          if lane.val < lanes then some (5, 1000201 + lane.val / 2) else none } }

def writing : State :=
  { ready with
    wall := { ready.wall with level := .writing, results := [(0, .latency 5)] }
    store :=
      { ready.store with
        stored := none, write := some ⟨{ pool with source := .external }, 1000400, true⟩ } }

def board (b : Board) : State := { ready with board := b }

/-- A frame of row 3 on the board line, the image up to date, and row 5 pending or not. -/
def sending (five : Bool) : Board :=
  { ready.board with
    image := ready.imageNow, line := some ⟨3, .blank, 1000000⟩
    pendingRows := (Vector.replicate 12 false).set 5 five }

def holding : State :=
  { racing sprint 5 with board := { ready.board with hold := .holding 1050000 } }

def receiving (held : List Byte) : State :=
  { ready with link := { ready.link with held := held, lastByte := 1000000 } }

/-- A reply on the console line since 1,000,000, with replies and notices behind it. -/
def lineBusy (replies : List Reply) (notices : List Notice) : State :=
  { ready with
    link :=
      { ready.link with
        replies := replies, notices := notices, gap := true
        line := some ⟨.reply ⟨.immediate, none, 7, .accepted .empty⟩, 1000000⟩ } }

/-- An INTERNAL acquisition with a number of notices waiting behind the frame on the line. -/
def crowded (notices : Nat) : State :=
  { counting .acquiring .internal 0 with
    link := (lineBusy [] (List.replicate notices ⟨0, .levelDone false []⟩)).link }

/-- A waiting execution reply behind that frame, with requests in the buffer. -/
def waiting (buffer : List Request) : State :=
  let s := lineBusy [⟨.execution, some .arm, 6, .refused .wrongState⟩] []
  { s with link := { s.link with buffer := buffer } }

/-- The buffer full, and six immediate replies waiting. -/
def flooded : State :=
  let s := waiting (List.replicate 4 ⟨.status, 1, []⟩)
  { s with
    link :=
      { s.link with
        replies := s.link.replies ++ List.replicate 6 ⟨.immediate, none, 7, .accepted .empty⟩ } }

/-- The waiting reply begun at 1,000,100, the request behind it about to be executed. -/
def begun : State :=
  { ready with
    clock := 1000100
    link :=
      { (waiting []).link with
        replies := []
        line := some ⟨.reply ⟨.execution, some .arm, 6, .refused .wrongState⟩, 1000100⟩ } }

def queued (queue : List HeatRecord) : State :=
  { loaded { sprint with event := 1 } with
    heat := { (loaded { sprint with event := 1 }).heat with queue := queue } }

def archived : State :=
  { ready with placing := { ready.placing with archive := [⟨12, 3, 2, false, .clear, []⟩] } }

def locked : State := { ready with placing := { ready.placing with locked := true } }

/-- A LOADED heat with another timebase state and a store write. -/
def unready (state : TimebaseState) (write : Option StoreWrite) : State :=
  { loaded sprint with
    timebase := { ready.timebase with state := state }, store := { ready.store with write := write } }

/-- A part that is not configured, its first profile being written. -/
def firstWrite : State :=
  { ready with
    board := { ready.board with mode := none }
    store := { ready.store with inForce := none, write := some ⟨pool, 1000400, false⟩ } }

/-- The heat over, lane 3 first in 52.28, lanes 4 and 7 tied behind it in 52.33. -/
def judged (race : RaceState) : State :=
  let finish := fun (ticks : Nat) (r : LaneRecord) =>
    { r with status := .finished, finalTime := some ticks, finalSource := OfficialSource.pad }
  let s := (((racing sprint 600000).updLane 3 (finish 522899)).updLane 4 (finish 523300)).updLane 7
    (finish 523399)
  { s.setOrder [(3, 5228), (4, 5233), (7, 5233)] with heat := { s.heat with race := race } }

def disqualifiedThird : State :=
  (judged .judging).updLane 3 fun r => { r with disqualified := true }

/-- The heat OFFICIAL, its entry linked. -/
def linkedResult : State :=
  { judged .official with
    placing :=
      { (judged .official).placing with
        archive := [⟨12, 3, 2, false, .clear, []⟩], linked := true } }

def competition : State :=
  { ready with store := { ready.store with mode := .competition, setupOpen := false } }

/-! ### Well-formedness: each check refuses an ill-formed term -/

theorem test_wf_stamp_above_limit : (Instr.setLineEdge .closed 1099511627776).wellFormed = false := by
  decide

theorem test_wf_stamp_at_limit : (Instr.setLineEdge .closed 1099511627775).wellFormed = true := by decide

theorem test_wf_payload_of_513 : payloadOk (List.replicate 513 0) = false := by
  decide +kernel

theorem test_wf_payload_of_3 : (Instr.withdrawHeat 0 1 [0, 12, 3]).wellFormed = true := by decide

theorem test_wf_frame_start_byte :
    (Instr.consoleFrameReceived [0xA4, 14, 1, 0, 0, 0, 0] 0).wellFormed = false := by decide

theorem test_wf_frame_length :
    (Instr.consoleFrameReceived [0xA5, 14, 1, 0, 1, 0, 0] 0).wellFormed = false := by decide

theorem test_wf_frame_too_long :
    (Instr.consoleFrameReceived [0xA5, 14, 1, 2, 1, 0, 0] 0).wellFormed = false := by decide

theorem test_wf_frame :
    (Instr.consoleFrameReceived [0xA5, 14, 1, 0, 0, 0, 0] 0).wellFormed = true := by decide

/-! ### The manual's tables -/

/-- R14's table: hundredths and tenths of 99, 251,118, 523,550 and 35,999,999 ticks. -/
theorem test_hundredths_table :
    [99, 251118, 523550, 35999999].map hundredths = [0, 2511, 5235, 359999] ∧
      [99, 251118, 523550, 35999999].map tenths = [0, 251, 523, 35999] := by decide

/-- R15's table. -/
theorem test_signed_table :
    [187, 99, 0, -1, -100, -101, -187, -99900, -99901, 99999, 100000].map signedHundredths =
        [1, 0, 0, -1, -1, -2, -2, -999, -999, 999, 999] ∧
      [-99900, -99901, 99999, 100000].map clamped = [false, true, false, true] := by decide

/-- R24: 100m, 1500m, 400m of a relay of 8, 3000m. -/
theorem test_distance_texts :
    effectiveBanner sprint = [0x31, 0x30, 0x30, 0x6D] ∧
      effectiveBanner { sprint with lengths := 60, course := .m25 } = [0x31, 0x35, 0x30, 0x30, 0x6D] ∧
      effectiveBanner relay = [0x34, 0x30, 0x30, 0x6D] ∧
      effectiveBanner { sprint with lengths := 60 } = [0x33, 0x30, 0x30, 0x30, 0x6D] := by decide

/-- R100's table. -/
theorem test_backup_table :
    backupTime [598310, 598402, 598455] = some 598402 ∧
      backupTime [709800, 710000, 710000] = some 710000 ∧ backupTime [523412, 523689] = some 523550 ∧
      backupTime [800001, 800002] = some 800001 ∧ backupTime [1045117] = some 1045117 ∧
      backupTime [] = none := by decide

/-- R138's table: 1, 2, 2, 4. -/
theorem test_places_table :
    [3, 4, 6, 5].map (placeIn [(3, 5228), (4, 5233), (6, 5233), (5, 5234)]) =
      [some 1, some 2, some 2, some 4] := by decide

/-- R159: 52.32 and 1:50.92 right-aligned are the texts of 5,232 and 11,092 hundredths. -/
theorem test_time_texts :
    laneTimeText 5232 = [0x35, 0x32, 0x2E, 0x33, 0x32] ∧
      laneTimeText 11092 = [0x31, 0x3A, 0x35, 0x30, 0x2E, 0x39, 0x32] := by decide

/-- R174: the CRC of the nine characters 123456789 is 0x29B1. -/
theorem test_crc_check :
    crc16 [0x31, 0x32, 0x33, 0x34, 0x35, 0x36, 0x37, 0x38, 0x39] = 0x29B1 := by decide +kernel

/-- Section 10.5: LOAD_HEAT is 0x01, STATUS 0x0E, RESTART 0x1A. -/
theorem test_request_codes :
    RequestKind.loadHeat.code = 0x01 ∧ RequestKind.status.code = 0x0E ∧ RequestKind.restart.code = 0x1A := by
  decide

/-- No row of the table has bits, so no word spells a command (log entry 30). -/
theorem test_no_word : decodeTableWord 16 0x1234 = none := by decide

/-! ### The manual's worked examples, one step each -/

/-- Section 6.7: the turn at raw 251,130 is 251,118. -/
theorem test_turn_at_251118 :
    (((after (.padQualifyTime 4 .b) (closing 9 1251130)).lanes[(4 : Lane)]).gateBase,
      ((after (.padQualifyTime 4 .b) (closing 9 1251130)).lanes[(4 : Lane)]).expected) = (251118, 2) := by
  decide

/-- Section 6.7: the press at 523,412 opens the window. -/
theorem test_press_opens_soft_finish :
    ((after (.buttonEdge 4 0 .closed 1523412) lastLength).lanes[(4 : Lane)]).window =
      some ⟨523412, 543412, 451118, none, [(0, 523412)]⟩ := by decide

/-- Section 6.7: the close gives 523,550 from the buttons, with review reason NO_PAD. -/
theorem test_soft_finish_close :
    ((after (.finishWindowClose 4) softFinish).lanes[(4 : Lane)]).finalTime = some 523550 ∧
      ((after (.finishWindowClose 4) softFinish).lanes[(4 : Lane)]).reasons.noPad = true := by decide

/-- Section 4.5: the hand that closed at 523,300 is delivered as 523,281. -/
theorem test_finish_touch :
    ((after (.padQualifyTime 4 .a) { closing 8 1523300 with lanes := lastLength.lanes }).lanes[
      (4 : Lane)]).window = some ⟨523281, 543281, 451118, some ⟨523281, 523300, 19⟩, []⟩ := by decide

/-- Section 6.8: the wave's touch is discrepant, and the median of the presses is official. -/
theorem test_wave_finish_close :
    ((after (.finishWindowClose 7) waveFinish).lanes[(7 : Lane)]).finalTime = some 598402 ∧
      ((after (.finishWindowClose 7) waveFinish).lanes[(7 : Lane)]).reasons.discrepant = true := by
  decide

/-- Section 7.5: the departure at 578,734 is CLEAN with a margin of -187. -/
theorem test_exchange_clean :
    (((after (.finishWindowClose 6) (legEnd 578734)).lanes[(6 : Lane)]).exchanges.map fun e =>
      (e.verdict, e.margin)) = [(.clean, some (-187))] := by decide

/-- Section 7.5: the departure at 578,600 is EARLY, a review reason. -/
theorem test_exchange_early :
    ((after (.finishWindowClose 6) (legEnd 578600)).lanes[(6 : Lane)]).reasons.earlyExchange = true := by
  decide

/-- R129: margins of -300, -301, 10,000 and 10,001 ticks. -/
theorem test_exchange_limits :
    [578621, 578620, 588921, 588922].map (fun d =>
      ((after (.finishWindowClose 6) (legEnd d)).lanes[(6 : Lane)]).exchanges.map (·.verdict)) =
      [[.clean], [.early], [.clean], [.late]] := by decide

/-- Section 7.4: a sample at 1,000,003 with latency 7 is a departure 4 ticks before the START. -/
theorem test_reaction_before_start :
    ((after (.channelSample 4 399 0)
      (scanning 4 (racing sprint 0) 999001 ⟨some .loaded, some (700, 999998), some .loaded⟩)).lanes[
        (4 : Lane)]).reaction = .measured (-4) := by decide

/-- R55 and R122: the departure 4 ticks before the START is a reaction of -4; a pad closed before the start
mark is BLOCKED, one closed at it qualifies. -/
theorem test_start_takes_what_is_held :
    ((after (.startLineEdge .closed 1000000) onTheBlocks).lanes[(4 : Lane)]).reaction =
        .measured (-4) ∧
      ([8, 9] : List PadIx).map (fun pad =>
        ((after (.startLineEdge .closed 1000000) onTheBlocks).wall.pads[pad]).capture) =
          [.blocked, .qualifying 1000000] := by decide +kernel

/-! ### One step each -/

theorem test_power_up_holds : (after .powerUp unpowered).power = .held .power true := by decide

theorem test_start_up_cold :
    (after (.startUp false true) inReset).store.record.kind = .coldStart ∧
      (after (.startUp false true) inReset).store.record.cause = .power ∧
      (after (.startUp false true) inReset).store.mode = .competition := by decide

theorem test_last_good_window_locks :
    (after (.referenceWindowEnd 999) (counting .acquiring .external 19999)).timebase.state = .locked ∧
      (after (.referenceWindowEnd 999) (counting .acquiring .external 19999)).timebase.steering = true := by
  decide

theorem test_bad_window_loses :
    (after (.referenceWindowEnd 998) (counting .locked .external 20000)).timebase.state = .holdover := by
  decide

/-- R3: the ticks a stamp jumps over are windows without a cycle. -/
theorem test_moment_jumps_bad_windows :
    (after (.setLineEdge .closed 1000500) (counting .locked .external 20000)).timebase.state =
        .holdover ∧
      (after (.setLineEdge .closed 1000500) (counting .locked .internal 0)).timebase.state =
        .locked := by decide

theorem test_reference_restored_waits_for_the_race :
    (after .referenceRestored
      { racing sprint 5 with timebase := (counting .holdover .external 19999).timebase }).timebase =
      (counting .holdover .external 19999).timebase := by decide

theorem test_limit_ends_the_race :
    (after .masterTimeLimit (racing sprint 5)).heat.race = .judging ∧
      (after .masterTimeLimit (racing sprint 5)).timebase.state = .unlocked := by decide +kernel

theorem test_overtime :
    (after .raceTimeLimit (racing sprint 36000000)).heat.flags.overtime = true := by decide +kernel

theorem test_start_at_guard_end :
    (after (.startLineEdge .closed 1000000) (guarded 1000000)).heat.startMark = some 1000000 := by decide +kernel

theorem test_start_in_guard :
    (after (.startLineEdge .closed 999999) (guarded 1000000)).heat.race = .armed := by decide

theorem test_recall_in_window :
    (after (.recallLineEdge .closed 1099999) (racing sprint 99999)).heat.guardEnd = some 1109999 := by
  decide

theorem test_recall_after_window :
    (after (.recallLineEdge .closed 1100000) (racing sprint 99999)).heat.race = .running := by decide

theorem test_splash_counts :
    (after (.padEdge 4 .a .opened 1523298) (closing 8 1523296)).wall.pads[(8 : PadIx)] =
      ⟨.opened, some 1523296, .opened, 1⟩ := by decide

theorem test_closure_before_start_blocks :
    ((after (.padEdge 4 .a .closed 999999) (racing sprint 10)).wall.pads[(8 : PadIx)]).capture =
      .blocked := by decide

theorem test_wait_gives_busy_pad :
    (after .levelWaitExpiry (leveling (.waiting 1000000))).wall.results = [(0, .busyPad)] := by decide

theorem test_no_answer_is_dead :
    (after .levelDriveEnd (leveling (.driving 1000000 none))).wall.results = [(0, .dead)] := by decide

theorem test_self_test_limits :
    (after (.scannerSettlingEnd 16 1007) settling).scanner.state = .scanning ∧
      (after (.scannerSettlingEnd 17 1007) settling).scanner.state = .fault ∧
      (after (.scannerSettlingEnd 16 1006) settling).scanner.state = .fault := by decide

theorem test_probe_ends_off :
    (after (.probeSweepComplete (Vector.replicate 10 5)) (swept 0)).scanner.state = .off := by decide

theorem test_write_takes_the_source :
    (after .profileWriteComplete writing).timebase.source = .external ∧
      (after .profileWriteComplete writing).timebase.state = .acquiring := by decide

theorem test_slot_moves_the_cursor :
    (after .boardSlot (board { ready.board with mode := some .continuous, cursor := 11, nextSlot := some 0 })
      ).board.cursor = 0 := by decide

theorem test_frame_end_sends_row_5 :
    (after (.boardFrameEnd 1000050) (board (sending true))).board.line.map (·.row) = some 5 := by decide

theorem test_pass_sends_row_0 :
    (after .boardPeriodicPass (board { ready.board with periodic := some 1050000 })).board.line.map
      (·.row) = some 0 := by decide

theorem test_hold_is_spent : (after .firstFinishHoldEnd holding).board.hold = .spent := by decide

theorem test_framing_error_resumes_at_a_start_byte :
    (after (.byteFramingError 0) (receiving [0xA5, 1, 0xA5, 9])).link.held = [0xA5, 9] := by decide

theorem test_silence_counts : (after .receiverSilence (receiving [0xA5, 1])).link.discards = 1 := by decide

theorem test_payload_of_513_is_dropped :
    (after (.payloadLengthTooLong 1 0) (receiving [0xA5, 1, 7, 2])).link.held = [] := by decide

theorem test_bad_crc_counts :
    (after (.consoleFrameReceived [0xA5, 14, 1, 0, 0, 0, 0] 0) ready).link.discards = 1 := by decide +kernel

theorem test_notice_follows_the_reply :
    (after (.transmitFrameEnd 0) (lineBusy [] [⟨0, .levelDone false []⟩])).link.line.map (·.message) =
      some (.notice ⟨0, .levelDone false []⟩ true) := by decide

theorem test_load_heat_in_idle :
    (after (.loadHeat 0 7 (heatPayload sprint)) ready).heat.current = some sprint := by decide +kernel

/-- Section 2.2: 12 lengths are no relay, and the inhibit of 400 is never examined. -/
theorem test_load_heat_names_field_4 :
    answered (after (.loadHeat 0 7 (heatPayload { relay with lengths := 12, inhibit := 400 })) ready) =
      some (.refused (.badField 4 none)) := by decide +kernel

theorem test_withdraw_from_the_queue :
    (after (.withdrawHeat 0 7 [0, 12, 3]) (queued [relay])).heat.queue = [] := by decide

theorem test_arm_closes_setup :
    (after (.arm 0 7 []) (loaded sprint)).heat.race = .armed ∧
      (after (.arm 0 7 []) (loaded sprint)).store.setupOpen = false := by decide

theorem test_arm_needs_lock :
    answered (after (.arm 0 7 []) (unready .acquiring none)) = some (.refused .notReady) := by decide

theorem test_disarm : (after (.disarm 0 7 []) (armed sprint)).heat.race = .loaded := by decide

theorem test_start_outside_armed :
    answered (after (.start 0 7 []) ready) = some (.refused .wrongState) := by decide

theorem test_end_heat_closes_lanes :
    (after (.endHeat 0 7 []) (racing sprint 5)).lanes[(4 : Lane)].status = .closed := by decide +kernel

theorem test_close_lane_drops_the_window :
    ((after (.closeLane 0 7 [4]) softFinish).lanes[(4 : Lane)]).window = none := by decide

theorem test_set_time_moves_places :
    ((after (.setTime 0 7 4 5227) (judged .judging)).lanes[(3 : Lane)]).place = some 2 := by decide

theorem test_dq_leaves_the_order :
    (after (.dq 0 7 3) (judged .judging)).placing.order = [(4, 5233), (7, 5233)] := by decide

theorem test_reinstate_takes_a_place :
    ((after (.reinstate 0 7 3)
      (((judged .judging).setOrder [(4, 5233), (7, 5233)]).updLane 3 fun r =>
        { r with disqualified := true })).lanes[(3 : Lane)]).place = some 1 := by decide

theorem test_officialise_archives :
    (after (.officialise 0 7 []) (judged .judging)).placing.archive.length = 1 := by decide

theorem test_locked_archive_stays :
    answered (after (.archiveClear 0 7 []) locked) = some (.refused .locked) := by decide

theorem test_profile_write_protected :
    answered (after (.profileWrite 0 7 (profilePayload { pool with course := .m25 })) competition) =
      some (.refused (.guarded (some 1))) := by decide

/-- R173: a silence that has come by a byte's moment counts the frame, and the byte is in HUNT. -/
theorem test_byte_behind_a_silence :
    (after (.consoleByteReceived 0xA5 1001000) (receiving [0xA5, 1])).link.held = [0xA5] ∧
      (after (.consoleByteReceived 0xA5 1001000) (receiving [0xA5, 1])).link.discards = 1 := by decide +kernel

/-- R41 and R122: a departure held before the start is an early start, though the START lies before it. -/
theorem test_held_departure_is_early :
    ((after (.startLineEdge .closed 999990)
      { onTheBlocks with heat := { onTheBlocks.heat with guardEnd := none } }).lanes[
        (4 : Lane)]).reasons.earlyStart = true := by decide +kernel

theorem test_idle_tick_counts : ready.tick.clock = 1000001 := by decide

/-! ### Hypotheses of the statements are met -/

theorem witness_resets_empty_the_working_state_power_up :
    ∃ (s : State),
      s = unpowered ∧ s.power = .off :=
  ⟨_, rfl, by decide⟩

theorem witness_resets_empty_the_working_state_reset_pin :
    ∃ (s : State),
      s = ready ∧ s.power = .running :=
  ⟨_, rfl, by decide⟩

theorem witness_resets_empty_the_working_state_power_off :
    ∃ (s : State),
      s = inReset ∧ s.power ≠ .off :=
  ⟨_, rfl, by decide⟩

theorem witness_resets_empty_the_working_state_restart :
    ∃ (s : State) (tag : Byte) (began : Nat),
      s = restarting 1099511627766 ∧ tag = 7 ∧ began = 1099511627766 ∧ s.power = .running ∧
      s.link.line = some ⟨.reply ⟨.execution, some .restart, tag, .accepted .empty⟩, began⟩ ∧
      s.quietUntil (began + 8) = true :=
  ⟨_, _, _, rfl, rfl, rfl, by decide⟩

theorem witness_resets_empty_the_working_state_latch :
    ∃ (s : State),
      s = unpowered ∧ s.power = .off :=
  ⟨_, rfl, by decide⟩

theorem witness_resets_empty_the_working_state_latch_powered :
    ∃ (s : State),
      s = ready ∧ s.power ≠ .off :=
  ⟨_, rfl, by decide⟩

theorem witness_start_up_fixes_mode_profile_and_archive :
    ∃ (s : State) (cause : ResetCause) (latch : Bool),
      s = inReset ∧ cause = .power ∧ latch = true ∧ s.power = .held cause latch ∧
      s.board.test = false ∧ s.board.owed = none :=
  ⟨_, _, _, rfl, rfl, rfl, by decide⟩

theorem witness_acquisitions_lock_internal :
    ∃ (s : State),
      s = counting .acquiring .internal 0 ∧ s.isRunning = true ∧ s.timebase.state = .acquiring ∧
      s.timebase.source = .internal ∧ s.quietUntil s.timebase.acquiringEnd = true :=
  ⟨_, rfl, by decide⟩

theorem witness_acquisitions_lock_external :
    ∃ (s : State),
      s = counting .acquiring .external 19999 ∧ s.isRunning = true ∧
      s.timebase.source = .external ∧ s.timebase.state = .acquiring ∧
      19999 ≤ s.timebase.goodCount ∧ s.noLimitBy (s.clock + 1) = true :=
  ⟨_, rfl, by decide⟩

theorem witness_acquisitions_lock_restored :
    ∃ (s : State),
      s = counting .holdover .external 19999 ∧ s.isRunning = true ∧ s.timebase.source = .external ∧
      s.timebase.state = .holdover ∧ 19999 ≤ s.timebase.goodCount ∧ s.armedOrRunning = false ∧
      s.noLimitBy (s.clock + 1) = true :=
  ⟨_, rfl, by decide⟩

theorem witness_windows_count_or_lose_the_reference_good_999 :
    ∃ (s : State) (cycles : Nat),
      s = counting .locked .external 20000 ∧ cycles = 999 ∧ s.isRunning = true ∧
      s.timebase.source = .external ∧ s.timebase.state ≠ .unlocked ∧ 999 ≤ cycles ∧ cycles ≤ 1001 ∧
      s.noLimitBy (s.clock + 1) = true ∧
      (s.timebase.state = .locked ∨ s.timebase.goodCount + 1 < 20000 ∨
        (s.timebase.state = .holdover ∧ s.armedOrRunning = true)) :=
  ⟨_, _, rfl, rfl, by decide⟩

theorem witness_windows_count_or_lose_the_reference_good_1001 :
    ∃ (s : State) (cycles : Nat),
      s = counting .acquiring .external 19998 ∧ cycles = 1001 ∧ s.isRunning = true ∧
      s.timebase.source = .external ∧ s.timebase.state ≠ .unlocked ∧ 999 ≤ cycles ∧ cycles ≤ 1001 ∧
      s.noLimitBy (s.clock + 1) = true ∧
      (s.timebase.state = .locked ∨ s.timebase.goodCount + 1 < 20000 ∨
        (s.timebase.state = .holdover ∧ s.armedOrRunning = true)) :=
  ⟨_, _, rfl, rfl, by decide⟩

theorem witness_windows_count_or_lose_the_reference_bad_998 :
    ∃ (s : State) (cycles : Nat),
      s = counting .locked .external 20000 ∧ cycles = 998 ∧ s.isRunning = true ∧
      s.timebase.source = .external ∧ s.timebase.state ≠ .unlocked ∧
      (cycles < 999 ∨ 1001 < cycles) ∧ s.noLimitBy (s.clock + 1) = true :=
  ⟨_, _, rfl, rfl, by decide⟩

theorem witness_windows_count_or_lose_the_reference_bad_1002 :
    ∃ (s : State) (cycles : Nat),
      s = counting .holdover .external 7 ∧ cycles = 1002 ∧ s.isRunning = true ∧
      s.timebase.source = .external ∧ s.timebase.state ≠ .unlocked ∧
      (cycles < 999 ∨ 1001 < cycles) ∧ s.noLimitBy (s.clock + 1) = true :=
  ⟨_, _, rfl, rfl, by decide⟩

theorem witness_master_time_limit_unlocks_armed :
    ∃ (s : State),
      s = armed sprint ∧ s.isRunning = true ∧ s.timebase.state ≠ .unlocked ∧
      (s.heat.race = .running → s.heat.current.isSome = true) ∧
      s.raceLimitBy Config.masterLimit = false ∧
      (s.watches = true → Config.masterLimit ≤ s.clock + 1) ∧ s.heat.race = .armed ∧
      s.heat.current = some sprint :=
  ⟨_, rfl, by decide⟩

theorem witness_master_time_limit_unlocks_running :
    ∃ (s : State),
      s = lateRace ∧ s.isRunning = true ∧ s.timebase.state ≠ .unlocked ∧
      (s.heat.race = .running → s.heat.current.isSome = true) ∧
      s.raceLimitBy Config.masterLimit = false ∧
      (s.watches = true → Config.masterLimit ≤ s.clock + 1) ∧ s.heat.race = .running ∧
      s.heat.current = some sprint ∧ (∀ pad step rest, s.wall.level ≠ .measuring pad step rest) ∧
      (∀ lane : Lane, legsApart sprint false 0 (s.lanes[lane]).exchanges) ∧ s.link.fresh = 0 :=
  ⟨_, rfl,
    by decide, by decide, (fun _ => by decide), by decide, (fun hw => by cases hw), by decide,
    by decide, (fun _ _ _ hm => by cases hm), (by simp only [legsApart]; decide), by decide⟩

theorem witness_master_time_limit_unlocks_leveling :
    ∃ (s : State),
      s = leveling (.waiting 1000000) ∧ s.isRunning = true ∧ s.timebase.state ≠ .unlocked ∧
      (s.heat.race = .running → s.heat.current.isSome = true) ∧
      s.raceLimitBy Config.masterLimit = false ∧
      (s.watches = true → Config.masterLimit ≤ s.clock + 1) ∧ s.armedOrRunning = false ∧
      s.wall.level = .measuring 0 (.waiting 1000000) [1, 2] :=
  ⟨_, rfl, by decide⟩

theorem witness_master_time_limit_unlocks_probing :
    ∃ (s : State),
      s = swept 3 ∧ s.isRunning = true ∧ s.timebase.state ≠ .unlocked ∧
      (s.heat.race = .running → s.heat.current.isSome = true) ∧
      s.raceLimitBy Config.masterLimit = false ∧
      (s.watches = true → Config.masterLimit ≤ s.clock + 1) ∧ s.armedOrRunning = false ∧
      s.scanner.probe = some 7 :=
  ⟨_, rfl, by decide⟩

theorem witness_master_time_limit_unlocks_watched :
    ∃ (s : State),
      s = { counting .locked .external 20000 with clock := 1099511627774 } ∧ s.isRunning = true ∧
      s.timebase.state ≠ .unlocked ∧ (s.heat.race = .running → s.heat.current.isSome = true) ∧
      s.raceLimitBy Config.masterLimit = false ∧
      (s.watches = true → Config.masterLimit ≤ s.clock + 1) :=
  ⟨_, rfl, by decide⟩

theorem witness_master_time_limit_unlocks_arrival :
    ∃ (s u : State) (m : Nat),
      s = racing sprint 5 ∧ u = after .masterTimeLimit (racing sprint 5) ∧ m = 1099511627775 ∧
      s.isRunning = true ∧ s.timebase.state ≠ .unlocked ∧
      (s.heat.race = .running → s.heat.current.isSome = true) ∧ Config.masterLimit ≤ m ∧
      exec .masterTimeLimit s = .next u :=
  ⟨_, _, _, rfl, rfl, rfl, by decide, by decide, (fun _ => by decide), by decide, rfl⟩

theorem witness_windows_count_or_lose_the_reference_good_held :
    ∃ (s : State) (cycles : Nat),
      s = { armed sprint with timebase := (counting .holdover .external 20000).timebase } ∧
      cycles = 1000 ∧ s.isRunning = true ∧ s.timebase.source = .external ∧
      s.timebase.state ≠ .unlocked ∧ 999 ≤ cycles ∧ cycles ≤ 1001 ∧
      s.noLimitBy (s.clock + 1) = true ∧
      (s.timebase.state = .locked ∨ s.timebase.goodCount + 1 < 20000 ∨
        (s.timebase.state = .holdover ∧ s.armedOrRunning = true)) :=
  ⟨_, _, rfl, rfl,
    by decide, by decide, by decide, by decide, by decide, by decide, (Or.inr (Or.inr (by decide)))⟩

theorem witness_windows_count_or_lose_the_reference_tick :
    ∃ (s : State),
      s = counting .locked .external 20000 ∧ s.isRunning = true ∧ s.watches = true ∧
      s.noLimitBy (s.clock + 1) = true ∧ s.pending = [] :=
  ⟨_, rfl, by decide⟩

theorem witness_windows_count_or_lose_the_reference_quiet :
    ∃ (s : State),
      s = ready ∧ s.isRunning = true ∧ s.quietUntil (s.clock + 1) = true ∧ s.pending = [] :=
  ⟨_, rfl, by decide⟩

theorem witness_windows_count_or_lose_the_reference_jumped :
    ∃ (s u : State) (m : Nat),
      s = counting .locked .external 20000 ∧
      u = after (.referenceWindowEnd 0) (counting .locked .external 20000) ∧ m = 1000002 ∧
      s.isRunning = true ∧ s.watches = true ∧ s.clock < m ∧
      exec (.referenceWindowEnd 0) s = .next u :=
  ⟨_, _, _, rfl, rfl, rfl, by decide, by decide, by decide, rfl⟩

theorem witness_limit_and_request_end_the_heat_watched :
    ∃ (s : State) (h : HeatRecord) (start : Nat),
      s = { racing sprint 35999999 with timebase := (counting .locked .external 20000).timebase } ∧
      h = sprint ∧ start = 1000000 ∧ s.isRunning = true ∧ s.heat.race = .running ∧
      s.heat.current = some h ∧ s.heat.startMark = some start ∧
      start + 36000000 < Config.masterLimit ∧ s.clock ≤ start + 36000000 ∧
      (s.watches = true → start + 36000000 ≤ s.clock + 1) ∧ s.watches = true ∧
      s.clock < start + 36000000 :=
  ⟨_, _, _, rfl, rfl, rfl, by decide⟩

theorem witness_limit_and_request_end_the_heat_arrival :
    ∃ (s u : State) (start m : Nat),
      s = racing sprint 5 ∧ u = after .raceTimeLimit (racing sprint 5) ∧ start = 1000000 ∧
      m = 37000000 ∧ s.isRunning = true ∧ s.heat.race = .running ∧ s.heat.current.isSome = true ∧
      s.heat.startMark = some start ∧ start + 36000000 < Config.masterLimit ∧
      start + 36000000 ≤ m ∧ exec .raceTimeLimit s = .next u :=
  ⟨_, _, _, _, rfl, rfl, rfl, rfl,
    by decide, by decide, by decide, by decide, by decide, by decide, rfl⟩

theorem witness_timebase_restart_acquires_afresh :
    ∃ (s : State) (m : Nat) (tag : Byte),
      s = ready ∧ m = 0 ∧ tag = 7 ∧ s.isRunning = true ∧ s.linkReady ∧ s.quietUntil m = true ∧
      s.armedOrRunning = false ∧ s.timebase.state ≠ .unlocked :=
  ⟨_, _, _, rfl, rfl, rfl, by decide, ⟨rfl, rfl, rfl⟩, by decide, by decide, by decide⟩

theorem witness_tenth_boundary_moves_the_clock_first :
    ∃ (s : State) (m start k : Nat),
      s = racing sprint 0 ∧ m = 0 ∧ start = 1000000 ∧ k = 0 ∧ s.isRunning = true ∧
      s.heat.race = .running ∧ s.heat.startMark = some start ∧ k < 36000 ∧
      s.quietUntil (start + 1000 * k) = true ∧ s.clock ≤ start + 1000 * k ∧ m ≤ start + 1000 * k ∧
      start + 1000 * k < max m s.clock + 1000 :=
  ⟨_, _, _, _, rfl, rfl, rfl, rfl, by decide⟩

theorem witness_tenth_boundary_moves_the_clock_last :
    ∃ (s : State) (m start k : Nat),
      s = racing sprint 35998001 ∧ m = 0 ∧ start = 1000000 ∧ k = 35999 ∧ s.isRunning = true ∧
      s.heat.race = .running ∧ s.heat.startMark = some start ∧ k < 36000 ∧
      s.quietUntil (start + 1000 * k) = true ∧ s.clock ≤ start + 1000 * k ∧ m ≤ start + 1000 * k ∧
      start + 1000 * k < max m s.clock + 1000 :=
  ⟨_, _, _, _, rfl, rfl, rfl, rfl, by decide⟩

theorem witness_limit_and_request_end_the_heat_restored :
    ∃ (s : State) (h : HeatRecord) (start : Nat),
      s = { racing sprint 36000000 with
        timebase := (counting .holdover .external 20000).timebase } ∧
      h = sprint ∧ start = 1000000 ∧ s.isRunning = true ∧ s.heat.race = .running ∧
      s.heat.current = some h ∧ s.heat.startMark = some start ∧
      start + 36000000 < Config.masterLimit ∧ s.clock ≤ start + 36000000 ∧
      (s.watches = true → start + 36000000 ≤ s.clock + 1) ∧ s.watches = true ∧
      s.clock = start + 36000000 ∧ s.timebase.state = .holdover ∧ s.timebase.goodCount = 20000 :=
  ⟨_, _, _, rfl, rfl, rfl, by decide⟩

theorem witness_limit_and_request_end_the_heat_limit :
    ∃ (s : State) (h : HeatRecord) (start : Nat),
      s = racing sprint 36000000 ∧ h = sprint ∧ start = 1000000 ∧ s.isRunning = true ∧
      s.heat.race = .running ∧ s.heat.current = some h ∧ s.heat.startMark = some start ∧
      start + 36000000 < Config.masterLimit ∧ s.clock ≤ start + 36000000 ∧
      (s.watches = true → start + 36000000 ≤ s.clock + 1) :=
  ⟨_, _, _, rfl, rfl, rfl, by decide⟩

theorem witness_limit_and_request_end_the_heat_request :
    ∃ (s : State) (h : HeatRecord) (m : Nat) (tag : Byte),
      s = racing sprint 5 ∧ h = sprint ∧ m = 0 ∧ tag = 7 ∧ s.isRunning = true ∧ s.linkReady ∧
      s.quietUntil m = true ∧ s.heat.race = .running ∧ s.heat.current = some h :=
  ⟨_, _, _, _, rfl, rfl, rfl, rfl, by decide, ⟨rfl, rfl, rfl⟩, by decide, by decide, by decide⟩

theorem witness_start_signals_not_taken_line_guarded :
    ∃ (s : State) (stamp : Nat),
      s = guarded 1000000 ∧ stamp = 999999 ∧ s.isRunning = true ∧ s.heat.startLine = .opened ∧
      stamp ≤ Config.masterLimit ∧ s.quietUntil stamp = true ∧
      (s.heat.race ≠ .armed ∨ ∃ g, s.heat.guardEnd = some g ∧ stamp < g) :=
  ⟨_, _, rfl, rfl, by decide, by decide, by decide, by decide, (Or.inr ⟨1000000, rfl, by decide⟩)⟩

theorem witness_start_signals_not_taken_line_not_armed :
    ∃ (s : State) (stamp : Nat),
      s = ready ∧ stamp = 1000000 ∧ s.isRunning = true ∧ s.heat.startLine = .opened ∧
      stamp ≤ Config.masterLimit ∧ s.quietUntil stamp = true ∧
      (s.heat.race ≠ .armed ∨ ∃ g, s.heat.guardEnd = some g ∧ stamp < g) :=
  ⟨_, _, rfl, rfl, by decide, by decide, by decide, by decide, (Or.inl (by decide))⟩

theorem witness_start_signals_not_taken_request_guarded :
    ∃ (s : State) (m : Nat) (tag : Byte),
      s = guarded 1000001 ∧ m = 0 ∧ tag = 7 ∧ s.isRunning = true ∧ s.linkReady ∧
      s.quietUntil m = true ∧
      (s.heat.race ≠ .armed ∨ ∃ g, s.heat.guardEnd = some g ∧ (s.advance m).masterTime < g) :=
  ⟨_, _, _, rfl, rfl, rfl,
    by decide, ⟨rfl, rfl, rfl⟩, by decide, (Or.inr ⟨1000001, rfl, by decide⟩)⟩

theorem witness_start_signals_not_taken_request_not_armed :
    ∃ (s : State) (m : Nat) (tag : Byte),
      s = ready ∧ m = 0 ∧ tag = 7 ∧ s.isRunning = true ∧ s.linkReady ∧ s.quietUntil m = true ∧
      (s.heat.race ≠ .armed ∨ ∃ g, s.heat.guardEnd = some g ∧ (s.advance m).masterTime < g) :=
  ⟨_, _, _, rfl, rfl, rfl, by decide, ⟨rfl, rfl, rfl⟩, by decide, (Or.inl (by decide))⟩

theorem witness_recall_returns_to_armed_line :
    ∃ (s : State) (h : HeatRecord) (p : Profile) (start stamp : Nat),
      s = racing sprint 99999 ∧ h = sprint ∧ p = pool ∧ start = 1000000 ∧ stamp = 1099999 ∧
      s.isRunning = true ∧ s.heat.race = .running ∧ s.heat.current = some h ∧
      s.heat.startMark = some start ∧ s.store.inForce = some p ∧ s.heat.recallLine = .opened ∧
      stamp ≤ Config.masterLimit ∧ s.quietUntil stamp = true ∧ 0 < p.recallWindow ∧
      stamp < start + p.recallWindow * 100 :=
  ⟨_, _, _, _, _, rfl, rfl, rfl, rfl, rfl, by decide⟩

theorem witness_recall_returns_to_armed_request :
    ∃ (s : State) (h : HeatRecord) (p : Profile) (start m : Nat) (tag : Byte),
      s = racing sprint 99999 ∧ h = sprint ∧ p = pool ∧ start = 1000000 ∧ m = 0 ∧ tag = 7 ∧
      s.isRunning = true ∧ s.linkReady ∧ s.quietUntil m = true ∧ s.heat.race = .running ∧
      s.heat.current = some h ∧ s.heat.startMark = some start ∧ s.store.inForce = some p ∧
      0 < p.recallWindow ∧ (s.advance m).masterTime < start + p.recallWindow * 100 :=
  ⟨_, _, _, _, _, _, rfl, rfl, rfl, rfl, rfl, rfl,
    by decide, ⟨rfl, rfl, rfl⟩, by decide, by decide, by decide, by decide, by decide, by decide,
    by decide⟩

theorem witness_pad_edges_begin_and_end_closures_qualifying :
    ∃ (s : State) (lane : Lane) (wall : Wall) (stamp start : Nat),
      s = racing sprint 10 ∧ lane = 4 ∧ wall = .a ∧ stamp = 1000000 ∧ start = 1000000 ∧
      s.isRunning = true ∧ (s.wall.pads[padIx lane wall]).level = .opened ∧
      (s.wall.pads[padIx lane wall]).capture = .opened ∧ s.heat.startMark = some start ∧
      stamp ≤ Config.masterLimit ∧ s.quietUntil stamp = true ∧ s.wall.level = .idle :=
  ⟨_, _, _, _, _, rfl, rfl, rfl, rfl, rfl, by decide⟩

theorem witness_pad_edges_begin_and_end_closures_blocked :
    ∃ (s : State) (lane : Lane) (wall : Wall) (stamp start : Nat),
      s = racing sprint 10 ∧ lane = 4 ∧ wall = .a ∧ stamp = 999999 ∧ start = 1000000 ∧
      s.isRunning = true ∧ (s.wall.pads[padIx lane wall]).level = .opened ∧
      (s.wall.pads[padIx lane wall]).capture = .opened ∧ s.heat.startMark = some start ∧
      stamp ≤ Config.masterLimit ∧ s.quietUntil stamp = true ∧ s.wall.level = .idle :=
  ⟨_, _, _, _, _, rfl, rfl, rfl, rfl, rfl, by decide⟩

theorem witness_pad_edges_begin_and_end_closures_splash :
    ∃ (s : State) (p : Profile) (lane : Lane) (wall : Wall) (lead stamp : Nat),
      s = closing 8 1523296 ∧ p = pool ∧ lane = 4 ∧ wall = .a ∧ lead = 1523296 ∧ stamp = 1523298 ∧
      s.isRunning = true ∧ s.store.inForce = some p ∧
      (s.wall.pads[padIx lane wall]).level = .closed ∧
      (s.wall.pads[padIx lane wall]).capture = .qualifying lead ∧ stamp < lead + p.qualify ∧
      stamp ≤ Config.masterLimit ∧ s.quietUntil stamp = true ∧ s.wall.level = .idle :=
  ⟨_, _, _, _, _, _, rfl, rfl, rfl, rfl, rfl, rfl, by decide⟩

theorem witness_pad_edges_begin_and_end_closures_late :
    ∃ (s : State) (p : Profile) (lane : Lane) (wall : Wall) (lead stamp : Nat),
      s = closing 8 1523296 ∧ p = pool ∧ lane = 4 ∧ wall = .a ∧ lead = 1523296 ∧ stamp = 1523299 ∧
      s.isRunning = true ∧ s.store.inForce = some p ∧
      (s.wall.pads[padIx lane wall]).level = .closed ∧
      (s.wall.pads[padIx lane wall]).capture = .qualifying lead ∧ lead + p.qualify ≤ stamp ∧
      stamp ≤ Config.masterLimit ∧ s.quietUntil stamp = true ∧ s.wall.level = .idle :=
  ⟨_, _, _, _, _, _, rfl, rfl, rfl, rfl, rfl, rfl, by decide⟩

theorem witness_pad_edges_begin_and_end_closures_held :
    ∃ (s : State) (lane : Lane) (wall : Wall) (level : Level) (stamp : Nat),
      s = captured .held ∧ lane = 4 ∧ wall = .a ∧ level = .opened ∧ stamp = 1000009 ∧
      s.isRunning = true ∧ (s.wall.pads[padIx lane wall]).level ≠ level ∧
      stamp ≤ Config.masterLimit ∧ s.quietUntil stamp = true ∧ s.wall.level = .idle ∧
      ((s.wall.pads[padIx lane wall]).capture = .unarmed ∨ (level = .opened ∧
        ((s.wall.pads[padIx lane wall]).capture = .held ∨
        (s.wall.pads[padIx lane wall]).capture = .blocked))) :=
  ⟨_, _, _, _, _, rfl, rfl, rfl, rfl, rfl, by decide⟩

theorem witness_pad_edges_begin_and_end_closures_leaves_blocked :
    ∃ (s : State) (lane : Lane) (wall : Wall) (level : Level) (stamp : Nat),
      s = captured .blocked ∧ lane = 4 ∧ wall = .a ∧ level = .opened ∧ stamp = 1000009 ∧
      s.isRunning = true ∧ (s.wall.pads[padIx lane wall]).level ≠ level ∧
      stamp ≤ Config.masterLimit ∧ s.quietUntil stamp = true ∧ s.wall.level = .idle ∧
      ((s.wall.pads[padIx lane wall]).capture = .unarmed ∨ (level = .opened ∧
        ((s.wall.pads[padIx lane wall]).capture = .held ∨
        (s.wall.pads[padIx lane wall]).capture = .blocked))) :=
  ⟨_, _, _, _, _, rfl, rfl, rfl, rfl, rfl, by decide⟩

theorem witness_pad_edges_begin_and_end_closures_unarmed :
    ∃ (s : State) (lane : Lane) (wall : Wall) (level : Level) (stamp : Nat),
      s = ready ∧ lane = 4 ∧ wall = .b ∧ level = .closed ∧ stamp = 1000009 ∧ s.isRunning = true ∧
      (s.wall.pads[padIx lane wall]).level ≠ level ∧ stamp ≤ Config.masterLimit ∧
      s.quietUntil stamp = true ∧ s.wall.level = .idle ∧
      ((s.wall.pads[padIx lane wall]).capture = .unarmed ∨ (level = .opened ∧
        ((s.wall.pads[padIx lane wall]).capture = .held ∨
        (s.wall.pads[padIx lane wall]).capture = .blocked))) :=
  ⟨_, _, _, _, _, rfl, rfl, rfl, rfl, rfl, by decide⟩

theorem witness_pad_edges_begin_and_end_closures_wait_ends :
    ∃ (s : State) (lane : Lane) (wall : Wall) (level : Level) (stamp : Nat) (pad : PadIx)
      (step next : LevelStep) (rest : List PadIx),
      s = waited ∧ lane = 0 ∧ wall = .a ∧ level = .opened ∧ stamp = 1004999 ∧ pad = 0 ∧
      step = .waiting 1000000 ∧ next = .driving 1004999 none ∧ rest = [1, 2] ∧ s.isRunning = true ∧
      (s.wall.pads[padIx lane wall]).level ≠ level ∧ stamp ≤ Config.masterLimit ∧
      s.quietUntil stamp = true ∧ s.wall.level = .measuring pad step rest ∧
      (s.wall.pads[padIx lane wall]).capture = .unarmed ∧
      next = (if padIx lane wall = pad then levelHears level stamp (max s.clock stamp) step else step) :=
  ⟨_, _, _, _, _, _, _, _, _, rfl, rfl, rfl, rfl, rfl, rfl, rfl, rfl, rfl, by decide⟩

theorem witness_pad_edges_begin_and_end_closures_answers :
    ∃ (s : State) (lane : Lane) (wall : Wall) (level : Level) (stamp : Nat) (pad : PadIx)
      (step next : LevelStep) (rest : List PadIx),
      s = leveling (.driving 1000000 none) ∧ lane = 0 ∧ wall = .a ∧ level = .closed ∧
      stamp = 1000100 ∧ pad = 0 ∧ step = .driving 1000000 none ∧
      next = .driving 1000000 (some 100) ∧ rest = [1, 2] ∧ s.isRunning = true ∧
      (s.wall.pads[padIx lane wall]).level ≠ level ∧ stamp ≤ Config.masterLimit ∧
      s.quietUntil stamp = true ∧ s.wall.level = .measuring pad step rest ∧
      (s.wall.pads[padIx lane wall]).capture = .unarmed ∧
      next = (if padIx lane wall = pad then levelHears level stamp (max s.clock stamp) step else step) :=
  ⟨_, _, _, _, _, _, _, _, _, rfl, rfl, rfl, rfl, rfl, rfl, rfl, rfl, rfl, by decide⟩

theorem witness_pad_edges_begin_and_end_closures_answers_late :
    ∃ (s : State) (lane : Lane) (wall : Wall) (level : Level) (stamp : Nat) (pad : PadIx)
      (step next : LevelStep) (rest : List PadIx),
      s = leveling (.driving 1000000 none) ∧ lane = 0 ∧ wall = .a ∧ level = .closed ∧
      stamp = 1000101 ∧ pad = 0 ∧ step = .driving 1000000 none ∧ next = .driving 1000000 none ∧
      rest = [1, 2] ∧ s.isRunning = true ∧ (s.wall.pads[padIx lane wall]).level ≠ level ∧
      stamp ≤ Config.masterLimit ∧ s.quietUntil stamp = true ∧
      s.wall.level = .measuring pad step rest ∧ (s.wall.pads[padIx lane wall]).capture = .unarmed ∧
      next = (if padIx lane wall = pad then levelHears level stamp (max s.clock stamp) step else step) :=
  ⟨_, _, _, _, _, _, _, _, _, rfl, rfl, rfl, rfl, rfl, rfl, rfl, rfl, rfl, by decide⟩

theorem witness_pad_edges_begin_and_end_closures_of_another :
    ∃ (s : State) (lane : Lane) (wall : Wall) (level : Level) (stamp : Nat) (pad : PadIx)
      (step next : LevelStep) (rest : List PadIx),
      s = leveling (.driving 1000000 none) ∧ lane = 3 ∧ wall = .a ∧ level = .closed ∧
      stamp = 1000100 ∧ pad = 0 ∧ step = .driving 1000000 none ∧ next = .driving 1000000 none ∧
      rest = [1, 2] ∧ s.isRunning = true ∧ (s.wall.pads[padIx lane wall]).level ≠ level ∧
      stamp ≤ Config.masterLimit ∧ s.quietUntil stamp = true ∧
      s.wall.level = .measuring pad step rest ∧ (s.wall.pads[padIx lane wall]).capture = .unarmed ∧
      next = (if padIx lane wall = pad then levelHears level stamp (max s.clock stamp) step else step) :=
  ⟨_, _, _, _, _, _, _, _, _, rfl, rfl, rfl, rfl, rfl, rfl, rfl, rfl, rfl, by decide⟩

theorem witness_leveling_takes_the_next_pad_wait :
    ∃ (s : State) (pad next : PadIx) (rest : List PadIx) (began : Nat),
      s = leveling (.waiting 1000000) ∧ pad = 0 ∧ next = 1 ∧ rest = [2] ∧ began = 1000000 ∧
      s.isRunning = true ∧ s.wall.level = .measuring pad (.waiting began) (next :: rest) ∧
      s.quietUntil (began + 5000) = true :=
  ⟨_, _, _, _, _, rfl, rfl, rfl, rfl, rfl, by decide⟩

theorem witness_leveling_takes_the_next_pad_drive :
    ∃ (s : State) (pad next : PadIx) (rest : List PadIx) (start : Nat) (answer : Option Nat),
      s = leveling (.driving 1000000 (some 100)) ∧ pad = 0 ∧ next = 1 ∧ rest = [2] ∧
      start = 1000000 ∧ answer = some 100 ∧ s.isRunning = true ∧
      s.wall.level = .measuring pad (.driving start answer) (next :: rest) ∧
      s.quietUntil (start + 101) = true :=
  ⟨_, _, _, _, _, _, rfl, rfl, rfl, rfl, rfl, rfl, by decide⟩

theorem witness_leg_ends_are_at_wall_a_first :
    ∃ (h : HeatRecord) (n : Nat),
      h = relay ∧ n = 2 ∧ h.relay = true ∧ h.lengths ∈ relayLengths ∧ 1 ≤ n ∧ n ≤ h.lengths ∧
      lengthKind h n = .legEnd :=
  ⟨_, _, rfl, rfl, by decide⟩

theorem witness_leg_ends_are_at_wall_a_last :
    ∃ (h : HeatRecord) (n : Nat),
      h = relay ∧ n = 6 ∧ h.relay = true ∧ h.lengths ∈ relayLengths ∧ 1 ≤ n ∧ n ≤ h.lengths ∧
      lengthKind h n = .legEnd :=
  ⟨_, _, rfl, rfl, by decide⟩

theorem witness_self_test_passes_or_fails_pass :
    ∃ (s : State) (h : HeatRecord) (zero full : Reading) (e : Nat),
      s = settling ∧ h = sprint ∧ zero = 16 ∧ full = 1007 ∧ e = 1000200 ∧ s.isRunning = true ∧
      s.heat.current = some h ∧ s.scanner.state = .settling ∧ s.scanner.settlingEnd = some e ∧
      s.scanner.probe = none ∧ s.quietUntil e = true ∧ zero.val ≤ 16 ∧ 1007 ≤ full.val :=
  ⟨_, _, _, _, _, rfl, rfl, rfl, rfl, rfl, by decide⟩

theorem witness_self_test_passes_or_fails_zero_high :
    ∃ (s : State) (h : HeatRecord) (zero full : Reading) (e : Nat) (late : List Lane),
      s = settling ∧ h = sprint ∧ zero = 17 ∧ full = 1007 ∧ e = 1000200 ∧ late = [] ∧
      s.isRunning = true ∧ s.heat.current = some h ∧ s.scanner.state = .settling ∧
      s.scanner.settlingEnd = some e ∧ s.scanner.probe = none ∧ s.quietUntil e = true ∧
      (16 < zero.val ∨ full.val < 1007) ∧
      late = (allLanes.filter fun lane => s.heat.race == .running && h.enters lane && (s.lanes[lane]).reaction == .absent .sensorNotReady) :=
  ⟨_, _, _, _, _, _, rfl, rfl, rfl, rfl, rfl, rfl, by decide⟩

theorem witness_self_test_passes_or_fails_full_low :
    ∃ (s : State) (h : HeatRecord) (zero full : Reading) (e : Nat) (late : List Lane),
      s = lateTest ∧ h = sprint ∧ zero = 16 ∧ full = 1006 ∧ e = 1000200 ∧ late = [4, 7] ∧
      s.isRunning = true ∧ s.heat.current = some h ∧ s.scanner.state = .settling ∧
      s.scanner.settlingEnd = some e ∧ s.scanner.probe = none ∧ s.quietUntil e = true ∧
      (16 < zero.val ∨ full.val < 1007) ∧
      late = (allLanes.filter fun lane => s.heat.race == .running && h.enters lane && (s.lanes[lane]).reaction == .absent .sensorNotReady) :=
  ⟨_, _, _, _, _, _, rfl, rfl, rfl, rfl, rfl, rfl, by decide⟩

theorem witness_self_test_passes_or_fails_probe :
    ∃ (s : State) (zero full : Reading) (e : Nat) (tag : Byte),
      s = { settling with scanner := { settling.scanner with probe := some 7 } } ∧ zero = 16 ∧
      full = 1006 ∧ e = 1000200 ∧ tag = 7 ∧ s.isRunning = true ∧ s.scanner.state = .settling ∧
      s.scanner.settlingEnd = some e ∧ s.scanner.probe = some tag ∧ s.quietUntil e = true :=
  ⟨_, _, _, _, _, rfl, rfl, rfl, rfl, rfl, by decide⟩

theorem witness_reading_gives_the_load_state_first :
    ∃ (s : State) (p : Profile) (lane : Lane) (reading : Reading) (m first k : Nat),
      s = scanning 4 (armed sprint) 1000001 ⟨none, none, none⟩ ∧ p = pool ∧ lane = 4 ∧
      reading = 600 ∧ m = 0 ∧ first = 1000001 ∧ k = 0 ∧ s.isRunning = true ∧
      s.scanner.state = .scanning ∧ s.scanner.sweepStart = some first ∧ s.scanner.probe = none ∧
      s.store.inForce = some p ∧
      (∀ r last, (s.scanner.channels[lane]).latest = some (r, last) →
        last < first + lane.val / 2 + 5 * k ∧ (k = 0 ∨
        first + lane.val / 2 + 5 * k < max (max s.clock m) (last + 1) + 5)) ∧
      max s.clock m ≤ first + lane.val / 2 + 5 * k ∧
      ((s.scanner.channels[lane]).latest = none → k = 0 ∨
        first + lane.val / 2 + 5 * k < max s.clock m + 5) ∧
      s.quietUntil (first + lane.val / 2 + 5 * k) = true ∧
      first + lane.val / 2 + 5 * k ≤ Config.masterLimit ∧
      ((s.scanner.channels[lane]).load = some .loaded → p.unloadedLimit ≤ reading.val) :=
  ⟨_, _, _, _, _, _, _, rfl, rfl, rfl, rfl, rfl, rfl, rfl,
    by decide, by decide, by decide, by decide, by decide, (fun r last hl => by cases hl),
    by decide, (fun _ => by decide), by decide, by decide, (fun _ => by decide)⟩

theorem witness_reading_gives_the_load_state_later :
    ∃ (s : State) (p : Profile) (lane : Lane) (reading : Reading) (m first k : Nat),
      s = scanning 4 (armed sprint) 1000001 ⟨some .loaded, some (700, 1000003), none⟩ ∧ p = pool ∧
      lane = 4 ∧ reading = 400 ∧ m = 0 ∧ first = 1000001 ∧ k = 1 ∧ s.isRunning = true ∧
      s.scanner.state = .scanning ∧ s.scanner.sweepStart = some first ∧ s.scanner.probe = none ∧
      s.store.inForce = some p ∧
      (∀ r last, (s.scanner.channels[lane]).latest = some (r, last) →
        last < first + lane.val / 2 + 5 * k ∧ (k = 0 ∨
        first + lane.val / 2 + 5 * k < max (max s.clock m) (last + 1) + 5)) ∧
      max s.clock m ≤ first + lane.val / 2 + 5 * k ∧
      ((s.scanner.channels[lane]).latest = none → k = 0 ∨
        first + lane.val / 2 + 5 * k < max s.clock m + 5) ∧
      s.quietUntil (first + lane.val / 2 + 5 * k) = true ∧
      first + lane.val / 2 + 5 * k ≤ Config.masterLimit ∧
      ((s.scanner.channels[lane]).load = some .loaded → p.unloadedLimit ≤ reading.val) :=
  ⟨_, _, _, _, _, _, _, rfl, rfl, rfl, rfl, rfl, rfl, rfl,
    by decide, by decide, by decide, by decide, by decide,
    (fun r last hl => by obtain ⟨rfl, rfl⟩ := Prod.mk.inj (Option.some.inj hl); decide), by decide,
    (fun hn => by cases hn), by decide, by decide, (fun _ => by decide)⟩

theorem witness_probe_completes :
    ∃ (s : State) (readings : Vector Reading 10) (tag : Byte) (first : Nat),
      s = swept 0 ∧ readings = Vector.replicate 10 5 ∧ tag = 7 ∧ first = 1000201 ∧
      s.isRunning = true ∧ s.scanner.state = .scanning ∧ s.scanner.sweepStart = some first ∧
      s.scanner.probe = some tag ∧ s.quietUntil (first + 4) = true :=
  ⟨_, _, _, _, rfl, rfl, rfl, rfl, by decide⟩

theorem witness_probe_completes_partly :
    ∃ (s : State) (readings : Vector Reading 10) (tag : Byte) (first : Nat),
      s = swept 3 ∧ readings = Vector.replicate 10 5 ∧ tag = 7 ∧ first = 1000201 ∧
      s.isRunning = true ∧ s.scanner.state = .scanning ∧ s.scanner.sweepStart = some first ∧
      s.scanner.probe = some tag ∧ s.quietUntil (first + 4) = true :=
  ⟨_, _, _, _, rfl, rfl, rfl, rfl, by decide⟩

theorem witness_probe_completes_last :
    ∃ (s : State) (lane : Lane) (reading : Reading) (m : Nat) (tag : Byte) (first : Nat),
      s = swept 9 ∧ lane = 9 ∧ reading = 399 ∧ m = 0 ∧ tag = 7 ∧ first = 1000201 ∧
      s.isRunning = true ∧ s.scanner.state = .scanning ∧ s.scanner.sweepStart = some first ∧
      s.scanner.probe = some tag ∧ s.scanner.probeReadings[lane] = none ∧
      s.quietUntil (first + lane.val / 2) = true ∧
      (∀ l : Lane, l ≠ lane → (s.scanner.probeReadings[l]).isSome = true) :=
  ⟨_, _, _, _, _, _, rfl, rfl, rfl, rfl, rfl, rfl, by decide⟩

theorem witness_probe_completes_before_the_last :
    ∃ (s : State) (lane : Lane) (reading : Reading) (m : Nat) (tag : Byte) (first : Nat),
      s = swept 3 ∧ lane = 3 ∧ reading = 399 ∧ m = 0 ∧ tag = 7 ∧ first = 1000201 ∧
      s.isRunning = true ∧ s.scanner.state = .scanning ∧ s.scanner.sweepStart = some first ∧
      s.scanner.probe = some tag ∧ s.scanner.probeReadings[lane] = none ∧
      s.quietUntil (first + lane.val / 2) = true ∧ s.scanner.probeReadings[(4 : Lane)] = none :=
  ⟨_, _, _, _, _, _, rfl, rfl, rfl, rfl, rfl, rfl, by decide⟩

theorem witness_write_completes :
    ∃ (s : State) (w : StoreWrite),
      s = writing ∧ w = ⟨{ pool with source := .external }, 1000400, true⟩ ∧ s.isRunning = true ∧
      s.store.write = some w ∧ s.quietUntil w.done = true ∧ w.profile.source ≠ s.timebase.source ∧
      s.timebase.state ≠ .unlocked ∧ s.board.mode.isSome = true ∧ s.board.test = false ∧
      s.board.owed = none :=
  ⟨_, _, rfl, rfl, by decide⟩

theorem witness_write_completes_same_source :
    ∃ (s : State) (w : StoreWrite),
      s = unready .locked (some ⟨pool, 1000400, false⟩) ∧ w = ⟨pool, 1000400, false⟩ ∧
      s.isRunning = true ∧ s.store.write = some w ∧ s.quietUntil w.done = true ∧
      w.profile.source = s.timebase.source :=
  ⟨_, _, rfl, rfl, by decide⟩

theorem witness_write_completes_first_profile :
    ∃ (s : State) (w : StoreWrite),
      s = firstWrite ∧ w = ⟨pool, 1000400, false⟩ ∧ s.isRunning = true ∧ s.store.write = some w ∧
      s.quietUntil w.done = true ∧ s.store.inForce = none ∧ s.board.test = false ∧
      s.board.owed = none :=
  ⟨_, _, rfl, rfl, by decide⟩

theorem witness_slot_sends_the_cursor_row :
    ∃ (s : State) (n : Nat),
      s = board { ready.board with mode := some .continuous, nextSlot := some 1000250 } ∧
      n = 1000250 ∧ s.isRunning = true ∧ s.configured = true ∧ s.board.mode = some .continuous ∧
      s.board.test = false ∧ s.board.nextSlot = some n ∧ s.quietUntil n = true ∧
      s.board.line = none ∧ s.board.passDue = false :=
  ⟨_, _, rfl, rfl, by decide⟩

theorem witness_slot_sends_the_cursor_row_line_taken :
    ∃ (s : State) (f : BoardFrame) (n : Nat),
      s = board { sending false with mode := some .continuous, nextSlot := some 1000250 } ∧
      f = ⟨3, .blank, 1000000⟩ ∧ n = 1000250 ∧ s.isRunning = true ∧ s.configured = true ∧
      s.board.mode = some .continuous ∧ s.board.test = false ∧ s.board.nextSlot = some n ∧
      s.quietUntil n = true ∧ s.board.line = some f ∧ s.board.passDue = false :=
  ⟨_, _, _, rfl, rfl, rfl, by decide⟩

theorem witness_slot_sends_the_cursor_row_test :
    ∃ (s : State) (n : Nat),
      s = board { ready.board with test := true, nextSlot := some 1000250 } ∧ n = 1000250 ∧
      s.isRunning = true ∧ s.configured = true ∧ s.board.test = true ∧ s.board.nextSlot = some n ∧
      s.quietUntil n = true ∧ s.board.line = none :=
  ⟨_, _, rfl, rfl, by decide⟩

theorem witness_slot_sends_the_cursor_row_test_line_taken :
    ∃ (s : State) (n : Nat),
      s = board { sending false with test := true, nextSlot := some 1000250 } ∧ n = 1000250 ∧
      s.isRunning = true ∧ s.configured = true ∧ s.board.test = true ∧ s.board.nextSlot = some n ∧
      s.quietUntil n = true ∧ s.board.line = some ⟨3, .blank, 1000000⟩ :=
  ⟨_, _, rfl, rfl, by decide⟩

theorem witness_slot_sends_the_cursor_row_unconfigured :
    ∃ (s : State),
      s = State.reset ∧ s.configured = false :=
  ⟨_, rfl, by decide⟩

theorem witness_periodic_pass_sends_every_row_unconfigured :
    ∃ (s : State),
      s = State.reset ∧ s.configured = false :=
  ⟨_, rfl, by decide⟩

theorem witness_frame_end_sends_the_lowest_row_owed :
    ∃ (s : State) (f : BoardFrame) (row : RowIx) (m : Nat),
      s = board { sending false with mode := some .continuous, owed := some 0 } ∧
      f = ⟨3, .blank, 1000000⟩ ∧ row = 0 ∧ m = 0 ∧ s.isRunning = true ∧ s.configured = true ∧
      s.board.owed = some row ∧ s.board.passDue = false ∧ s.board.line = some f ∧
      s.quietUntil (max m (f.began + boardTicks (rowFrame f).length)) = true :=
  ⟨_, _, _, _, rfl, rfl, rfl, rfl, by decide⟩

theorem witness_frame_end_sends_the_lowest_row_owed_test :
    ∃ (s : State) (f : BoardFrame) (row : RowIx) (m : Nat),
      s = board { sending false with test := true, owed := some 0 } ∧ f = ⟨3, .blank, 1000000⟩ ∧
      row = 0 ∧ m = 0 ∧ s.isRunning = true ∧ s.configured = true ∧ s.board.owed = some row ∧
      s.board.passDue = false ∧ s.board.line = some f ∧
      s.quietUntil (max m (f.began + boardTicks (rowFrame f).length)) = true ∧
        s.board.test = true :=
  ⟨_, _, _, _, rfl, rfl, rfl, rfl, by decide⟩

theorem witness_frame_end_sends_the_lowest_row_continuous :
    ∃ (s : State) (f : BoardFrame) (m : Nat),
      s = board { sending false with mode := some .continuous } ∧ f = ⟨3, .blank, 1000000⟩ ∧
      m = 0 ∧ s.isRunning = true ∧ s.board.owed = none ∧
      (∀ row : RowIx, s.board.pendingRows[row] = false) ∧
      (s.configured = false ∨ s.board.test = true ∨ (s.board.mode = some .continuous ∧
        s.board.passDue = false)) ∧
      s.board.line = some f ∧
      s.quietUntil (max m (f.began + boardTicks (rowFrame f).length)) = true :=
  ⟨_, _, _, rfl, rfl, rfl,
    by decide, by decide, by decide, (Or.inr (Or.inr (by decide))), by decide, by decide⟩

theorem witness_frame_end_sends_the_lowest_row_unconfigured :
    ∃ (s : State) (f : BoardFrame) (m : Nat),
      s = { State.reset with board := sending false } ∧ f = ⟨3, .blank, 1000000⟩ ∧ m = 0 ∧
      s.isRunning = true ∧ s.board.owed = none ∧
      (∀ row : RowIx, s.board.pendingRows[row] = false) ∧
      (s.configured = false ∨ s.board.test = true ∨ (s.board.mode = some .continuous ∧
        s.board.passDue = false)) ∧
      s.board.line = some f ∧
      s.quietUntil (max m (f.began + boardTicks (rowFrame f).length)) = true :=
  ⟨_, _, _, rfl, rfl, rfl,
    by decide, by decide, by decide, (Or.inl (by decide)), by decide, by decide⟩

theorem witness_frame_end_sends_the_lowest_row_long :
    ∃ (f : BoardFrame),
      f = ⟨3, testRow, 1000000⟩ ∧ f.content.place.length = 2 ∧ f.content.marker.length = 3 ∧
      f.content.time.length = 8 ∧ f.content.text.length = 32 :=
  ⟨_, rfl, by decide⟩

theorem witness_frame_end_sends_the_lowest_row_short :
    ∃ (f : BoardFrame),
      f = ⟨3, .blank, 1000000⟩ ∧ f.content.place.length = 2 ∧ f.content.marker.length = 3 ∧
      f.content.time.length = 8 ∧ f.content.text.length = 16 :=
  ⟨_, rfl, by decide⟩

theorem witness_frame_end_sends_the_lowest_row_pending :
    ∃ (s : State) (f : BoardFrame) (m : Nat),
      s = board (sending true) ∧ f = ⟨3, .blank, 1000000⟩ ∧ m = 1000050 ∧ s.isRunning = true ∧
      s.configured = true ∧ s.board.mode = some .onChange ∧ s.board.test = false ∧
      s.board.owed = none ∧ s.board.passDue = false ∧ s.board.line = some f ∧
      s.quietUntil (max m (f.began + boardTicks (rowFrame f).length)) = true :=
  ⟨_, _, _, rfl, rfl, rfl, by decide⟩

theorem witness_frame_end_sends_the_lowest_row_none :
    ∃ (s : State) (f : BoardFrame) (m : Nat),
      s = board (sending false) ∧ f = ⟨3, .blank, 1000000⟩ ∧ m = 0 ∧ s.isRunning = true ∧
      s.configured = true ∧ s.board.mode = some .onChange ∧ s.board.test = false ∧
      s.board.owed = none ∧ s.board.passDue = false ∧ s.board.line = some f ∧
      s.quietUntil (max m (f.began + boardTicks (rowFrame f).length)) = true :=
  ⟨_, _, _, rfl, rfl, rfl, by decide⟩

theorem witness_periodic_pass_sends_every_row_free :
    ∃ (s : State) (n : Nat),
      s = board { ready.board with periodic := some 1050000 } ∧ n = 1050000 ∧ s.isRunning = true ∧
      s.configured = true ∧ s.board.mode = some .onChange ∧ s.board.test = false ∧
      s.board.owed = none ∧ s.board.periodic = some n ∧ s.quietUntil n = true :=
  ⟨_, _, rfl, rfl, by decide⟩

theorem witness_periodic_pass_sends_every_row_busy :
    ∃ (s : State) (n : Nat),
      s = board { sending true with periodic := some 1050000 } ∧ n = 1050000 ∧ s.isRunning = true ∧
      s.configured = true ∧ s.board.mode = some .onChange ∧ s.board.test = false ∧
      s.board.owed = none ∧ s.board.periodic = some n ∧ s.quietUntil n = true ∧
      s.board.line = some ⟨3, .blank, 1000000⟩ :=
  ⟨_, _, rfl, rfl, by decide⟩

theorem witness_hold_runs_out :
    ∃ (s : State) (ends : Nat),
      s = holding ∧ ends = 1050000 ∧ s.isRunning = true ∧ s.heat.race = .running ∧
      s.board.hold = .holding ends ∧ s.quietUntil ends = true :=
  ⟨_, _, rfl, rfl, by decide⟩

theorem witness_receiver_takes_and_drops_frames_byte :
    ∃ (s : State) (b : Byte) (m : Nat),
      s = ready ∧ b = 0xA5 ∧ m = 0 ∧ s.isRunning = true ∧ s.quietUntil m = true ∧
        s.link.held = [] :=
  ⟨_, _, _, rfl, rfl, rfl, by decide⟩

theorem witness_receiver_takes_and_drops_frames_framing :
    ∃ (s : State) (m : Nat) (rest : List Byte),
      s = receiving [0xA5, 1, 7] ∧ m = 0 ∧ rest = [1, 7] ∧ s.isRunning = true ∧
      s.quietUntil m = true ∧ s.link.held = 0xA5#8 :: rest ∧ (∀ b ∈ rest, b ≠ 0xA5#8) ∧
      max s.clock m < s.link.lastByte + 1000 :=
  ⟨_, _, _, rfl, rfl, rfl, by decide⟩

theorem witness_receiver_takes_and_drops_frames_silence :
    ∃ (s : State) (rest : List Byte),
      s = receiving [0xA5, 1, 7] ∧ rest = [1, 7] ∧ s.isRunning = true ∧
      s.link.held = 0xA5#8 :: rest ∧ (∀ b ∈ rest, b ≠ 0xA5#8) ∧
      s.quietUntil (s.link.lastByte + 1000) = true :=
  ⟨_, _, rfl, rfl, by decide⟩

theorem witness_receiver_takes_and_drops_frames_length_513 :
    ∃ (s : State) (m : Nat) (kind tag hi lo : Byte),
      s = receiving [0xA5, 1, 7, 2] ∧ m = 0 ∧ kind = 1 ∧ tag = 7 ∧ hi = 2 ∧ lo = 1 ∧
      s.isRunning = true ∧ s.quietUntil m = true ∧ s.link.held = [0xA5#8, kind, tag, hi] ∧
      512 < hi.toNat * 256 + lo.toNat ∧ kind ≠ 0xA5#8 ∧ tag ≠ 0xA5#8 ∧ hi ≠ 0xA5#8 ∧ lo ≠ 0xA5#8 ∧
      max s.clock m < s.link.lastByte + 1000 :=
  ⟨_, _, _, _, _, _, rfl, rfl, rfl, rfl, rfl, rfl, by decide⟩

theorem witness_receiver_takes_and_drops_frames_header :
    ∃ (s : State) (b : Byte) (m : Nat) (held : List Byte),
      s = receiving [0xA5] ∧ b = 0xA5 ∧ m = 0 ∧ held = [0xA5, 0xA5] ∧ s.isRunning = true ∧
      s.quietUntil m = true ∧ s.link.held ≠ [] ∧ held = s.link.held ++ [b] ∧
      (held.length < 5 ∨ (wordAt held 3 ≤ 512 ∧ held.length < 7 + wordAt held 3)) ∧
      max s.clock m < s.link.lastByte + 1000 :=
  ⟨_, _, _, _, rfl, rfl, rfl, rfl, by decide⟩

theorem witness_receiver_takes_and_drops_frames_payload :
    ∃ (s : State) (b : Byte) (m : Nat) (held : List Byte),
      s = receiving [0xA5, 1, 7, 0, 1, 9] ∧ b = 0 ∧ m = 0 ∧ held = [0xA5, 1, 7, 0, 1, 9, 0] ∧
      s.isRunning = true ∧ s.quietUntil m = true ∧ s.link.held ≠ [] ∧ held = s.link.held ++ [b] ∧
      (held.length < 5 ∨ (wordAt held 3 ≤ 512 ∧ held.length < 7 + wordAt held 3)) ∧
      max s.clock m < s.link.lastByte + 1000 :=
  ⟨_, _, _, _, rfl, rfl, rfl, rfl, by decide⟩

theorem witness_receiver_takes_and_drops_frames_crc :
    ∃ (s : State) (m : Nat) (body : List Byte),
      s = ready ∧ m = 0 ∧ body = [14, 1, 0, 0, 0, 0] ∧ s.isRunning = true ∧ s.quietUntil m = true ∧
      s.link.held = [] ∧ 6 ≤ body.length ∧ wordAt body 2 ≤ 512 ∧ body.length = 6 + wordAt body 2 ∧
      (∀ b ∈ body, b ≠ 0xA5#8) ∧
      (crc16 (body.take (body.length - 2))).toNat ≠ wordAt body (body.length - 2) :=
  ⟨_, _, _, rfl, rfl, rfl, by decide +kernel⟩

theorem witness_receiver_takes_and_drops_frames_hunting :
    ∃ (s : State) (m : Nat) (skipped held : List Byte),
      s = receiving [0xA5, 1, 0xA5, 9] ∧ m = 0 ∧ skipped = [1] ∧ held = [0xA5, 9] ∧
      s.isRunning = true ∧ s.quietUntil m = true ∧ s.link.held = 0xA5#8 :: (skipped ++ held) ∧
      (∀ b ∈ skipped, b ≠ 0xA5#8) ∧ held.head? = some 0xA5#8 ∧
      (held.length < 5 ∨ (wordAt held 3 ≤ 512 ∧ held.length < 7 + wordAt held 3)) ∧
      max s.clock m < s.link.lastByte + 1000 :=
  ⟨_, _, _, _, rfl, rfl, rfl, rfl, by decide⟩

theorem witness_receiver_takes_and_drops_frames_two :
    ∃ (s : State) (skipped rest : List Byte),
      s = receiving [0xA5, 1, 0xA5, 9] ∧ skipped = [1] ∧ rest = [9] ∧ s.isRunning = true ∧
      s.link.held = 0xA5#8 :: (skipped ++ 0xA5#8 :: rest) ∧ (∀ b ∈ skipped ++ rest, b ≠ 0xA5#8) ∧
      (rest.length < 4 ∨ (wordAt rest 2 ≤ 512 ∧ rest.length < 6 + wordAt rest 2)) ∧
      s.quietUntil (s.link.lastByte + 1000) = true :=
  ⟨_, _, _, rfl, rfl, rfl, by decide⟩

theorem witness_console_frame_round_trip :
    ∃ (payload : List Byte),
      payload = List.replicate 512 (0xA5 : Byte) ∧ payload.length ≤ 512 :=
  ⟨_, rfl, (by decide +kernel)⟩

theorem witness_request_frame_is_the_request :
    ∃ (s : State) (payload : List Byte),
      s = ready ∧ payload = [] ∧ s.isRunning = true ∧ s.link.held = [] ∧ payload.length ≤ 512 :=
  ⟨_, _, rfl, rfl, by decide⟩

theorem witness_line_free_begins_the_next_frame_reply :
    ∃ (s : State) (f : TxFrame) (m : Nat),
      s = lineBusy [⟨.deferred, some .probeBlocks, 7, .accepted .empty⟩] [] ∧
      f = ⟨.reply ⟨.immediate, none, 7, .accepted .empty⟩, 1000000⟩ ∧ m = 0 ∧ s.isRunning = true ∧
      s.link.line = some f ∧ s.link.sendsRestart = false ∧ s.link.buffer = [] ∧
      s.quietUntil (max m (f.began + consoleTicks (messageFrame f.message).length)) = true ∧
      s.link.replies = ⟨.deferred, some .probeBlocks, 7, .accepted .empty⟩ :: [] :=
  ⟨_, _, _, rfl, rfl, rfl, by decide⟩

theorem witness_line_free_begins_the_next_frame_notice :
    ∃ (s : State) (f : TxFrame) (m : Nat),
      s = lineBusy [] [⟨0, .levelDone false []⟩] ∧
      f = ⟨.reply ⟨.immediate, none, 7, .accepted .empty⟩, 1000000⟩ ∧ m = 0 ∧ s.isRunning = true ∧
      s.link.line = some f ∧ s.link.sendsRestart = false ∧ s.link.buffer = [] ∧
      s.quietUntil (max m (f.began + consoleTicks (messageFrame f.message).length)) = true ∧
      s.link.replies = [] ∧ s.link.notices = ⟨0, .levelDone false []⟩ :: [] :=
  ⟨_, _, _, rfl, rfl, rfl, by decide⟩

theorem witness_line_free_begins_the_next_frame_idle :
    ∃ (s : State) (f : TxFrame) (m : Nat),
      s = lineBusy [] [] ∧ f = ⟨.reply ⟨.immediate, none, 7, .accepted .empty⟩, 1000000⟩ ∧
      m = 1000100 ∧ s.isRunning = true ∧ s.link.line = some f ∧ s.link.sendsRestart = false ∧
      s.link.buffer = [] ∧
      s.quietUntil (max m (f.began + consoleTicks (messageFrame f.message).length)) = true ∧
      s.link.replies = [] ∧ s.link.notices = [] :=
  ⟨_, _, _, rfl, rfl, rfl, by decide⟩

theorem witness_requests_are_refused_whole_refused :
    ∃ (r : Request) (s : State) (d : Denial),
      r = ⟨.arm, 7, []⟩ ∧ s = ready ∧ d = .wrongState ∧ (s.handle r).answer = some (.refused d) :=
  ⟨_, _, _, rfl, rfl, rfl, by decide⟩

theorem witness_requests_are_refused_whole_deferred :
    ∃ (r : Request) (s : State),
      r = ⟨.probeBlocks, 7, []⟩ ∧ s = ready ∧ (s.handle r).answer = none :=
  ⟨_, _, rfl, rfl, by decide⟩

theorem witness_load_heat_makes_current_or_queues_current :
    ∃ (s : State) (p : Profile) (m : Nat) (tag : Byte) (payload : List Byte),
      s = ready ∧ p = pool ∧ m = 0 ∧ tag = 7 ∧ payload = heatPayload sprint ∧ s.isRunning = true ∧
      s.linkReady ∧ s.quietUntil m = true ∧ s.store.inForce = some p ∧
      heatFault p.installed payload = none ∧ s.heat.race = .idle ∧ s.heat.current = none ∧
      s.heat.queue = [] ∧ s.board.mode.isSome = true ∧ s.board.test = false ∧ s.board.owed = none :=
  ⟨_, _, _, _, _, rfl, rfl, rfl, rfl, rfl,
    by decide +kernel, ⟨rfl, rfl, rfl⟩, by decide +kernel, by decide +kernel, by decide +kernel,
      by decide +kernel, by decide +kernel, by decide +kernel,
    by decide +kernel, by decide +kernel, by decide +kernel⟩

theorem witness_load_heat_makes_current_or_queues_queued :
    ∃ (s : State) (p : Profile) (h : HeatRecord) (m : Nat) (tag : Byte) (payload : List Byte),
      s = loaded sprint ∧ p = pool ∧ h = heatOf .m50 (heatPayload { relay with heat := 4 }) ∧
      m = 0 ∧ tag = 7 ∧ payload = heatPayload { relay with heat := 4 } ∧ s.isRunning = true ∧
      s.linkReady ∧ s.quietUntil m = true ∧ s.store.inForce = some p ∧
      heatFault p.installed payload = none ∧ s.heat.race ≠ .idle ∧ s.heat.queue.length < 4 ∧
      h = heatOf p.course payload ∧
      (∀ q ∈ s.heat.current.toList ++ s.heat.queue, ¬(q.event = h.event ∧ q.heat = h.heat)) :=
  ⟨_, _, _, _, _, _, rfl, rfl, rfl, rfl, rfl, rfl,
    by decide +kernel, ⟨rfl, rfl, rfl⟩, by decide +kernel, by decide +kernel, by decide +kernel,
      by decide +kernel, by decide +kernel, rfl,
    by decide +kernel⟩

theorem witness_withdraw_takes_from_the_queue :
    ∃ (s : State) (m : Nat) (tag e1 e0 n : Byte) (before after : List HeatRecord) (h : HeatRecord),
      s = queued [{ sprint with heat := 2 }, relay, sprint] ∧ m = 0 ∧ tag = 7 ∧ e1 = 0 ∧ e0 = 12 ∧
      n = 3 ∧ before = [{ sprint with heat := 2 }] ∧ after = [sprint] ∧ h = relay ∧
      s.isRunning = true ∧ s.linkReady ∧ s.quietUntil m = true ∧
      s.heat.queue = before ++ h :: after ∧ h.event = e1.toNat * 256 + e0.toNat ∧
      h.heat = n.toNat ∧ (∀ q ∈ before, ¬(q.event = h.event ∧ q.heat = h.heat)) :=
  ⟨_, _, _, _, _, _, _, _, _, rfl, rfl, rfl, rfl, rfl, rfl, rfl, rfl, rfl,
    by decide, ⟨rfl, rfl, rfl⟩, by decide, by decide, by decide, by decide, by decide⟩

theorem witness_queries_change_nothing :
    ∃ (s : State) (m : Nat) (tag : Byte),
      s = archived ∧ m = 0 ∧ tag = 7 ∧ s.isRunning = true ∧ s.linkReady ∧ s.quietUntil m = true ∧
      (9 : Byte).toNat ≤ 9 ∧ 1 ≤ (60 : Byte).toNat ∧ (60 : Byte).toNat ≤ 60 ∧
      s.placing.archive.reverse[(0 : Byte).toNat]? = some ⟨12, 3, 2, false, .clear, []⟩ ∧
      s.placing.archive.reverse[(1 : Byte).toNat]? = none ∧ s.store.inForce = some pool :=
  ⟨_, _, _, rfl, rfl, rfl,
    by decide, ⟨rfl, rfl, rfl⟩, by decide, by decide, by decide, by decide, by decide, by decide,
    by decide⟩

theorem witness_arm_makes_the_heat_ready_even :
    ∃ (s : State) (p : Profile) (h : HeatRecord) (m : Nat) (tag : Byte),
      s = loaded sprint ∧ p = pool ∧ h = sprint ∧ m = 0 ∧ tag = 7 ∧ s.isRunning = true ∧
      s.linkReady ∧ s.quietUntil m = true ∧ s.store.inForce = some p ∧ s.heat.current = some h ∧
      s.heat.race = .loaded ∧ (∀ lane : Lane, h.enters lane = true → p.installed[lane] = true) ∧
      s.timebase.state = .locked ∧ s.busy = false ∧ s.board.test = false :=
  ⟨_, _, _, _, _, rfl, rfl, rfl, rfl, rfl,
    by decide, ⟨rfl, rfl, rfl⟩, by decide, by decide, by decide, by decide, by decide, by decide,
    by decide, by decide⟩

theorem witness_arm_makes_the_heat_ready_odd :
    ∃ (s : State) (p : Profile) (h : HeatRecord) (m : Nat) (tag : Byte),
      s = loaded { sprint with lengths := 1 } ∧ p = pool ∧ h = { sprint with lengths := 1 } ∧
      m = 0 ∧ tag = 7 ∧ s.isRunning = true ∧ s.linkReady ∧ s.quietUntil m = true ∧
      s.store.inForce = some p ∧ s.heat.current = some h ∧ s.heat.race = .loaded ∧
      (∀ lane : Lane, h.enters lane = true → p.installed[lane] = true) ∧
      s.timebase.state = .locked ∧ s.busy = false ∧ s.board.test = false :=
  ⟨_, _, _, _, _, rfl, rfl, rfl, rfl, rfl,
    by decide, ⟨rfl, rfl, rfl⟩, by decide, by decide, by decide, by decide, by decide, by decide,
    by decide, by decide⟩

theorem witness_arm_makes_the_heat_ready_not_ready :
    ∃ (s : State) (p : Profile) (h : HeatRecord) (m : Nat) (tag : Byte),
      s = unready .acquiring none ∧ p = pool ∧ h = sprint ∧ m = 0 ∧ tag = 7 ∧ s.isRunning = true ∧
      s.linkReady ∧ s.quietUntil m = true ∧ s.store.inForce = some p ∧ s.heat.current = some h ∧
      s.heat.race = .loaded ∧ (∀ lane : Lane, h.enters lane = true → p.installed[lane] = true) ∧
      (s.timebase.state ≠ .locked ∨ s.busy = true) :=
  ⟨_, _, _, _, _, rfl, rfl, rfl, rfl, rfl,
    by decide, ⟨rfl, rfl, rfl⟩, by decide, by decide, by decide, by decide, by decide,
    (Or.inl (by decide))⟩

theorem witness_arm_makes_the_heat_ready_busy :
    ∃ (s : State) (p : Profile) (h : HeatRecord) (m : Nat) (tag : Byte),
      s = unready .locked (some ⟨pool, 1000400, false⟩) ∧ p = pool ∧ h = sprint ∧ m = 0 ∧ tag = 7 ∧
      s.isRunning = true ∧ s.linkReady ∧ s.quietUntil m = true ∧ s.store.inForce = some p ∧
      s.heat.current = some h ∧ s.heat.race = .loaded ∧
      (∀ lane : Lane, h.enters lane = true → p.installed[lane] = true) ∧
      (s.timebase.state ≠ .locked ∨ s.busy = true) :=
  ⟨_, _, _, _, _, rfl, rfl, rfl, rfl, rfl,
    by decide, ⟨rfl, rfl, rfl⟩, by decide, by decide, by decide, by decide, by decide,
    (Or.inr (by decide))⟩

theorem witness_disarm_returns_to_loaded :
    ∃ (s : State) (h : HeatRecord) (m : Nat) (tag : Byte),
      s = armed sprint ∧ h = sprint ∧ m = 0 ∧ tag = 7 ∧ s.isRunning = true ∧ s.linkReady ∧
      s.quietUntil m = true ∧ s.heat.race = .armed ∧ s.heat.current = some h :=
  ⟨_, _, _, _, rfl, rfl, rfl, rfl, by decide, ⟨rfl, rfl, rfl⟩, by decide, by decide, by decide⟩

theorem witness_disarm_returns_to_loaded_restored :
    ∃ (s : State) (h : HeatRecord) (m : Nat) (tag : Byte),
      s = { armed sprint with timebase := (counting .holdover .external 20000).timebase } ∧
      h = sprint ∧ m = 0 ∧ tag = 7 ∧ s.isRunning = true ∧ s.linkReady ∧ s.quietUntil m = true ∧
      s.heat.race = .armed ∧ s.heat.current = some h ∧ s.timebase.state = .holdover ∧
      s.timebase.goodCount = 20000 :=
  ⟨_, _, _, _, rfl, rfl, rfl, rfl,
    by decide, ⟨rfl, rfl, rfl⟩, by decide, by decide, by decide, by decide, by decide⟩

theorem witness_close_lane_discards_the_window :
    ∃ (s : State) (h : HeatRecord) (m : Nat) (tag b : Byte) (lane other : Lane),
      s = softFinish ∧ h = sprint ∧ m = 0 ∧ tag = 7 ∧ b = 4 ∧ lane = 4 ∧ other = 3 ∧
      s.isRunning = true ∧ s.linkReady ∧ s.quietUntil m = true ∧ s.heat.race = .running ∧
      s.heat.current = some h ∧ b.toNat = lane.val ∧ (s.lanes[lane]).status = .racing ∧
      legsApart h false 0 (s.lanes[lane]).exchanges ∧ other ≠ lane ∧ h.enters other = true ∧
      (s.lanes[other]).status = .racing :=
  ⟨_, _, _, _, _, _, _, rfl, rfl, rfl, rfl, rfl, rfl, rfl,
    by decide, ⟨rfl, rfl, rfl⟩, by decide, by decide, by decide, by decide, by decide,
    (by simp only [legsApart]; decide), by decide, by decide, by decide⟩

theorem witness_close_lane_discards_the_window_settles :
    ∃ (s : State) (h : HeatRecord) (m : Nat) (tag b : Byte) (lane other : Lane),
      s = touching relay 6 .b 1200012 3 none [⟨1, .pad, some 5, none, none, .pending⟩] ∧
      h = relay ∧ m = 0 ∧ tag = 7 ∧ b = 6 ∧ lane = 6 ∧ other = 1 ∧ s.isRunning = true ∧
      s.linkReady ∧ s.quietUntil m = true ∧ s.heat.race = .running ∧ s.heat.current = some h ∧
      b.toNat = lane.val ∧ (s.lanes[lane]).status = .racing ∧
      legsApart h false 0 (s.lanes[lane]).exchanges ∧ other ≠ lane ∧ h.enters other = true ∧
      (s.lanes[other]).status = .racing :=
  ⟨_, _, _, _, _, _, _, rfl, rfl, rfl, rfl, rfl, rfl, rfl,
    by decide, ⟨rfl, rfl, rfl⟩, by decide, by decide, by decide, by decide, by decide,
    (by simp only [legsApart]; decide), by decide, by decide, by decide⟩

theorem witness_close_lane_discards_the_window_absent :
    ∃ (s : State) (h : HeatRecord) (m : Nat) (tag b : Byte) (lane other : Lane),
      s = absent 4 softFinish ∧ h = sprint ∧ m = 0 ∧ tag = 7 ∧ b = 4 ∧ lane = 4 ∧ other = 3 ∧
      s.isRunning = true ∧ s.linkReady ∧ s.quietUntil m = true ∧ s.heat.race = .running ∧
      s.heat.current = some h ∧ b.toNat = lane.val ∧ (s.lanes[lane]).status = .racing ∧
      legsApart h false 0 (s.lanes[lane]).exchanges ∧ other ≠ lane ∧ h.enters other = true ∧
      (s.lanes[other]).status = .racing :=
  ⟨_, _, _, _, _, _, _, rfl, rfl, rfl, rfl, rfl, rfl, rfl,
    by decide, ⟨rfl, rfl, rfl⟩, by decide, by decide, by decide, by decide, by decide,
    (by simp only [legsApart]; decide), by decide, by decide, by decide⟩

theorem witness_officialise_archives_the_heat :
    ∃ (s : State) (h : HeatRecord) (m : Nat) (tag : Byte),
      s = judged .judging ∧ h = sprint ∧ m = 0 ∧ tag = 7 ∧ s.isRunning = true ∧ s.linkReady ∧
      s.quietUntil m = true ∧ s.heat.race = .judging ∧ s.heat.current = some h ∧
      (∀ lane : Lane, h.enters lane = true → (s.lanes[lane]).disqualified = false →
        (s.lanes[lane]).reasons.any = false) :=
  ⟨_, _, _, _, rfl, rfl, rfl, rfl,
    by decide, ⟨rfl, rfl, rfl⟩, by decide, by decide, by decide, by decide⟩

theorem witness_lock_guards_the_archive_clear :
    ∃ (s : State) (m : Nat) (tag : Byte),
      s = ready ∧ m = 0 ∧ tag = 7 ∧ s.isRunning = true ∧ s.linkReady ∧ s.quietUntil m = true ∧
      s.placing.locked = false :=
  ⟨_, _, _, rfl, rfl, rfl, by decide, ⟨rfl, rfl, rfl⟩, by decide, by decide⟩

theorem witness_lock_guards_the_archive_locked :
    ∃ (s : State) (m : Nat) (tag : Byte),
      s = locked ∧ m = 0 ∧ tag = 7 ∧ s.isRunning = true ∧ s.linkReady ∧ s.quietUntil m = true ∧
      s.placing.locked = true :=
  ⟨_, _, _, rfl, rfl, rfl, by decide, ⟨rfl, rfl, rfl⟩, by decide, by decide⟩

theorem witness_board_requests_set_the_board_running :
    ∃ (s : State) (m : Nat) (tag : Byte),
      s = racing sprint 5 ∧ m = 0 ∧ tag = 7 ∧ s.isRunning = true ∧ s.linkReady ∧
      s.quietUntil m = true ∧ s.configured = true ∧ s.armedOrRunning = true ∧
      (List.replicate 32 (0x41 : Byte)).length = (32 : Byte).toNat ∧
      1 ≤ (List.replicate 32 (0x41 : Byte)).length ∧
      (List.replicate 32 (0x41 : Byte)).length ≤ 32 ∧
      (List.replicate 32 (0x41 : Byte)).all isPrintable = true :=
  ⟨_, _, _, rfl, rfl, rfl,
    by decide, ⟨rfl, rfl, rfl⟩, by decide, by decide, by decide, by decide, by decide, by decide,
    by decide⟩

theorem witness_board_requests_set_the_board_cut :
    ∃ (s : State) (m : Nat) (tag : Byte),
      s = ready ∧ m = 0 ∧ tag = 7 ∧ s.isRunning = true ∧ s.linkReady ∧ s.quietUntil m = true ∧
      s.configured = true ∧ s.armedOrRunning = false ∧ s.board.test = false ∧ s.board.line = none ∧
      (List.replicate 33 (0x41 : Byte)).length = (33 : Byte).toNat ∧
      32 < (List.replicate 33 (0x41 : Byte)).length ∧
      (List.replicate 33 (0x41 : Byte)).all isPrintable = true :=
  ⟨_, _, _, rfl, rfl, rfl,
    by decide, ⟨rfl, rfl, rfl⟩, by decide, by decide, by decide, by decide, by decide, by decide,
    by decide, by decide⟩

theorem witness_board_requests_set_the_board_unconfigured :
    ∃ (s : State) (m : Nat) (tag : Byte),
      s = State.reset ∧ m = 0 ∧ tag = 7 ∧ s.isRunning = true ∧ s.linkReady ∧
      s.quietUntil m = true ∧ s.configured = false ∧ ([] : Text).length = (0 : Byte).toNat ∧
      ([] : Text).all isPrintable = true :=
  ⟨_, _, _, rfl, rfl, rfl, by decide, ⟨rfl, rfl, rfl⟩, by decide, by decide, by decide, by decide⟩

theorem witness_board_requests_set_the_board_test_on :
    ∃ (s : State) (m : Nat) (tag : Byte),
      s = board { sending false with test := true } ∧ m = 0 ∧ tag = 7 ∧ s.isRunning = true ∧
      s.linkReady ∧ s.quietUntil m = true ∧ s.configured = true ∧ s.armedOrRunning = false ∧
      s.board.test = true ∧ s.board.mode = some .onChange ∧ s.lineSettled :=
  ⟨_, _, _, rfl, rfl, rfl,
    by decide, ⟨rfl, rfl, rfl⟩, by decide, by decide, by decide, by decide, by decide,
    (Or.inl (by decide))⟩

theorem witness_board_requests_set_the_board_up_to_date :
    ∃ (s : State) (m : Nat) (tag : Byte),
      s = board (sending true) ∧ m = 0 ∧ tag = 7 ∧ s.isRunning = true ∧ s.linkReady ∧
      s.quietUntil m = true ∧ s.configured = true ∧ s.armedOrRunning = false ∧
      s.board.mode = some .onChange ∧ s.board.test = false ∧ s.board.passDue = false ∧
      s.board.image = s.imageNow ∧ s.lineSettled :=
  ⟨_, _, _, rfl, rfl, rfl,
    by decide, ⟨rfl, rfl, rfl⟩, by decide, by decide, by decide, by decide, by decide, by decide,
    by decide, (Or.inl (by decide))⟩

theorem witness_board_requests_set_the_board_unprintable :
    ∃ (s : State) (m : Nat) (tag : Byte),
      s = armed sprint ∧ m = 0 ∧ tag = 7 ∧ s.isRunning = true ∧ s.linkReady ∧
      s.quietUntil m = true ∧ s.configured = true ∧ s.armedOrRunning = true ∧
      ([0x41, 0x7F] : Text).length = (2 : Byte).toNat ∧
      ([0x41, 0x7F] : Text).all isPrintable = false :=
  ⟨_, _, _, rfl, rfl, rfl,
    by decide, ⟨rfl, rfl, rfl⟩, by decide, by decide, by decide, by decide, by decide⟩

theorem witness_profile_write_starts_or_is_protected_service :
    ∃ (s : State) (m : Nat) (tag : Byte) (payload : List Byte),
      s = ready ∧ m = 0 ∧ tag = 7 ∧ payload = profilePayload pool ∧ s.isRunning = true ∧
      s.linkReady ∧ s.quietUntil m = true ∧ profileFault payload = none ∧
      s.armedOrRunning = false ∧ s.busy = false ∧
      (s.store.mode = .service ∨ s.store.setupOpen = true ∨ ∀ p, s.store.inForce = some p →
        p.course = (profileOf payload).course ∧ p.installed = (profileOf payload).installed ∧
        p.source = (profileOf payload).source) :=
  ⟨_, _, _, _, rfl, rfl, rfl, rfl,
    by decide, ⟨rfl, rfl, rfl⟩, by decide, by decide, by decide, by decide, (Or.inl (by decide))⟩

theorem witness_profile_write_starts_or_is_protected_unprotected :
    ∃ (s : State) (m : Nat) (tag : Byte) (payload : List Byte),
      s = competition ∧ m = 0 ∧ tag = 7 ∧ payload = profilePayload { pool with qualify := 50 } ∧
      s.isRunning = true ∧ s.linkReady ∧ s.quietUntil m = true ∧ profileFault payload = none ∧
      s.armedOrRunning = false ∧ s.busy = false ∧
      (s.store.mode = .service ∨ s.store.setupOpen = true ∨ ∀ p, s.store.inForce = some p →
        p.course = (profileOf payload).course ∧ p.installed = (profileOf payload).installed ∧
        p.source = (profileOf payload).source) :=
  ⟨_, _, _, _, rfl, rfl, rfl, rfl,
    by decide +kernel, ⟨rfl, rfl, rfl⟩, by decide +kernel, by decide +kernel, by decide +kernel,
      by decide +kernel,
    (Or.inr (Or.inr (fun p hp => by obtain rfl := Option.some.inj hp; decide +kernel)))⟩

theorem witness_profile_write_starts_or_is_protected_course :
    ∃ (s : State) (p : Profile) (m : Nat) (tag : Byte) (payload : List Byte),
      s = competition ∧ p = pool ∧ m = 0 ∧ tag = 7 ∧
      payload = profilePayload { pool with course := .m25 } ∧ s.isRunning = true ∧ s.linkReady ∧
      s.quietUntil m = true ∧ profileFault payload = none ∧ s.armedOrRunning = false ∧
      s.busy = false ∧ s.store.mode = .competition ∧ s.store.setupOpen = false ∧
      s.store.inForce = some p ∧
      (p.course ≠ (profileOf payload).course ∨ p.installed ≠ (profileOf payload).installed ∨
        p.source ≠ (profileOf payload).source) :=
  ⟨_, _, _, _, _, rfl, rfl, rfl, rfl, rfl,
    by decide, ⟨rfl, rfl, rfl⟩, by decide, by decide, by decide, by decide, by decide, by decide,
    by decide, by decide⟩

theorem witness_profile_write_starts_or_is_protected_source :
    ∃ (s : State) (p : Profile) (m : Nat) (tag : Byte) (payload : List Byte),
      s = competition ∧ p = pool ∧ m = 0 ∧ tag = 7 ∧
      payload = profilePayload { pool with source := .external } ∧ s.isRunning = true ∧
      s.linkReady ∧ s.quietUntil m = true ∧ profileFault payload = none ∧
      s.armedOrRunning = false ∧ s.busy = false ∧ s.store.mode = .competition ∧
      s.store.setupOpen = false ∧ s.store.inForce = some p ∧
      (p.course ≠ (profileOf payload).course ∨ p.installed ≠ (profileOf payload).installed ∨
        p.source ≠ (profileOf payload).source) :=
  ⟨_, _, _, _, _, rfl, rfl, rfl, rfl, rfl,
    by decide +kernel, ⟨rfl, rfl, rfl⟩, by decide +kernel, by decide +kernel, by decide +kernel,
      by decide +kernel, by decide +kernel, by decide +kernel,
    by decide +kernel, by decide +kernel⟩

theorem witness_service_procedures_begin :
    ∃ (s : State) (m : Nat) (tag : Byte),
      s = ready ∧ m = 0 ∧ tag = 7 ∧ s.isRunning = true ∧ s.linkReady ∧ s.quietUntil m = true ∧
      s.store.mode = .service ∧ (s.heat.race = .idle ∨ s.heat.race = .loaded) ∧ s.busy = false ∧
      s.timebase.state ≠ .unlocked ∧ s.store.inForce = some pool ∧
      installedPads pool = 0 :: allPads.tail :=
  ⟨_, _, _, rfl, rfl, rfl,
    by decide, ⟨rfl, rfl, rfl⟩, by decide, by decide, by decide, by decide, by decide, by decide,
    by decide⟩

theorem witness_restart_stops_execution :
    ∃ (s : State) (m : Nat) (tag : Byte),
      s = ready ∧ m = 0 ∧ tag = 7 ∧ s.isRunning = true ∧ s.linkReady ∧ s.quietUntil m = true ∧
      s.link.fresh = 0 ∧ s.link.line = none :=
  ⟨_, _, _, rfl, rfl, rfl, by decide, ⟨rfl, rfl, rfl⟩, by decide, by decide, by decide⟩

theorem witness_restart_stops_execution_taken :
    ∃ (s : State) (m : Nat) (tag : Byte),
      s = lineBusy [] [] ∧ m = 0 ∧ tag = 7 ∧ s.isRunning = true ∧ s.linkReady ∧
      s.quietUntil m = true ∧ s.link.fresh = 0 ∧ s.link.line ≠ none :=
  ⟨_, _, _, rfl, rfl, rfl, by decide, ⟨rfl, rfl, rfl⟩, by decide, by decide, by decide⟩

theorem witness_place_counts_smaller_times :
    ∃ (order : List (Lane × Nat)),
      order = [(3, 5228), (4, 5233), (6, 5233), (5, 5234)] ∧ (order.map (·.1)).Nodup ∧
      ((6 : Lane), 5233) ∈ ([(3, 5228), (4, 5233), (6, 5233), (5, 5234)] : List (Lane × Nat)) ∧
      (∀ e ∈ ([(3, 5228), (4, 5233), (6, 5233), (5, 5234)] : List (Lane × Nat)), e.1 ≠ 0) :=
  ⟨_, rfl, by decide⟩

theorem witness_insertion_keeps_the_order :
    ∃ (order : List (Lane × Nat)),
      order = [(3, 5228), (4, 5233), (6, 5233), (5, 5234)] ∧
      (order.Pairwise (fun a b => a.2 < b.2 ∨ (a.2 = b.2 ∧ a.1 < b.1))) ∧ (order.map (·.1)).Nodup :=
  ⟨_, rfl, by decide⟩

theorem witness_signed_hundredths_round_down_low :
    ∃ (ticks q : Int),
      ticks = -99900 ∧ q = -999 ∧ 100 * q ≤ ticks ∧ ticks < 100 * q + 100 ∧ (-999 : Int) ≤ -999 :=
  ⟨_, _, rfl, rfl, by decide⟩

theorem witness_signed_hundredths_round_down_below :
    ∃ (ticks q : Int),
      ticks = -99901 ∧ q = -1000 ∧ 100 * q ≤ ticks ∧ ticks < 100 * q + 100 ∧ (-1000 : Int) < -999 :=
  ⟨_, _, rfl, rfl, by decide⟩

theorem witness_signed_hundredths_round_down_high :
    ∃ (ticks q : Int),
      ticks = 99999 ∧ q = 999 ∧ 100 * q ≤ ticks ∧ ticks < 100 * q + 100 ∧ (999 : Int) ≤ 999 :=
  ⟨_, _, rfl, rfl, by decide⟩

theorem witness_signed_hundredths_round_down_above :
    ∃ (ticks q : Int),
      ticks = 100000 ∧ q = 1000 ∧ 100 * q ≤ ticks ∧ ticks < 100 * q + 100 ∧ (999 : Int) < 1000 :=
  ⟨_, _, rfl, rfl, by decide⟩

theorem witness_heat_payload_round_trip_individual :
    ∃ (installed : Vector Bool 10) (h : HeatRecord),
      installed = Vector.replicate 10 true ∧ h = sprint ∧ h.valid installed = true :=
  ⟨_, _, rfl, rfl, by decide⟩

theorem witness_heat_payload_round_trip_relay :
    ∃ (installed : Vector Bool 10) (h : HeatRecord),
      installed = Vector.replicate 10 true ∧ h = relay ∧ h.valid installed = true :=
  ⟨_, _, rfl, rfl, by decide⟩

theorem witness_profile_payload_round_trip :
    ∃ (q : Profile),
      q = pool ∧ q.inRange = true :=
  ⟨_, rfl, by decide⟩

theorem witness_every_step_keeps_the_laws :
    ∃ (s t : State),
      s = racing sprint 5 ∧ t = State.tick (racing sprint 5) ∧ s.Lawful ∧ step s = .next t :=
  ⟨_, _, rfl, rfl, (by unfold State.Lawful; exact ⟨rfl, by decide⟩), rfl⟩

theorem witness_every_step_keeps_the_bounds :
    ∃ (s t : State),
      s = racing sprint 5 ∧ t = State.tick (racing sprint 5) ∧ s.Bounded ∧ step s = .next t :=
  ⟨_, _, rfl, rfl, (by simp only [State.Bounded]; decide), rfl⟩

theorem witness_lock_and_master_time_never_go_back_lock :
    ∃ (s t : State),
      s = locked ∧ t = State.tick locked ∧ s.isRunning = true ∧ s.placing.locked = true ∧
      step s = .next t ∧ t.isRunning = true :=
  ⟨_, _, rfl, rfl, by decide, by decide, rfl, by decide⟩

theorem witness_lock_and_master_time_never_go_back_time :
    ∃ (s t : State),
      s = racing sprint 5 ∧ t = State.tick (racing sprint 5) ∧ s.isRunning = true ∧
      step s = .next t ∧ t.isRunning = true :=
  ⟨_, _, rfl, rfl, by decide, rfl, by decide⟩

theorem witness_set_edge_marks_in_armed_mark :
    ∃ (s : State) (level : Level) (stamp : Nat),
      s = armed sprint ∧ level = .closed ∧ stamp = 1099511627774 ∧ s.isRunning = true ∧
      s.heat.setLine ≠ level ∧ stamp ≤ Config.masterLimit ∧ s.quietUntil stamp = true ∧
      s.link.fresh = 0 ∧ s.link.line = none :=
  ⟨_, _, _, rfl, rfl, rfl, by decide⟩

theorem witness_set_edge_marks_in_armed_opening :
    ∃ (s : State) (level : Level) (stamp : Nat),
      s = setHeld (lineBusy [] [⟨0, .levelDone false []⟩]) ∧ level = .opened ∧ stamp = 0 ∧
      s.isRunning = true ∧ s.heat.setLine ≠ level ∧ stamp ≤ Config.masterLimit ∧
      s.quietUntil stamp = true ∧ s.link.fresh = 0 ∧ s.link.line ≠ none :=
  ⟨_, _, _, rfl, rfl, rfl, by decide⟩

theorem witness_start_signal_starts_the_heat_line :
    ∃ (s : State) (h : HeatRecord) (p : Profile) (stamp : Nat),
      s = onTheBlocks ∧ h = sprint ∧ p = pool ∧ stamp = 1000000 ∧ s.readyToStart h p stamp ∧
      s.heat.startLine = .opened ∧ stamp ≤ Config.masterLimit ∧ s.quietUntil stamp = true ∧
      (∀ g, s.heat.guardEnd = some g → g ≤ stamp) ∧ settledLanes h s stamp ≠ [] :=
  ⟨_, _, _, _, rfl, rfl, rfl, rfl,
    (by simp only [State.readyToStart]; decide), by decide, by decide, by decide,
    (fun g hg => by obtain rfl := Option.some.inj hg; decide), by decide⟩

theorem witness_start_signal_starts_the_heat_request :
    ∃ (s : State) (h : HeatRecord) (p : Profile) (m : Nat) (tag : Byte),
      s = onTheBlocks ∧ h = sprint ∧ p = pool ∧ m = 0 ∧ tag = 7 ∧ s.linkReady ∧
      s.quietUntil m = true ∧ s.readyToStart h p (s.advance m).masterTime ∧
      (∀ g, s.heat.guardEnd = some g → g ≤ (s.advance m).masterTime) ∧
      settledLanes h s (s.advance m).masterTime ≠ [] :=
  ⟨_, _, _, _, _, rfl, rfl, rfl, rfl, rfl,
    ⟨rfl, rfl, rfl⟩, by decide, (by simp only [State.readyToStart]; decide),
    (fun g hg => by obtain rfl := Option.some.inj hg; decide), by decide⟩

theorem witness_qualified_touch_makes_a_turn_turn :
    ∃ (s : State) (h : HeatRecord) (p : Profile) (lane : Lane) (wall : Wall)
      (start lead time n : Nat),
      s = touching sprint 4 .b 1200012 1 none [] ∧ h = sprint ∧ p = pool ∧ lane = 4 ∧ wall = .b ∧
      start = 1000000 ∧ lead = 1200012 ∧ time = 200000 ∧ n = 1 ∧
      s.TouchDue h p lane wall start lead time ∧ n = (s.lanes[lane]).expected ∧
      wall = lengthWall h n ∧ lengthKind h n = .turn ∧ (s.lanes[lane]).window = none ∧
      (s.lanes[lane]).gateBase + h.inhibit * 100 ≤ time ∧
      legsApart h (s.scanner.state == .fault) (n + 1) (s.lanes[lane]).exchanges :=
  ⟨_, _, _, _, _, _, _, _, _, rfl, rfl, rfl, rfl, rfl, rfl, rfl, rfl, rfl,
    (by simp only [State.TouchDue]; decide), by decide, by decide, by decide, by decide, by decide,
    (by simp only [legsApart]; decide)⟩

theorem witness_qualified_touch_makes_a_turn_turn_before_leg_end :
    ∃ (s : State) (h : HeatRecord) (p : Profile) (lane : Lane) (wall : Wall)
      (start lead time n : Nat),
      s = touching relay 6 .b 1200012 1 none [] ∧ h = relay ∧ p = pool ∧ lane = 6 ∧ wall = .b ∧
      start = 1000000 ∧ lead = 1200012 ∧ time = 200000 ∧ n = 1 ∧
      s.TouchDue h p lane wall start lead time ∧ n = (s.lanes[lane]).expected ∧
      wall = lengthWall h n ∧ lengthKind h n = .turn ∧ (s.lanes[lane]).window = none ∧
      (s.lanes[lane]).gateBase + h.inhibit * 100 ≤ time ∧
      legsApart h (s.scanner.state == .fault) (n + 1) (s.lanes[lane]).exchanges :=
  ⟨_, _, _, _, _, _, _, _, _, rfl, rfl, rfl, rfl, rfl, rfl, rfl, rfl, rfl,
    (by simp only [State.TouchDue]; decide), by decide, by decide, by decide, by decide, by decide,
    (by simp only [legsApart]; decide)⟩

theorem witness_qualified_touch_makes_a_turn_turn_without_sensors :
    ∃ (s : State) (h : HeatRecord) (p : Profile) (lane : Lane) (wall : Wall)
      (start lead time n : Nat),
      s = faulty 6 (touching relay 6 .b 1200012 1 none []) ∧ h = relay ∧ p = pool ∧ lane = 6 ∧
      wall = .b ∧ start = 1000000 ∧ lead = 1200012 ∧ time = 200000 ∧ n = 1 ∧
      s.TouchDue h p lane wall start lead time ∧ n = (s.lanes[lane]).expected ∧
      wall = lengthWall h n ∧ lengthKind h n = .turn ∧ (s.lanes[lane]).window = none ∧
      (s.lanes[lane]).gateBase + h.inhibit * 100 ≤ time ∧
      legsApart h (s.scanner.state == .fault) (n + 1) (s.lanes[lane]).exchanges :=
  ⟨_, _, _, _, _, _, _, _, _, rfl, rfl, rfl, rfl, rfl, rfl, rfl, rfl, rfl,
    (by simp only [State.TouchDue]; decide), by decide, by decide, by decide, by decide, by decide,
    (by simp only [legsApart]; decide)⟩

theorem witness_qualified_touch_makes_a_turn_turn_settles :
    ∃ (s : State) (h : HeatRecord) (p : Profile) (lane : Lane) (wall : Wall)
      (start lead time n : Nat),
      s = touching relay 6 .b 1200012 3 none [⟨1, .pad, some 5, none, none, .pending⟩] ∧
      h = relay ∧ p = pool ∧ lane = 6 ∧ wall = .b ∧ start = 1000000 ∧ lead = 1200012 ∧
      time = 200000 ∧ n = 3 ∧ s.TouchDue h p lane wall start lead time ∧
      n = (s.lanes[lane]).expected ∧ wall = lengthWall h n ∧ lengthKind h n = .turn ∧
      (s.lanes[lane]).window = none ∧ (s.lanes[lane]).gateBase + h.inhibit * 100 ≤ time ∧
      legsApart h (s.scanner.state == .fault) (n + 1) (s.lanes[lane]).exchanges :=
  ⟨_, _, _, _, _, _, _, _, _, rfl, rfl, rfl, rfl, rfl, rfl, rfl, rfl, rfl,
    (by simp only [State.TouchDue]; decide), by decide, by decide, by decide, by decide, by decide,
    (by simp only [legsApart]; decide)⟩

theorem witness_qualified_touch_makes_a_turn_skip_to_turn :
    ∃ (s : State) (h : HeatRecord) (p : Profile) (lane : Lane) (wall : Wall)
      (start lead time n : Nat),
      s = touching { sprint with lengths := 4 } 4 .a 1400019 1 none [] ∧
      h = { sprint with lengths := 4 } ∧ p = pool ∧ lane = 4 ∧ wall = .a ∧ start = 1000000 ∧
      lead = 1400019 ∧ time = 400000 ∧ n = 1 ∧ s.TouchDue h p lane wall start lead time ∧
      n = (s.lanes[lane]).expected ∧ wall ≠ lengthWall h n ∧ n < h.lengths ∧
      lengthKind h n = .turn ∧ lengthKind h (n + 1) = .turn ∧
      (s.lanes[lane]).gateBase + 2 * (h.inhibit * 100) ≤ time ∧
      legsApart h (s.scanner.state == .fault) (n + 2) (s.lanes[lane]).exchanges :=
  ⟨_, _, _, _, _, _, _, _, _, rfl, rfl, rfl, rfl, rfl, rfl, rfl, rfl, rfl,
    (by simp only [State.TouchDue]; decide), by decide, by decide, by decide, by decide, by decide,
    by decide, (by simp only [legsApart]; decide)⟩

theorem witness_qualified_touch_makes_a_turn_skip_to_final :
    ∃ (s : State) (h : HeatRecord) (p : Profile) (lane : Lane) (wall : Wall)
      (start lead time n : Nat),
      s = touching sprint 4 .a 1400019 1 none [] ∧ h = sprint ∧ p = pool ∧ lane = 4 ∧ wall = .a ∧
      start = 1000000 ∧ lead = 1400019 ∧ time = 400000 ∧ n = 1 ∧
      s.TouchDue h p lane wall start lead time ∧ n = (s.lanes[lane]).expected ∧
      wall ≠ lengthWall h n ∧ n < h.lengths ∧ lengthKind h n = .turn ∧
      lengthKind h (n + 1) ≠ .turn ∧ (s.lanes[lane]).gateBase + 2 * (h.inhibit * 100) ≤ time ∧
      (lengthKind h (n + 1) = .legEnd → s.scanner.state = .fault →
        ∀ e ∈ (s.lanes[lane]).exchanges, e.leg ≠ lengthLeg h (n + 1)) :=
  ⟨_, _, _, _, _, _, _, _, _, rfl, rfl, rfl, rfl, rfl, rfl, rfl, rfl, rfl,
    (by simp only [State.TouchDue]; decide), by decide, by decide, by decide, by decide, by decide,
    by decide, by decide⟩

theorem witness_qualified_touch_makes_a_turn_skip_to_leg_end :
    ∃ (s : State) (h : HeatRecord) (p : Profile) (lane : Lane) (wall : Wall)
      (start lead time n : Nat),
      s = touching relay 6 .a 1400019 1 none [] ∧ h = relay ∧ p = pool ∧ lane = 6 ∧ wall = .a ∧
      start = 1000000 ∧ lead = 1400019 ∧ time = 400000 ∧ n = 1 ∧
      s.TouchDue h p lane wall start lead time ∧ n = (s.lanes[lane]).expected ∧
      wall ≠ lengthWall h n ∧ n < h.lengths ∧ lengthKind h n = .turn ∧
      lengthKind h (n + 1) ≠ .turn ∧ (s.lanes[lane]).gateBase + 2 * (h.inhibit * 100) ≤ time ∧
      (lengthKind h (n + 1) = .legEnd → s.scanner.state = .fault →
        ∀ e ∈ (s.lanes[lane]).exchanges, e.leg ≠ lengthLeg h (n + 1)) :=
  ⟨_, _, _, _, _, _, _, _, _, rfl, rfl, rfl, rfl, rfl, rfl, rfl, rfl, rfl,
    (by simp only [State.TouchDue]; decide), by decide, by decide, by decide, by decide, by decide,
    by decide, by decide⟩

theorem witness_qualified_touch_makes_a_turn_skip_without_sensors :
    ∃ (s : State) (h : HeatRecord) (p : Profile) (lane : Lane) (wall : Wall)
      (start lead time n : Nat),
      s = faulty 6 (touching relay 6 .a 1400019 1 none []) ∧ h = relay ∧ p = pool ∧ lane = 6 ∧
      wall = .a ∧ start = 1000000 ∧ lead = 1400019 ∧ time = 400000 ∧ n = 1 ∧
      s.TouchDue h p lane wall start lead time ∧ n = (s.lanes[lane]).expected ∧
      wall ≠ lengthWall h n ∧ n < h.lengths ∧ lengthKind h n = .turn ∧
      lengthKind h (n + 1) ≠ .turn ∧ (s.lanes[lane]).gateBase + 2 * (h.inhibit * 100) ≤ time ∧
      (lengthKind h (n + 1) = .legEnd → s.scanner.state = .fault →
        ∀ e ∈ (s.lanes[lane]).exchanges, e.leg ≠ lengthLeg h (n + 1)) :=
  ⟨_, _, _, _, _, _, _, _, _, rfl, rfl, rfl, rfl, rfl, rfl, rfl, rfl, rfl,
    (by simp only [State.TouchDue]; decide), by decide, by decide, by decide, by decide, by decide,
    by decide, by decide⟩

theorem witness_qualified_touch_makes_a_turn_skip_over_leg_end :
    ∃ (s : State) (h : HeatRecord) (p : Profile) (lane : Lane) (wall : Wall)
      (start lead time n : Nat) (before : List ExchangeRecord) (e unjudged : ExchangeRecord),
      s = touching relay 6 .b 1400012 2 none [⟨1, .opened, none, some 300000, none, .pending⟩] ∧
      h = relay ∧ p = pool ∧ lane = 6 ∧ wall = .b ∧ start = 1000000 ∧ lead = 1400012 ∧
      time = 400000 ∧ n = 2 ∧ before = [] ∧ e = ⟨1, .opened, none, some 300000, none, .pending⟩ ∧
      unjudged = ⟨1, .none, none, some 300000, none, .unjudged⟩ ∧
      s.TouchDue h p lane wall start lead time ∧ n = (s.lanes[lane]).expected ∧
      wall ≠ lengthWall h n ∧ n < h.lengths ∧ lengthKind h n = .legEnd ∧
      (s.lanes[lane]).gateBase + 2 * (h.inhibit * 100) ≤ time ∧ (s.lanes[lane]).window = none ∧
      (s.lanes[lane]).exchanges = before ++ [e] ∧
      (∀ x ∈ before, x.leg ≠ e.leg ∧ x.verdict ≠ .pending) ∧ e.leg = lengthLeg h n ∧
      e.departure.isSome = true ∧ e.verdict = .pending ∧ (s.lanes[lane]).departures ≠ 0 ∧
      (lengthKind h (n + 2) = .legEnd → s.scanner.state ≠ .fault) ∧
      unjudged = { e with legEnd := .none, incoming := none, verdict := .unjudged } :=
  ⟨_, _, _, _, _, _, _, _, _, _, _, _, rfl, rfl, rfl, rfl, rfl, rfl, rfl, rfl, rfl, rfl, rfl, rfl,
    (by simp only [State.TouchDue]; decide), by decide, by decide, by decide, by decide, by decide,
    by decide, by decide, by decide, by decide, by decide, by decide, by decide, by decide,
    by decide⟩

theorem witness_qualified_touch_makes_a_turn_early :
    ∃ (s : State) (h : HeatRecord) (p : Profile) (lane : Lane) (wall : Wall)
      (start lead time n : Nat),
      s = touching sprint 4 .a 1400018 1 none [] ∧ h = sprint ∧ p = pool ∧ lane = 4 ∧ wall = .a ∧
      start = 1000000 ∧ lead = 1400018 ∧ time = 399999 ∧ n = 1 ∧
      s.TouchDue h p lane wall start lead time ∧ n = (s.lanes[lane]).expected ∧
      wall ≠ lengthWall h n ∧
      (h.lengths ≤ n ∨ time < (s.lanes[lane]).gateBase + 2 * (h.inhibit * 100) ∨
        (lengthKind h n = .legEnd ∧ ((s.lanes[lane]).window ≠ none ∨
        ∀ e ∈ (s.lanes[lane]).exchanges, e.leg = lengthLeg h n → e.departure = none))) :=
  ⟨_, _, _, _, _, _, _, _, _, rfl, rfl, rfl, rfl, rfl, rfl, rfl, rfl, rfl,
    (by simp only [State.TouchDue]; decide), by decide, by decide, by decide⟩

theorem witness_qualified_touch_makes_a_turn_final :
    ∃ (s : State) (h : HeatRecord) (p : Profile) (lane : Lane) (wall : Wall)
      (start lead time n : Nat),
      s = touching sprint 4 .b 1600012 2 none [] ∧ h = sprint ∧ p = pool ∧ lane = 4 ∧ wall = .b ∧
      start = 1000000 ∧ lead = 1600012 ∧ time = 600000 ∧ n = 2 ∧
      s.TouchDue h p lane wall start lead time ∧ n = (s.lanes[lane]).expected ∧
      wall ≠ lengthWall h n ∧
      (h.lengths ≤ n ∨ time < (s.lanes[lane]).gateBase + 2 * (h.inhibit * 100) ∨
        (lengthKind h n = .legEnd ∧ ((s.lanes[lane]).window ≠ none ∨
        ∀ e ∈ (s.lanes[lane]).exchanges, e.leg = lengthLeg h n → e.departure = none))) :=
  ⟨_, _, _, _, _, _, _, _, _, rfl, rfl, rfl, rfl, rfl, rfl, rfl, rfl, rfl,
    (by simp only [State.TouchDue]; decide), by decide, by decide, by decide⟩

theorem witness_qualified_touch_makes_a_turn_no_departure :
    ∃ (s : State) (h : HeatRecord) (p : Profile) (lane : Lane) (wall : Wall)
      (start lead time n : Nat),
      s = touching relay 6 .b 1600012 2 none [⟨1, .opened, none, none, none, .pending⟩] ∧
      h = relay ∧ p = pool ∧ lane = 6 ∧ wall = .b ∧ start = 1000000 ∧ lead = 1600012 ∧
      time = 600000 ∧ n = 2 ∧ s.TouchDue h p lane wall start lead time ∧
      n = (s.lanes[lane]).expected ∧ wall ≠ lengthWall h n ∧
      (h.lengths ≤ n ∨ time < (s.lanes[lane]).gateBase + 2 * (h.inhibit * 100) ∨
        (lengthKind h n = .legEnd ∧ ((s.lanes[lane]).window ≠ none ∨
        ∀ e ∈ (s.lanes[lane]).exchanges, e.leg = lengthLeg h n → e.departure = none))) :=
  ⟨_, _, _, _, _, _, _, _, _, rfl, rfl, rfl, rfl, rfl, rfl, rfl, rfl, rfl,
    (by simp only [State.TouchDue]; decide), by decide, by decide, by decide⟩

theorem witness_qualified_touch_makes_a_turn_before_the_gate :
    ∃ (s : State) (h : HeatRecord) (p : Profile) (lane : Lane) (wall : Wall)
      (start lead time n : Nat),
      s = touching sprint 4 .b 1200011 1 none [] ∧ h = sprint ∧ p = pool ∧ lane = 4 ∧ wall = .b ∧
      start = 1000000 ∧ lead = 1200011 ∧ time = 199999 ∧ n = 1 ∧
      s.TouchDue h p lane wall start lead time ∧ n = (s.lanes[lane]).expected ∧
      wall = lengthWall h n ∧ (s.lanes[lane]).window = none ∧
      (lengthKind h n ≠ .turn ∨ time < (s.lanes[lane]).gateBase + h.inhibit * 100) :=
  ⟨_, _, _, _, _, _, _, _, _, rfl, rfl, rfl, rfl, rfl, rfl, rfl, rfl, rfl,
    (by simp only [State.TouchDue]; decide), by decide, by decide, by decide, by decide⟩

theorem witness_qualified_touch_makes_a_turn_opens :
    ∃ (s : State) (h : HeatRecord) (p : Profile) (lane : Lane) (wall : Wall)
      (start lead time n : Nat),
      s = touching sprint 4 .a 1200019 2 none [] ∧ h = sprint ∧ p = pool ∧ lane = 4 ∧ wall = .a ∧
      start = 1000000 ∧ lead = 1200019 ∧ time = 200000 ∧ n = 2 ∧
      s.TouchDue h p lane wall start lead time ∧ n = (s.lanes[lane]).expected ∧
      wall = lengthWall h n ∧ (s.lanes[lane]).window = none ∧
      (lengthKind h n ≠ .turn ∨ time < (s.lanes[lane]).gateBase + h.inhibit * 100) :=
  ⟨_, _, _, _, _, _, _, _, _, rfl, rfl, rfl, rfl, rfl, rfl, rfl, rfl, rfl,
    (by simp only [State.TouchDue]; decide), by decide, by decide, by decide, by decide⟩

theorem witness_qualified_touch_makes_a_turn_opens_absent :
    ∃ (s : State) (h : HeatRecord) (p : Profile) (lane : Lane) (wall : Wall)
      (start lead time n : Nat),
      s = absent 4 (touching sprint 4 .a 1200019 2 none []) ∧ h = sprint ∧ p = pool ∧ lane = 4 ∧
      wall = .a ∧ start = 1000000 ∧ lead = 1200019 ∧ time = 200000 ∧ n = 2 ∧
      s.TouchDue h p lane wall start lead time ∧ n = (s.lanes[lane]).expected ∧
      wall = lengthWall h n ∧ (s.lanes[lane]).window = none ∧
      (lengthKind h n ≠ .turn ∨ time < (s.lanes[lane]).gateBase + h.inhibit * 100) :=
  ⟨_, _, _, _, _, _, _, _, _, rfl, rfl, rfl, rfl, rfl, rfl, rfl, rfl, rfl,
    (by simp only [State.TouchDue]; decide), by decide, by decide, by decide, by decide⟩

theorem witness_qualified_touch_makes_a_turn_collected :
    ∃ (s : State) (h : HeatRecord) (p : Profile) (lane : Lane) (wall : Wall)
      (start lead time n : Nat) (w : FinishWindow),
      s = touching sprint 4 .a 1451137 2 (some softWindow) [] ∧ h = sprint ∧ p = pool ∧ lane = 4 ∧
      wall = .a ∧ start = 1000000 ∧ lead = 1451137 ∧ time = 451118 ∧ n = 2 ∧ w = softWindow ∧
      s.TouchDue h p lane wall start lead time ∧ n = (s.lanes[lane]).expected ∧
      wall = lengthWall h n ∧ (s.lanes[lane]).window = some w :=
  ⟨_, _, _, _, _, _, _, _, _, _, rfl, rfl, rfl, rfl, rfl, rfl, rfl, rfl, rfl, rfl,
    (by simp only [State.TouchDue]; decide), by decide, by decide, by decide⟩

theorem witness_qualified_touch_makes_a_turn_at_the_close :
    ∃ (s : State) (h : HeatRecord) (p : Profile) (lane : Lane) (wall : Wall)
      (start lead time n : Nat) (w : FinishWindow),
      s = touching sprint 4 .a 1543431 2 (some softWindow) [] ∧ h = sprint ∧ p = pool ∧ lane = 4 ∧
      wall = .a ∧ start = 1000000 ∧ lead = 1543431 ∧ time = 543412 ∧ n = 2 ∧ w = softWindow ∧
      s.TouchDue h p lane wall start lead time ∧ n = (s.lanes[lane]).expected ∧
      wall = lengthWall h n ∧ (s.lanes[lane]).window = some w :=
  ⟨_, _, _, _, _, _, _, _, _, _, rfl, rfl, rfl, rfl, rfl, rfl, rfl, rfl, rfl, rfl,
    (by simp only [State.TouchDue]; decide), by decide, by decide, by decide⟩

theorem witness_qualified_touch_makes_a_turn_not_racing :
    ∃ (s : State) (p : Profile) (lane : Lane) (wall : Wall) (lead : Nat),
      s = closedLane 4 (captured (.qualifying 1200019)) ∧ p = pool ∧ lane = 4 ∧ wall = .a ∧
      lead = 1200019 ∧ s.isRunning = true ∧ s.heat.startMark.isSome = true ∧
      s.store.inForce = some p ∧ (s.wall.pads[padIx lane wall]).capture = .qualifying lead ∧
      s.quietUntil (lead + p.qualify) = true ∧ (s.lanes[lane]).status ≠ .racing :=
  ⟨_, _, _, _, _, rfl, rfl, rfl, rfl, rfl, by decide⟩

theorem witness_press_opens_the_window_opens :
    ∃ (s : State) (h : HeatRecord) (lane : Lane) (button : Button) (start stamp : Nat),
      s = lastLength ∧ h = sprint ∧ lane = 4 ∧ button = 0 ∧ start = 1000000 ∧ stamp = 1451118 ∧
      s.PressDue h lane button start stamp ∧ (s.lanes[lane]).window = none ∧
      lengthKind h (s.lanes[lane]).expected ≠ .turn ∧
      (s.lanes[lane]).gateBase + h.inhibit * 100 ≤ stamp - start :=
  ⟨_, _, _, _, _, _, rfl, rfl, rfl, rfl, rfl, rfl,
    (by simp only [State.PressDue]; decide), by decide, by decide, by decide⟩

theorem witness_press_opens_the_window_opens_absent :
    ∃ (s : State) (h : HeatRecord) (lane : Lane) (button : Button) (start stamp : Nat),
      s = absent 4 lastLength ∧ h = sprint ∧ lane = 4 ∧ button = 0 ∧ start = 1000000 ∧
      stamp = 1451118 ∧ s.PressDue h lane button start stamp ∧ (s.lanes[lane]).window = none ∧
      lengthKind h (s.lanes[lane]).expected ≠ .turn ∧
      (s.lanes[lane]).gateBase + h.inhibit * 100 ≤ stamp - start :=
  ⟨_, _, _, _, _, _, rfl, rfl, rfl, rfl, rfl, rfl,
    (by simp only [State.PressDue]; decide), by decide, by decide, by decide⟩

theorem witness_press_opens_the_window_collected :
    ∃ (s : State) (h : HeatRecord) (lane : Lane) (button : Button) (start stamp : Nat)
      (w : FinishWindow),
      s = softFinish ∧ h = sprint ∧ lane = 4 ∧ button = 2 ∧ start = 1000000 ∧ stamp = 1543411 ∧
      w = softWindow ∧ s.PressDue h lane button start stamp ∧ (s.lanes[lane]).window = some w :=
  ⟨_, _, _, _, _, _, _, rfl, rfl, rfl, rfl, rfl, rfl, rfl,
    (by simp only [State.PressDue]; decide), by decide⟩

theorem witness_press_opens_the_window_held_already :
    ∃ (s : State) (h : HeatRecord) (lane : Lane) (button : Button) (start stamp : Nat)
      (w : FinishWindow),
      s = softFinish ∧ h = sprint ∧ lane = 4 ∧ button = 0 ∧ start = 1000000 ∧ stamp = 1543411 ∧
      w = softWindow ∧ s.PressDue h lane button start stamp ∧ (s.lanes[lane]).window = some w :=
  ⟨_, _, _, _, _, _, _, rfl, rfl, rfl, rfl, rfl, rfl, rfl,
    (by simp only [State.PressDue]; decide), by decide⟩

theorem witness_press_opens_the_window_at_the_close :
    ∃ (s : State) (h : HeatRecord) (lane : Lane) (button : Button) (start stamp : Nat)
      (w : FinishWindow),
      s = softFinish ∧ h = sprint ∧ lane = 4 ∧ button = 2 ∧ start = 1000000 ∧ stamp = 1543412 ∧
      w = softWindow ∧ s.PressDue h lane button start stamp ∧ (s.lanes[lane]).window = some w :=
  ⟨_, _, _, _, _, _, _, rfl, rfl, rfl, rfl, rfl, rfl, rfl,
    (by simp only [State.PressDue]; decide), by decide⟩

theorem witness_press_opens_the_window_on_a_turn :
    ∃ (s : State) (h : HeatRecord) (lane : Lane) (button : Button) (start stamp : Nat),
      s = closing 9 1200012 ∧ h = sprint ∧ lane = 4 ∧ button = 0 ∧ start = 1000000 ∧
      stamp = 1300000 ∧ s.PressDue h lane button start stamp ∧ (s.lanes[lane]).window = none ∧
      (lengthKind h (s.lanes[lane]).expected = .turn ∨
        stamp - start < (s.lanes[lane]).gateBase + h.inhibit * 100) :=
  ⟨_, _, _, _, _, _, rfl, rfl, rfl, rfl, rfl, rfl,
    (by simp only [State.PressDue]; decide), by decide, by decide⟩

theorem witness_press_opens_the_window_before_the_gate :
    ∃ (s : State) (h : HeatRecord) (lane : Lane) (button : Button) (start stamp : Nat),
      s = lastLength ∧ h = sprint ∧ lane = 4 ∧ button = 1 ∧ start = 1000000 ∧ stamp = 1451117 ∧
      s.PressDue h lane button start stamp ∧ (s.lanes[lane]).window = none ∧
      (lengthKind h (s.lanes[lane]).expected = .turn ∨
        stamp - start < (s.lanes[lane]).gateBase + h.inhibit * 100) :=
  ⟨_, _, _, _, _, _, rfl, rfl, rfl, rfl, rfl, rfl,
    (by simp only [State.PressDue]; decide), by decide, by decide⟩

theorem witness_press_opens_the_window_not_racing :
    ∃ (s : State) (lane : Lane) (button : Button) (start stamp : Nat),
      s = closedLane 4 lastLength ∧ lane = 4 ∧ button = 0 ∧ start = 1000000 ∧ stamp = 1451118 ∧
      s.isRunning = true ∧ s.heat.startMark = some start ∧
      (s.wall.buttons[buttonIx lane button]).level = .opened ∧ s.wall.armed = true ∧
      start ≤ stamp ∧ stamp ≤ Config.masterLimit ∧ s.quietUntil stamp = true ∧
      ((s.wall.buttons[buttonIx lane button]).lockout.all fun e => decide (e ≤ stamp)) = true ∧
      (s.lanes[lane]).status ≠ .racing ∧ s.link.fresh = 0 ∧ s.link.line = none :=
  ⟨_, _, _, _, _, rfl, rfl, rfl, rfl, rfl, by decide⟩

theorem witness_press_opens_the_window_opening :
    ∃ (s : State) (lane : Lane) (button : Button) (level : Level) (stamp : Nat),
      s = buttonHeld ∧ lane = 4 ∧ button = 0 ∧ level = .opened ∧ stamp = 1000005 ∧
      s.isRunning = true ∧ (s.wall.buttons[buttonIx lane button]).level ≠ level ∧
      stamp ≤ Config.masterLimit ∧ s.quietUntil stamp = true ∧
      (level = .opened ∨ s.wall.armed = false ∨ stamp < s.heat.startMark.getD 0 ∨
        ((s.wall.buttons[buttonIx lane button]).lockout.any fun e => decide (stamp < e)) = true) :=
  ⟨_, _, _, _, _, rfl, rfl, rfl, rfl, rfl, by decide⟩

theorem witness_press_opens_the_window_unarmed :
    ∃ (s : State) (lane : Lane) (button : Button) (level : Level) (stamp : Nat),
      s = ready ∧ lane = 4 ∧ button = 0 ∧ level = .closed ∧ stamp = 1000005 ∧ s.isRunning = true ∧
      (s.wall.buttons[buttonIx lane button]).level ≠ level ∧ stamp ≤ Config.masterLimit ∧
      s.quietUntil stamp = true ∧
      (level = .opened ∨ s.wall.armed = false ∨ stamp < s.heat.startMark.getD 0 ∨
        ((s.wall.buttons[buttonIx lane button]).lockout.any fun e => decide (stamp < e)) = true) :=
  ⟨_, _, _, _, _, rfl, rfl, rfl, rfl, rfl, by decide⟩

theorem witness_press_opens_the_window_before_the_start :
    ∃ (s : State) (lane : Lane) (button : Button) (level : Level) (stamp : Nat),
      s = racing sprint 5 ∧ lane = 4 ∧ button = 0 ∧ level = .closed ∧ stamp = 999999 ∧
      s.isRunning = true ∧ (s.wall.buttons[buttonIx lane button]).level ≠ level ∧
      stamp ≤ Config.masterLimit ∧ s.quietUntil stamp = true ∧
      (level = .opened ∨ s.wall.armed = false ∨ stamp < s.heat.startMark.getD 0 ∨
        ((s.wall.buttons[buttonIx lane button]).lockout.any fun e => decide (stamp < e)) = true) :=
  ⟨_, _, _, _, _, rfl, rfl, rfl, rfl, rfl, by decide⟩

theorem witness_press_opens_the_window_locked_out :
    ∃ (s : State) (lane : Lane) (button : Button) (level : Level) (stamp : Nat),
      s = lastLength ∧ lane = 4 ∧ button = 0 ∧ level = .closed ∧ stamp = 1451117 ∧
      s.isRunning = true ∧ (s.wall.buttons[buttonIx lane button]).level ≠ level ∧
      stamp ≤ Config.masterLimit ∧ s.quietUntil stamp = true ∧
      (level = .opened ∨ s.wall.armed = false ∨ stamp < s.heat.startMark.getD 0 ∨
        ((s.wall.buttons[buttonIx lane button]).lockout.any fun e => decide (stamp < e)) = true) :=
  ⟨_, _, _, _, _, rfl, rfl, rfl, rfl, rfl, by decide⟩

theorem witness_leveling_takes_the_next_pad_last_wait :
    ∃ (s : State) (p : Profile) (pad : PadIx) (began : Nat),
      s = lastPad (.waiting 1000000) ∧ p = pool ∧ pad = 19 ∧ began = 1000000 ∧ s.isRunning = true ∧
      s.store.inForce = some p ∧ s.wall.level = .measuring pad (.waiting began) [] ∧
      s.quietUntil (began + 5000) = true ∧
      ((after .levelWaitExpiry s).wall.results.map (·.1)).Nodup :=
  ⟨_, _, _, _, rfl, rfl, rfl, rfl, by decide⟩

theorem witness_leveling_takes_the_next_pad_last_drive :
    ∃ (s : State) (p : Profile) (pad : PadIx) (start : Nat) (answer : Option Nat),
      s = lastPad (.driving 1000000 none) ∧ p = pool ∧ pad = 19 ∧ start = 1000000 ∧ answer = none ∧
      s.isRunning = true ∧ s.store.inForce = some p ∧
      s.wall.level = .measuring pad (.driving start answer) [] ∧
      s.quietUntil (start + 101) = true ∧ ((after .levelDriveEnd s).wall.results.map (·.1)).Nodup :=
  ⟨_, _, _, _, _, rfl, rfl, rfl, rfl, rfl, by decide⟩

theorem witness_final_window_finishes_the_lane_others_race :
    ∃ (s : State) (h : HeatRecord) (lane other : Lane) (w : FinishWindow) (start official : Nat),
      s = softFinish ∧ h = sprint ∧ lane = 4 ∧ other = 3 ∧ w = softWindow ∧ start = 1000000 ∧
      official = 523550 ∧ s.isRunning = true ∧ s.heat.race = .running ∧ s.heat.current = some h ∧
      s.heat.startMark = some start ∧ (s.lanes[lane]).window = some w ∧
      (s.lanes[lane]).expected = h.lengths ∧ s.quietUntil (start + w.closesAt) = true ∧
      (s.deriveWindow h lane w).official = some official ∧ other ≠ lane ∧ h.enters other = true ∧
      (s.lanes[other]).status = .racing ∧ (s.lanes[lane]).place = none :=
  ⟨_, _, _, _, _, _, _, rfl, rfl, rfl, rfl, rfl, rfl, rfl, by decide⟩

theorem witness_final_window_finishes_the_lane_last_lane :
    ∃ (s : State) (h : HeatRecord) (lane : Lane) (w : FinishWindow) (start official : Nat),
      s = lastLane ∧ h = sprint ∧ lane = 4 ∧ w = softWindow ∧ start = 1000000 ∧ official = 523550 ∧
      s.isRunning = true ∧ s.heat.race = .running ∧ s.heat.current = some h ∧
      s.heat.startMark = some start ∧ h.enters lane = true ∧ (s.lanes[lane]).window = some w ∧
      (s.lanes[lane]).expected = h.lengths ∧ s.quietUntil (start + w.closesAt) = true ∧
      (s.deriveWindow h lane w).official = some official ∧
      ((s.lanes[lane]).exchanges.map (·.leg)).Nodup ∧ (s.lanes[lane]).exchanges.length ≤ 3 ∧
      (∀ l : Lane, l ≠ lane → s.laneDone l) ∧ (s.lanes[lane]).place = none ∧ s.link.fresh = 0 :=
  ⟨_, _, _, _, _, _, rfl, rfl, rfl, rfl, rfl, rfl,
    by decide, by decide, by decide, by decide, by decide, by decide, by decide, by decide,
    by decide, by decide, by decide, (by simp only [State.laneDone]; decide), by decide, by decide⟩

theorem witness_final_window_finishes_the_lane_last_relay_lane :
    ∃ (s : State) (h : HeatRecord) (lane : Lane) (w : FinishWindow) (start official : Nat),
      s = lastTeam ∧ h = relay ∧ lane = 6 ∧ w = legWindow ∧ start = 1000000 ∧ official = 578921 ∧
      s.isRunning = true ∧ s.heat.race = .running ∧ s.heat.current = some h ∧
      s.heat.startMark = some start ∧ h.enters lane = true ∧ (s.lanes[lane]).window = some w ∧
      (s.lanes[lane]).expected = h.lengths ∧ s.quietUntil (start + w.closesAt) = true ∧
      (s.deriveWindow h lane w).official = some official ∧
      ((s.lanes[lane]).exchanges.map (·.leg)).Nodup ∧ (s.lanes[lane]).exchanges.length ≤ 3 ∧
      (∀ l : Lane, l ≠ lane → s.laneDone l) :=
  ⟨_, _, _, _, _, _, rfl, rfl, rfl, rfl, rfl, rfl,
    by decide, by decide, by decide, by decide, by decide, by decide, by decide, by decide,
    by decide, by decide, by decide, (by simp only [State.laneDone]; decide)⟩

theorem witness_leg_end_close_judges_the_exchange_clean :
    ∃ (s : State) (h : HeatRecord) (lane : Lane) (w : FinishWindow) (touch : PadTouch)
      (before : List ExchangeRecord) (e judged : ExchangeRecord) (d : Int) (start : Nat),
      s = atLegEnd legWindow [] ⟨1, .opened, none, some 578621, none, .pending⟩ ∧ h = relay ∧
      lane = 6 ∧ w = legWindow ∧ touch = ⟨578921, 578930, 9⟩ ∧ before = [] ∧
      e = ⟨1, .opened, none, some 578621, none, .pending⟩ ∧
      judged = ⟨1, .pad, some 578921, some 578621, some (-300), .clean⟩ ∧ d = 578621 ∧
      start = 1000000 ∧ s.LegEndDue h lane w before e start ∧ w.pad = some touch ∧
      (s.deriveWindow h lane w).source = .pad ∧ e.departure = some d ∧
      judged = { e with
        legEnd := .pad, incoming := some touch.time, margin := some (d - touch.time),
        verdict := verdictOf h (d - touch.time) } :=
  ⟨_, _, _, _, _, _, _, _, _, _, rfl, rfl, rfl, rfl, rfl, rfl, rfl, rfl, rfl, rfl,
    (by simp only [State.LegEndDue]; decide), by decide, by decide, by decide, by decide⟩

theorem witness_leg_end_close_judges_the_exchange_early :
    ∃ (s : State) (h : HeatRecord) (lane : Lane) (w : FinishWindow) (touch : PadTouch)
      (before : List ExchangeRecord) (e judged : ExchangeRecord) (d : Int) (start : Nat),
      s = atLegEnd legWindow [] ⟨1, .opened, none, some 578620, none, .pending⟩ ∧ h = relay ∧
      lane = 6 ∧ w = legWindow ∧ touch = ⟨578921, 578930, 9⟩ ∧ before = [] ∧
      e = ⟨1, .opened, none, some 578620, none, .pending⟩ ∧
      judged = ⟨1, .pad, some 578921, some 578620, some (-301), .early⟩ ∧ d = 578620 ∧
      start = 1000000 ∧ s.LegEndDue h lane w before e start ∧ w.pad = some touch ∧
      (s.deriveWindow h lane w).source = .pad ∧ e.departure = some d ∧
      judged = { e with
        legEnd := .pad, incoming := some touch.time, margin := some (d - touch.time),
        verdict := verdictOf h (d - touch.time) } :=
  ⟨_, _, _, _, _, _, _, _, _, _, rfl, rfl, rfl, rfl, rfl, rfl, rfl, rfl, rfl, rfl,
    (by simp only [State.LegEndDue]; decide), by decide, by decide, by decide, by decide⟩

theorem witness_leg_end_close_judges_the_exchange_late :
    ∃ (s : State) (h : HeatRecord) (lane : Lane) (w : FinishWindow) (touch : PadTouch)
      (before : List ExchangeRecord) (e judged : ExchangeRecord) (d : Int) (start : Nat),
      s = atLegEnd legWindow [] ⟨1, .opened, none, some 588922, none, .pending⟩ ∧ h = relay ∧
      lane = 6 ∧ w = legWindow ∧ touch = ⟨578921, 578930, 9⟩ ∧ before = [] ∧
      e = ⟨1, .opened, none, some 588922, none, .pending⟩ ∧
      judged = ⟨1, .pad, some 578921, some 588922, some (10001), .late⟩ ∧ d = 588922 ∧
      start = 1000000 ∧ s.LegEndDue h lane w before e start ∧ w.pad = some touch ∧
      (s.deriveWindow h lane w).source = .pad ∧ e.departure = some d ∧
      judged = { e with
        legEnd := .pad, incoming := some touch.time, margin := some (d - touch.time),
        verdict := verdictOf h (d - touch.time) } :=
  ⟨_, _, _, _, _, _, _, _, _, _, rfl, rfl, rfl, rfl, rfl, rfl, rfl, rfl, rfl, rfl,
    (by simp only [State.LegEndDue]; decide), by decide, by decide, by decide, by decide⟩

theorem witness_leg_end_close_judges_the_exchange_leg_2 :
    ∃ (s : State) (h : HeatRecord) (lane : Lane) (w : FinishWindow) (touch : PadTouch)
      (before : List ExchangeRecord) (e judged : ExchangeRecord) (d : Int) (start : Nat),
      s = atLegEnd legWindow [⟨1, .pad, some 268400, some 268500, some 100, .clean⟩] ⟨2, .opened,
        none, some 578621, none, .pending⟩ ∧
      h = relay ∧ lane = 6 ∧ w = legWindow ∧ touch = ⟨578921, 578930, 9⟩ ∧
      before = [⟨1, .pad, some 268400, some 268500, some 100, .clean⟩] ∧
      e = ⟨2, .opened, none, some 578621, none, .pending⟩ ∧
      judged = ⟨2, .pad, some 578921, some 578621, some (-300), .clean⟩ ∧ d = 578621 ∧
      start = 1000000 ∧ s.LegEndDue h lane w before e start ∧ w.pad = some touch ∧
      (s.deriveWindow h lane w).source = .pad ∧ e.departure = some d ∧
      judged = { e with
        legEnd := .pad, incoming := some touch.time, margin := some (d - touch.time),
        verdict := verdictOf h (d - touch.time) } :=
  ⟨_, _, _, _, _, _, _, _, _, _, rfl, rfl, rfl, rfl, rfl, rfl, rfl, rfl, rfl, rfl,
    (by simp only [State.LegEndDue]; decide), by decide, by decide, by decide, by decide⟩

theorem witness_leg_end_close_judges_the_exchange_backup :
    ∃ (s : State) (h : HeatRecord) (lane : Lane) (w : FinishWindow)
      (before : List ExchangeRecord) (e judged : ExchangeRecord) (start official : Nat),
      s = atLegEnd buttonsOnly [] ⟨3, .opened, none, some 578621, none, .pending⟩ ∧ h = relay ∧
      lane = 6 ∧ w = buttonsOnly ∧ before = [] ∧
      e = ⟨3, .opened, none, some 578621, none, .pending⟩ ∧
      judged = ⟨3, .backup, none, some 578621, none, .unjudged⟩ ∧ start = 1000000 ∧
      official = 579180 ∧ s.LegEndDue h lane w before e start ∧
      (s.deriveWindow h lane w).source = .backup ∧
      (s.deriveWindow h lane w).official = some official ∧ e.departure.isSome = true ∧
      judged = { e with legEnd := .backup, incoming := none, verdict := .unjudged } :=
  ⟨_, _, _, _, _, _, _, _, _, rfl, rfl, rfl, rfl, rfl, rfl, rfl, rfl, rfl,
    (by simp only [State.LegEndDue]; decide), by decide, by decide, by decide, by decide⟩

theorem witness_leg_end_close_judges_the_exchange_no_departure_pad :
    ∃ (s : State) (h : HeatRecord) (lane : Lane) (w : FinishWindow)
      (before : List ExchangeRecord) (e : ExchangeRecord) (start official : Nat),
      s = atLegEnd legWindow [] ⟨2, .opened, none, none, none, .pending⟩ ∧ h = relay ∧ lane = 6 ∧
      w = legWindow ∧ before = [] ∧ e = ⟨2, .opened, none, none, none, .pending⟩ ∧
      start = 1000000 ∧ official = 578921 ∧ s.LegEndDue h lane w before e start ∧
      (s.deriveWindow h lane w).official = some official ∧ e.departure = none :=
  ⟨_, _, _, _, _, _, _, _, rfl, rfl, rfl, rfl, rfl, rfl, rfl, rfl,
    (by simp only [State.LegEndDue]; decide), by decide, by decide⟩

theorem witness_leg_end_close_judges_the_exchange_no_departure_backup :
    ∃ (s : State) (h : HeatRecord) (lane : Lane) (w : FinishWindow)
      (before : List ExchangeRecord) (e : ExchangeRecord) (start official : Nat),
      s = atLegEnd buttonsOnly [] ⟨2, .opened, none, none, none, .pending⟩ ∧ h = relay ∧ lane = 6 ∧
      w = buttonsOnly ∧ before = [] ∧ e = ⟨2, .opened, none, none, none, .pending⟩ ∧
      start = 1000000 ∧ official = 579180 ∧ s.LegEndDue h lane w before e start ∧
      (s.deriveWindow h lane w).official = some official ∧ e.departure = none :=
  ⟨_, _, _, _, _, _, _, _, rfl, rfl, rfl, rfl, rfl, rfl, rfl, rfl,
    (by simp only [State.LegEndDue]; decide), by decide, by decide⟩

theorem witness_leg_end_close_judges_the_exchange_late_departure_pad :
    ∃ (s : State) (h : HeatRecord) (p : Profile) (lane : Lane) (reading : Reading)
      (m first k start time : Nat) (before : List ExchangeRecord) (e judged : ExchangeRecord) (d : Int),
      s = takingOver 1 ⟨1, .pad, some 578921, none, none, .pending⟩ ∧ h = relay ∧ p = pool ∧
      lane = 6 ∧ reading = 399 ∧ m = 0 ∧ first = 999001 ∧ k = 116048 ∧ start = 1000000 ∧
      time = 1579244 ∧ before = [] ∧ e = ⟨1, .pad, some 578921, none, none, .pending⟩ ∧
      judged = ⟨1, .pad, some 578921, some 579237, some 316, .clean⟩ ∧ d = 579237 ∧
      s.DepartureDue h p lane reading m first k start ∧ s.TakeoverDue h lane before e ∧
      (s.lanes[lane]).leg = e.leg + 1 ∧ e.legEnd ≠ .opened ∧ time = first + lane.val / 2 + 5 * k ∧
      d = (time : Int) - p.platformLatency - start ∧ judged = takenOver h e d :=
  ⟨_, _, _, _, _, _, _, _, _, _, _, _, _, _, rfl, rfl, rfl, rfl, rfl, rfl, rfl, rfl, rfl, rfl,
    rfl, rfl, rfl, rfl,
    (by simp only [State.DepartureDue, State.ReadingFalls]; decide),
    (by simp only [State.TakeoverDue]; decide), by decide, by decide, by decide, by decide,
    by decide⟩

theorem witness_leg_end_close_judges_the_exchange_late_departure_backup :
    ∃ (s : State) (h : HeatRecord) (p : Profile) (lane : Lane) (reading : Reading)
      (m first k start time : Nat) (before : List ExchangeRecord) (e judged : ExchangeRecord) (d : Int),
      s = takingOver 1 ⟨3, .backup, none, none, none, .pending⟩ ∧ h = relay ∧ p = pool ∧ lane = 6 ∧
      reading = 399 ∧ m = 0 ∧ first = 999001 ∧ k = 116048 ∧ start = 1000000 ∧ time = 1579244 ∧
      before = [] ∧ e = ⟨3, .backup, none, none, none, .pending⟩ ∧
      judged = ⟨3, .backup, none, some 579237, none, .unjudged⟩ ∧ d = 579237 ∧
      s.DepartureDue h p lane reading m first k start ∧ s.TakeoverDue h lane before e ∧
      (s.lanes[lane]).leg = e.leg + 1 ∧ e.legEnd ≠ .opened ∧ time = first + lane.val / 2 + 5 * k ∧
      d = (time : Int) - p.platformLatency - start ∧ judged = takenOver h e d :=
  ⟨_, _, _, _, _, _, _, _, _, _, _, _, _, _, rfl, rfl, rfl, rfl, rfl, rfl, rfl, rfl, rfl, rfl,
    rfl, rfl, rfl, rfl,
    (by simp only [State.DepartureDue, State.ReadingFalls]; decide),
    (by simp only [State.TakeoverDue]; decide), by decide, by decide, by decide, by decide,
    by decide⟩

theorem witness_leg_end_close_judges_the_exchange_departure_first :
    ∃ (s : State) (h : HeatRecord) (p : Profile) (lane : Lane) (reading : Reading)
      (m first k start time : Nat) (before : List ExchangeRecord) (e : ExchangeRecord) (d : Int),
      s = takingOver 0 ⟨2, .opened, none, none, none, .pending⟩ ∧ h = relay ∧ p = pool ∧ lane = 6 ∧
      reading = 399 ∧ m = 0 ∧ first = 999001 ∧ k = 116048 ∧ start = 1000000 ∧ time = 1579244 ∧
      before = [] ∧ e = ⟨2, .opened, none, none, none, .pending⟩ ∧ d = 579237 ∧
      s.DepartureDue h p lane reading m first k start ∧ s.TakeoverDue h lane before e ∧
      lengthKind h (s.lanes[lane]).expected = .legEnd ∧
      lengthLeg h (s.lanes[lane]).expected = e.leg ∧ e.legEnd = .opened ∧
      time = first + lane.val / 2 + 5 * k ∧ d = (time : Int) - p.platformLatency - start :=
  ⟨_, _, _, _, _, _, _, _, _, _, _, _, _, rfl, rfl, rfl, rfl, rfl, rfl, rfl, rfl, rfl, rfl, rfl,
    rfl, rfl,
    (by simp only [State.DepartureDue, State.ReadingFalls]; decide),
    (by simp only [State.TakeoverDue]; decide), by decide, by decide, by decide, by decide,
    by decide⟩

theorem witness_departure_gives_the_reaction :
    ∃ (s : State) (h : HeatRecord) (p : Profile) (lane : Lane) (reading : Reading)
      (m first k start time : Nat) (ticks : Int),
      s = scanning 4 (racing sprint 0) 999001 ⟨some .loaded, some (700, 999998), some .loaded⟩ ∧
      h = sprint ∧ p = pool ∧ lane = 4 ∧ reading = 399 ∧ m = 0 ∧ first = 999001 ∧ k = 200 ∧
      start = 1000000 ∧ time = 1000003 ∧ ticks = -4 ∧
      s.DepartureDue h p lane reading m first k start ∧ (s.lanes[lane]).departures = 0 ∧
      time = first + lane.val / 2 + 5 * k ∧ ticks = (time : Int) - p.platformLatency - start :=
  ⟨_, _, _, _, _, _, _, _, _, _, _, rfl, rfl, rfl, rfl, rfl, rfl, rfl, rfl, rfl, rfl, rfl,
    (by simp only [State.DepartureDue, State.ReadingFalls]; decide), by decide, by decide,
    by decide⟩

theorem witness_departure_gives_the_reaction_before_the_start :
    ∃ (s : State) (h : HeatRecord) (p : Profile) (lane : Lane) (reading : Reading)
      (m first k time : Nat),
      s = scanning 4 marked 1000001 ⟨some .loaded, some (700, 1000003), none⟩ ∧ h = sprint ∧
      p = pool ∧ lane = 4 ∧ reading = 399 ∧ m = 0 ∧ first = 1000001 ∧ k = 1 ∧ time = 1000008 ∧
      s.ReadingFalls h p lane reading m first k ∧ s.heat.race = .armed ∧
      (s.lanes[lane]).status = .entered ∧ (s.lanes[lane]).departures = 0 ∧
      h.startType = .platform ∧ s.heat.setMark.isSome = true ∧
        time = first + lane.val / 2 + 5 * k :=
  ⟨_, _, _, _, _, _, _, _, _, rfl, rfl, rfl, rfl, rfl, rfl, rfl, rfl, rfl,
    (by simp only [State.ReadingFalls]; decide), by decide, by decide, by decide, by decide,
    by decide, by decide⟩

theorem witness_departure_gives_the_reaction_before_the_mark :
    ∃ (s : State) (h : HeatRecord) (p : Profile) (lane : Lane) (reading : Reading)
      (m first k time : Nat),
      s = scanning 4 (armed sprint) 1000001 ⟨some .loaded, some (700, 1000003), none⟩ ∧
      h = sprint ∧ p = pool ∧ lane = 4 ∧ reading = 399 ∧ m = 0 ∧ first = 1000001 ∧ k = 1 ∧
      time = 1000008 ∧ s.ReadingFalls h p lane reading m first k ∧
      ¬(s.heat.race = .armed ∧ (s.lanes[lane]).status = .entered ∧
        (s.lanes[lane]).departures = 0 ∧ h.startType = .platform ∧ s.heat.setMark.isSome = true) ∧
      (¬(s.heat.race = .running ∧ (s.lanes[lane]).status = .racing ∧
        ((s.lanes[lane]).departures = 0 ∨ s.inTakeoverSpan h lane))) ∧
      time = first + lane.val / 2 + 5 * k :=
  ⟨_, _, _, _, _, _, _, _, _, rfl, rfl, rfl, rfl, rfl, rfl, rfl, rfl, rfl,
    (by simp only [State.ReadingFalls]; decide), by decide,
    (by simp only [State.inTakeoverSpan]; decide), by decide⟩

theorem witness_departure_gives_the_reaction_outside_the_span :
    ∃ (s : State) (h : HeatRecord) (p : Profile) (lane : Lane) (reading : Reading)
      (m first k time : Nat),
      s = onFirstLength ∧ h = relay ∧ p = pool ∧ lane = 6 ∧ reading = 399 ∧ m = 0 ∧
      first = 999001 ∧ k = 116048 ∧ time = 1579244 ∧ s.ReadingFalls h p lane reading m first k ∧
      ¬(s.heat.race = .armed ∧ (s.lanes[lane]).status = .entered ∧
        (s.lanes[lane]).departures = 0 ∧ h.startType = .platform ∧ s.heat.setMark.isSome = true) ∧
      (¬(s.heat.race = .running ∧ (s.lanes[lane]).status = .racing ∧
        ((s.lanes[lane]).departures = 0 ∨ s.inTakeoverSpan h lane))) ∧
      time = first + lane.val / 2 + 5 * k ∧ (s.lanes[(6 : Lane)]).departures = 1 :=
  ⟨_, _, _, _, _, _, _, _, _, rfl, rfl, rfl, rfl, rfl, rfl, rfl, rfl, rfl,
    (by simp only [State.ReadingFalls]; decide), by decide,
    (by simp only [State.inTakeoverSpan]; decide), by decide, by decide⟩

theorem witness_departure_gives_the_reaction_second :
    ∃ (s : State) (h : HeatRecord) (p : Profile) (lane : Lane) (reading : Reading)
      (m first k time : Nat),
      s = scanning 4 lastLength 1000001 ⟨some .loaded, some (700, 1251503), none⟩ ∧ h = sprint ∧
      p = pool ∧ lane = 4 ∧ reading = 399 ∧ m = 0 ∧ first = 1000001 ∧ k = 50301 ∧ time = 1251508 ∧
      s.ReadingFalls h p lane reading m first k ∧
      ¬(s.heat.race = .armed ∧ (s.lanes[lane]).status = .entered ∧
        (s.lanes[lane]).departures = 0 ∧ h.startType = .platform ∧ s.heat.setMark.isSome = true) ∧
      (¬(s.heat.race = .running ∧ (s.lanes[lane]).status = .racing ∧
        ((s.lanes[lane]).departures = 0 ∨ s.inTakeoverSpan h lane))) ∧
      time = first + lane.val / 2 + 5 * k :=
  ⟨_, _, _, _, _, _, _, _, _, rfl, rfl, rfl, rfl, rfl, rfl, rfl, rfl, rfl,
    (by simp only [State.ReadingFalls]; decide), by decide,
    (by simp only [State.inTakeoverSpan]; decide), by decide⟩

theorem witness_request_frame_is_the_request_waits :
    ∃ (s : State) (kind : RequestKind) (m : Nat),
      s = waiting [] ∧ kind = .arm ∧ m = 0 ∧ s.isRunning = true ∧ s.quietUntil m = true ∧
      s.link.line ≠ none ∧ (s.link.executionWaits = true ∨ s.link.restarting = true) ∧
      s.link.buffer.length < 4 :=
  ⟨_, _, _, rfl, rfl, rfl, by decide, by decide, by decide, (Or.inl (by decide)), by decide⟩

theorem witness_request_frame_is_the_request_full :
    ∃ (s : State) (kind : RequestKind) (m : Nat),
      s = waiting (List.replicate 4 ⟨.status, 1, []⟩) ∧ kind = .arm ∧ m = 0 ∧ s.isRunning = true ∧
      s.quietUntil m = true ∧ s.link.line ≠ none ∧
      (s.link.executionWaits = true ∨ s.link.restarting = true) ∧ 4 ≤ s.link.buffer.length :=
  ⟨_, _, _, rfl, rfl, rfl, by decide, by decide, by decide, (Or.inl (by decide)), by decide⟩

theorem witness_request_frame_is_the_request_seventh :
    ∃ (s : State) (kind : RequestKind) (m : Nat),
      s = flooded ∧ kind = .arm ∧ m = 0 ∧ s.isRunning = true ∧ s.quietUntil m = true ∧
      s.link.line ≠ none ∧ (s.link.executionWaits = true ∨ s.link.restarting = true) ∧
      4 ≤ s.link.buffer.length ∧ (s.link.replies.filter fun r => r.cls == .immediate).length = 6 :=
  ⟨_, _, _, rfl, rfl, rfl,
    by decide, by decide, by decide, (Or.inl (by decide)), by decide, by decide⟩

theorem witness_request_frame_is_the_request_bytes :
    ∃ (s : State) (kind : RequestKind) (tag : Byte) (payload : List Byte) (b : Byte) (m : Nat),
      s = receiving (consoleFrame 0x0E 7 []).dropLast ∧ kind = .status ∧ tag = 7 ∧ payload = [] ∧
      b = (consoleFrame 0x0E 7 []).getLastD 0 ∧ m = 0 ∧ s.isRunning = true ∧
      s.link.held ++ [b] = consoleFrame kind.code tag payload ∧ payload.length ≤ 512 ∧
      max s.clock m < s.link.lastByte + 1000 :=
  ⟨_, _, _, _, _, _, rfl, rfl, rfl, rfl, rfl, rfl, by decide +kernel⟩

theorem witness_request_frame_is_the_request_unknown :
    ∃ (s : State) (code tag : Byte) (payload : List Byte) (m : Nat),
      s = waiting [] ∧ code = 0x1C ∧ tag = 7 ∧ payload = [] ∧ m = 0 ∧ s.isRunning = true ∧
      s.quietUntil m = true ∧ s.link.held = [] ∧ payload.length ≤ 512 ∧
      (∀ kind : RequestKind, kind.code ≠ code) ∧ s.link.line ≠ none ∧
      (s.link.buffer = [] ∨ s.link.executionWaits = true ∨ s.link.restarting = true) :=
  ⟨_, _, _, _, _, rfl, rfl, rfl, rfl, rfl,
    by decide, by decide, by decide, by decide, (fun kind => by cases kind <;> decide), by decide,
    (Or.inl rfl)⟩

theorem witness_line_free_begins_the_next_frame_execution :
    ∃ (s u : State) (f : TxFrame) (m : Nat) (r : Reply) (replies : List Reply) (q : Request)
      (buffer : List Request),
      s = waiting [⟨.status, 9, []⟩] ∧ u = begun ∧
      f = ⟨.reply ⟨.immediate, none, 7, .accepted .empty⟩, 1000000⟩ ∧ m = 1000100 ∧
      r = ⟨.execution, some .arm, 6, .refused .wrongState⟩ ∧ replies = [] ∧ q = ⟨.status, 9, []⟩ ∧
      buffer = [] ∧ s.isRunning = true ∧ s.link.line = some f ∧ s.link.sendsRestart = false ∧
      s.link.restarting = false ∧ s.link.replies = r :: replies ∧ r.cls = .execution ∧
      (∀ x ∈ replies, x.cls ≠ .execution) ∧ s.link.buffer = q :: buffer ∧
      s.quietUntil (max m (f.began + consoleTicks (messageFrame f.message).length)) = true ∧
      u = { s with
        clock := max s.clock (max m (f.began + consoleTicks (messageFrame f.message).length)),
        link := { s.link with
          replies := replies, line := some ⟨.reply r, u.clock⟩, buffer := buffer } } ∧
      (buffer = [] ∨ (u.handle q).answer.isSome = true) :=
  ⟨_, _, _, _, _, _, _, _, rfl, rfl, rfl, rfl, rfl, rfl, rfl, rfl,
    by decide, by decide, by decide, by decide, by decide, by decide, by decide, by decide,
    by decide, rfl, (Or.inl rfl)⟩

theorem witness_withdraw_takes_from_the_queue_current :
    ∃ (s : State) (m : Nat) (tag e1 e0 n : Byte) (h : HeatRecord),
      s = queued [relay] ∧ m = 0 ∧ tag = 7 ∧ e1 = 0 ∧ e0 = 1 ∧ n = 3 ∧
      h = { sprint with event := 1 } ∧ s.isRunning = true ∧ s.linkReady ∧ s.quietUntil m = true ∧
      s.heat.race = .loaded ∧ s.heat.current = some h ∧ h.event = e1.toNat * 256 + e0.toNat ∧
      h.heat = n.toNat ∧ (∀ q ∈ s.heat.queue, ¬(q.event = h.event ∧ q.heat = h.heat)) ∧
      s.board.mode.isSome = true ∧ s.configured = true ∧ s.board.test = false ∧
        s.board.owed = none :=
  ⟨_, _, _, _, _, _, _, rfl, rfl, rfl, rfl, rfl, rfl, rfl,
    by decide, ⟨rfl, rfl, rfl⟩, by decide, by decide, by decide, by decide, by decide, by decide,
    by decide, by decide, by decide, by decide⟩

theorem witness_withdraw_takes_from_the_queue_last_heat :
    ∃ (s : State) (m : Nat) (tag e1 e0 n : Byte) (h : HeatRecord),
      s = queued [] ∧ m = 0 ∧ tag = 7 ∧ e1 = 0 ∧ e0 = 1 ∧ n = 3 ∧ h = { sprint with event := 1 } ∧
      s.isRunning = true ∧ s.linkReady ∧ s.quietUntil m = true ∧ s.heat.race = .loaded ∧
      s.heat.current = some h ∧ h.event = e1.toNat * 256 + e0.toNat ∧ h.heat = n.toNat ∧
      (∀ q ∈ s.heat.queue, ¬(q.event = h.event ∧ q.heat = h.heat)) :=
  ⟨_, _, _, _, _, _, _, rfl, rfl, rfl, rfl, rfl, rfl, rfl,
    by decide, ⟨rfl, rfl, rfl⟩, by decide, by decide, by decide, by decide, by decide, by decide⟩

theorem witness_withdraw_takes_from_the_queue_wrong_state :
    ∃ (s : State) (m : Nat) (tag e1 e0 n : Byte),
      s = armed sprint ∧ m = 0 ∧ tag = 7 ∧ e1 = 0 ∧ e0 = 12 ∧ n = 3 ∧ s.isRunning = true ∧
      s.linkReady ∧ s.quietUntil m = true ∧
      (s.heat.race ≠ .loaded ∨
        (s.heat.current.all fun h => !(h.event == e1.toNat * 256 + e0.toNat && h.heat == n.toNat)) = true) ∧
      (∀ q ∈ s.heat.queue, ¬(q.event = e1.toNat * 256 + e0.toNat ∧ q.heat = n.toNat)) :=
  ⟨_, _, _, _, _, _, rfl, rfl, rfl, rfl, rfl, rfl,
    by decide, ⟨rfl, rfl, rfl⟩, by decide, (Or.inl (by decide)), by decide⟩

theorem witness_withdraw_takes_from_the_queue_not_found :
    ∃ (s : State) (m : Nat) (tag e1 e0 n : Byte),
      s = queued [] ∧ m = 0 ∧ tag = 7 ∧ e1 = 0 ∧ e0 = 2 ∧ n = 3 ∧ s.isRunning = true ∧
      s.linkReady ∧ s.quietUntil m = true ∧
      (s.heat.race ≠ .loaded ∨
        (s.heat.current.all fun h => !(h.event == e1.toNat * 256 + e0.toNat && h.heat == n.toNat)) = true) ∧
      (∀ q ∈ s.heat.queue, ¬(q.event = e1.toNat * 256 + e0.toNat ∧ q.heat = n.toNat)) :=
  ⟨_, _, _, _, _, _, rfl, rfl, rfl, rfl, rfl, rfl,
    by decide, ⟨rfl, rfl, rfl⟩, by decide, (Or.inr (by decide)), by decide⟩

theorem witness_close_lane_discards_the_window_last_lane :
    ∃ (s : State) (h : HeatRecord) (m : Nat) (tag b : Byte) (lane : Lane),
      s = lastLane ∧ h = sprint ∧ m = 0 ∧ tag = 7 ∧ b = 4 ∧ lane = 4 ∧ s.isRunning = true ∧
      s.linkReady ∧ s.quietUntil m = true ∧ s.heat.race = .running ∧ s.heat.current = some h ∧
      b.toNat = lane.val ∧ (s.lanes[lane]).status = .racing ∧
      legsApart h false 0 (s.lanes[lane]).exchanges ∧ (∀ l : Lane, l ≠ lane → s.laneDone l) :=
  ⟨_, _, _, _, _, _, rfl, rfl, rfl, rfl, rfl, rfl,
    by decide, ⟨rfl, rfl, rfl⟩, by decide, by decide, by decide, by decide, by decide,
    (by simp only [legsApart]; decide), (by simp only [State.laneDone]; decide)⟩

theorem witness_next_heat_moves_on_idle :
    ∃ (s : State) (m : Nat) (tag : Byte),
      s = judged .official ∧ m = 0 ∧ tag = 7 ∧ s.isRunning = true ∧ s.linkReady ∧
      s.quietUntil m = true ∧ s.heat.race = .official ∧ s.heat.queue = [] ∧
      s.board.mode.isSome = true ∧ s.configured = true ∧ s.board.test = false ∧
        s.board.owed = none :=
  ⟨_, _, _, rfl, rfl, rfl,
    by decide, ⟨rfl, rfl, rfl⟩, by decide, by decide, by decide, by decide, by decide, by decide,
    by decide⟩

theorem witness_next_heat_moves_on_promoted :
    ∃ (s : State) (m : Nat) (tag : Byte),
      s = { judged .official with heat := { (judged .official).heat with queue := [relay] } } ∧
      m = 0 ∧ tag = 7 ∧ s.isRunning = true ∧ s.linkReady ∧ s.quietUntil m = true ∧
      s.heat.race = .official :=
  ⟨_, _, _, rfl, rfl, rfl, by decide, ⟨rfl, rfl, rfl⟩, by decide, by decide⟩

theorem witness_amendments_in_judging_judging :
    ∃ (s : State) (kind : AmendKind) (m : Nat) (tag b : Byte) (lane : Lane) (time : BitVec 24),
      s = judged .judging ∧ kind = .setTime ∧ m = 0 ∧ tag = 7 ∧ b = 4 ∧ lane = 4 ∧ time = 359999 ∧
      s.isRunning = true ∧ s.linkReady ∧ s.quietUntil m = true ∧ b.toNat = lane.val ∧
      (s.lanes[lane]).status ≠ .idle ∧ (kind = .setTime → time.toNat ≤ 359999) ∧
      (s.heat.race = .judging ∨ (s.heat.race = .official ∧ s.placing.locked = false)) ∧
      (∀ l : Lane, (s.lanes[l]).place = placeIn s.placing.order l) :=
  ⟨_, _, _, _, _, _, _, rfl, rfl, rfl, rfl, rfl, rfl, rfl,
    by decide, ⟨rfl, rfl, rfl⟩, by decide, by decide, by decide, by decide, (Or.inl (by decide)),
    by decide⟩

theorem witness_amendments_in_judging_official :
    ∃ (s : State) (kind : AmendKind) (m : Nat) (tag b : Byte) (lane : Lane) (time : BitVec 24),
      s = linkedResult ∧ kind = .reinstate ∧ m = 0 ∧ tag = 7 ∧ b = 4 ∧ lane = 4 ∧ time = 359999 ∧
      s.isRunning = true ∧ s.linkReady ∧ s.quietUntil m = true ∧ b.toNat = lane.val ∧
      (s.lanes[lane]).status ≠ .idle ∧ (kind = .setTime → time.toNat ≤ 359999) ∧
      (s.heat.race = .judging ∨ (s.heat.race = .official ∧ s.placing.locked = false)) ∧
      s.placing.archive = [] ++ [⟨12, 3, 2, false, .clear, []⟩] ∧ s.placing.linked = true :=
  ⟨_, _, _, _, _, _, _, rfl, rfl, rfl, rfl, rfl, rfl, rfl,
    by decide, ⟨rfl, rfl, rfl⟩, by decide, by decide, by decide, by decide, (Or.inr (by decide)),
    by decide, by decide⟩

theorem witness_amendments_in_judging_locked :
    ∃ (s : State) (kind : AmendKind) (m : Nat) (tag b : Byte) (time : BitVec 24),
      s = { linkedResult with placing := { linkedResult.placing with locked := true } } ∧
      kind = .dq ∧ m = 0 ∧ tag = 7 ∧ b = 9 ∧ time = 0 ∧ s.isRunning = true ∧ s.linkReady ∧
      s.quietUntil m = true ∧ b.toNat ≤ 9 ∧ (kind = .setTime → time.toNat ≤ 359999) ∧
      s.heat.race = .official ∧ s.placing.locked = true :=
  ⟨_, _, _, _, _, _, rfl, rfl, rfl, rfl, rfl, rfl,
    by decide, ⟨rfl, rfl, rfl⟩, by decide, by decide, by decide, by decide, by decide⟩

theorem witness_limit_and_request_end_the_heat_lanes :
    ∃ (s : State) (h : HeatRecord) (start : Nat),
      s = { softFinish with clock := 36999000 } ∧ h = sprint ∧ start = 1000000 ∧
      s.isRunning = true ∧ s.heat.race = .running ∧ s.heat.current = some h ∧
      s.heat.startMark = some start ∧ start + 36000000 < Config.masterLimit ∧
      s.clock ≤ start + 36000000 ∧ (s.watches = true → start + 36000000 ≤ s.clock + 1) ∧
      (∀ lane : Lane, legsApart h false 0 (s.lanes[lane]).exchanges) ∧ s.watches = false ∧
      s.link.fresh = 0 :=
  ⟨_, _, _, rfl, rfl, rfl,
    by decide, by decide, by decide, by decide, by decide, by decide, by decide,
    (by simp only [legsApart]; decide), by decide, by decide⟩

theorem witness_limit_and_request_end_the_heat_finishes :
    ∃ (s : State) (h : HeatRecord) (m : Nat) (tag : Byte),
      s = softFinish ∧ h = sprint ∧ m = 0 ∧ tag = 7 ∧ s.isRunning = true ∧ s.linkReady ∧
      s.quietUntil m = true ∧ s.heat.race = .running ∧ s.heat.current = some h ∧
      (∀ lane : Lane, legsApart h false 0 (s.lanes[lane]).exchanges) ∧
      (∀ l : Lane, (s.lanes[l]).place = placeIn s.placing.order l) ∧ s.link.fresh = 0 ∧
      (s.lanes[(4 : Lane)]).place = none ∧ (s.lanes[(4 : Lane)]).window = some softWindow ∧
      (s.lanes[(4 : Lane)]).expected = h.lengths ∧
      (s.deriveWindow h 4 softWindow).official = some 523550 ∧ h.enters 3 = true ∧
      (s.lanes[(3 : Lane)]).status = .racing ∧ (s.lanes[(3 : Lane)]).window = none ∧
      h.enters 5 = false :=
  ⟨_, _, _, _, rfl, rfl, rfl, rfl,
    by decide, ⟨rfl, rfl, rfl⟩, by decide, by decide, by decide,
    (by simp only [legsApart]; decide), by decide, by decide, by decide, by decide, by decide,
    by decide, by decide, by decide, by decide, by decide⟩

theorem witness_limit_and_request_end_the_heat_leg_end :
    ∃ (s : State) (h : HeatRecord) (m : Nat) (tag : Byte),
      s = atLegEnd legWindow [] ⟨1, .opened, none, some 578621, none, .pending⟩ ∧ h = relay ∧
      m = 0 ∧ tag = 7 ∧ s.isRunning = true ∧ s.linkReady ∧ s.quietUntil m = true ∧
      s.heat.race = .running ∧ s.heat.current = some h ∧
      (∀ lane : Lane, legsApart h false 0 (s.lanes[lane]).exchanges) ∧
      (s.lanes[(6 : Lane)]).window = some legWindow ∧
      lengthKind h (s.lanes[(6 : Lane)]).expected = .legEnd ∧
      (s.deriveWindow h 6 legWindow).official = some 578921 ∧
      (s.lanes[(6 : Lane)]).exchanges = [] ++ [⟨1, .opened, none, some 578621, none, .pending⟩] :=
  ⟨_, _, _, _, rfl, rfl, rfl, rfl,
    by decide, ⟨rfl, rfl, rfl⟩, by decide, by decide, by decide,
    (by simp only [legsApart]; decide), by decide, by decide, by decide, by decide⟩

theorem witness_limit_and_request_end_the_heat_leg_end_pending :
    ∃ (s : State) (h : HeatRecord) (m : Nat) (tag : Byte),
      s = atLegEnd legWindow [] ⟨2, .opened, none, none, none, .pending⟩ ∧ h = relay ∧ m = 0 ∧
      tag = 7 ∧ s.isRunning = true ∧ s.linkReady ∧ s.quietUntil m = true ∧ s.heat.race = .running ∧
      s.heat.current = some h ∧ (∀ lane : Lane, legsApart h false 0 (s.lanes[lane]).exchanges) ∧
      (s.lanes[(6 : Lane)]).window = some legWindow ∧
      lengthKind h (s.lanes[(6 : Lane)]).expected = .legEnd ∧
      (s.deriveWindow h 6 legWindow).official = some 578921 ∧
      (s.lanes[(6 : Lane)]).exchanges = [] ++ [⟨2, .opened, none, none, none, .pending⟩] :=
  ⟨_, _, _, _, rfl, rfl, rfl, rfl,
    by decide, ⟨rfl, rfl, rfl⟩, by decide, by decide, by decide,
    (by simp only [legsApart]; decide), by decide, by decide, by decide, by decide⟩

theorem witness_limit_and_request_end_the_heat_holdover_returns :
    ∃ (s : State) (h : HeatRecord) (m : Nat) (tag : Byte),
      s = { racing sprint 5 with timebase := (counting .holdover .external 20000).timebase } ∧
      h = sprint ∧ m = 0 ∧ tag = 7 ∧ s.isRunning = true ∧ s.linkReady ∧ s.quietUntil m = true ∧
      s.heat.race = .running ∧ s.heat.current = some h ∧ s.timebase.state = .holdover ∧
      s.timebase.goodCount = 20000 :=
  ⟨_, _, _, _, rfl, rfl, rfl, rfl,
    by decide, ⟨rfl, rfl, rfl⟩, by decide, by decide, by decide, by decide, by decide⟩

theorem witness_start_signals_not_taken_opening :
    ∃ (s : State) (stamp : Nat),
      s = { racing sprint 5 with heat := { (racing sprint 5).heat with startLine := .closed } } ∧
      stamp = 1000005 ∧ s.isRunning = true ∧ s.heat.startLine = .closed ∧
      stamp ≤ Config.masterLimit ∧ s.quietUntil stamp = true :=
  ⟨_, _, rfl, rfl, by decide⟩

theorem witness_recall_returns_to_armed_line_late :
    ∃ (s : State) (level : Level) (stamp : Nat),
      s = racing sprint 99999 ∧ level = .closed ∧ stamp = 1100000 ∧ s.isRunning = true ∧
      s.heat.recallLine ≠ level ∧ stamp ≤ Config.masterLimit ∧ s.quietUntil stamp = true ∧
      (level = .opened ∨ s.heat.race ≠ .running ∨ ∃ p start, s.store.inForce = some p ∧
        s.heat.startMark = some start ∧ (p.recallWindow = 0 ∨
        start + p.recallWindow * 100 ≤ stamp)) :=
  ⟨_, _, _, rfl, rfl, rfl,
    by decide, by decide, by decide, by decide,
    (Or.inr (Or.inr ⟨pool, 1000000, rfl, rfl, Or.inr (by decide)⟩))⟩

theorem witness_recall_returns_to_armed_line_window_0 :
    ∃ (s : State) (level : Level) (stamp : Nat),
      s = neverRecalled ∧ level = .closed ∧ stamp = 1000005 ∧ s.isRunning = true ∧
      s.heat.recallLine ≠ level ∧ stamp ≤ Config.masterLimit ∧ s.quietUntil stamp = true ∧
      (level = .opened ∨ s.heat.race ≠ .running ∨ ∃ p start, s.store.inForce = some p ∧
        s.heat.startMark = some start ∧ (p.recallWindow = 0 ∨
        start + p.recallWindow * 100 ≤ stamp)) :=
  ⟨_, _, _, rfl, rfl, rfl,
    by decide, by decide, by decide, by decide,
    (Or.inr (Or.inr ⟨{ pool with recallWindow := 0 }, 1000000, rfl, rfl, Or.inl rfl⟩))⟩

theorem witness_recall_returns_to_armed_line_not_running :
    ∃ (s : State) (level : Level) (stamp : Nat),
      s = armed sprint ∧ level = .closed ∧ stamp = 1000005 ∧ s.isRunning = true ∧
      s.heat.recallLine ≠ level ∧ stamp ≤ Config.masterLimit ∧ s.quietUntil stamp = true ∧
      (level = .opened ∨ s.heat.race ≠ .running ∨ ∃ p start, s.store.inForce = some p ∧
        s.heat.startMark = some start ∧ (p.recallWindow = 0 ∨
        start + p.recallWindow * 100 ≤ stamp)) :=
  ⟨_, _, _, rfl, rfl, rfl,
    by decide, by decide, by decide, by decide, (Or.inr (Or.inl (by decide)))⟩

theorem witness_recall_returns_to_armed_opening :
    ∃ (s : State) (level : Level) (stamp : Nat),
      s = { ready with heat := { ready.heat with recallLine := .closed } } ∧ level = .opened ∧
      stamp = 1000005 ∧ s.isRunning = true ∧ s.heat.recallLine ≠ level ∧
      stamp ≤ Config.masterLimit ∧ s.quietUntil stamp = true ∧
      (level = .opened ∨ s.heat.race ≠ .running ∨ ∃ p start, s.store.inForce = some p ∧
        s.heat.startMark = some start ∧ (p.recallWindow = 0 ∨
        start + p.recallWindow * 100 ≤ stamp)) :=
  ⟨_, _, _, rfl, rfl, rfl, by decide, by decide, by decide, by decide, (Or.inl rfl)⟩

theorem witness_recall_returns_to_armed_request_late :
    ∃ (s : State) (m : Nat) (tag : Byte),
      s = racing sprint 100000 ∧ m = 0 ∧ tag = 7 ∧ s.isRunning = true ∧ s.linkReady ∧
      s.quietUntil m = true ∧
      (s.heat.race ≠ .running ∨ ∃ p start, s.store.inForce = some p ∧
        s.heat.startMark = some start ∧ (p.recallWindow = 0 ∨
        start + p.recallWindow * 100 ≤ (s.advance m).masterTime)) :=
  ⟨_, _, _, rfl, rfl, rfl,
    by decide, ⟨rfl, rfl, rfl⟩, by decide, (Or.inr ⟨pool, 1000000, rfl, rfl, Or.inr (by decide)⟩)⟩

theorem witness_recall_returns_to_armed_request_not_running :
    ∃ (s : State) (m : Nat) (tag : Byte),
      s = armed sprint ∧ m = 0 ∧ tag = 7 ∧ s.isRunning = true ∧ s.linkReady ∧
      s.quietUntil m = true ∧
      (s.heat.race ≠ .running ∨ ∃ p start, s.store.inForce = some p ∧
        s.heat.startMark = some start ∧ (p.recallWindow = 0 ∨
        start + p.recallWindow * 100 ≤ (s.advance m).masterTime)) :=
  ⟨_, _, _, rfl, rfl, rfl, by decide, ⟨rfl, rfl, rfl⟩, by decide, (Or.inl (by decide))⟩

theorem witness_tenth_boundary_moves_the_clock_routed :
    ∃ (s : State) (row : RowIx),
      s = ready ∧ row = 0 ∧ s.store.inForce = some pool ∧ (pool.routing[row]).2 = true :=
  ⟨_, _, rfl, rfl, by decide⟩

theorem witness_tenth_boundary_moves_the_clock_disabled :
    ∃ (s : State) (row : RowIx),
      s = ready ∧ row = 11 ∧ s.store.inForce = some pool ∧ (pool.routing[row]).2 = false :=
  ⟨_, _, rfl, rfl, by decide⟩

theorem witness_tenth_boundary_moves_the_clock_unconfigured :
    ∃ (s : State),
      s = State.reset ∧ s.store.inForce = none :=
  ⟨_, rfl, by decide⟩

theorem witness_tenth_boundary_moves_the_clock_judging :
    ∃ (s : State) (lead : Lane × Nat),
      s = judged .judging ∧ lead = (3, 5228) ∧ lead ∈ s.placing.order.head? ∧ lead.2 < 600000 ∧
      s.heat.race = .judging :=
  ⟨_, _, rfl, rfl, by decide⟩

theorem witness_tenth_boundary_moves_the_clock_holding :
    ∃ (s : State) (lead : Lane × Nat),
      s = { judged .running with board := holding.board } ∧ lead = (3, 5228) ∧
      lead ∈ s.placing.order.head? ∧ lead.2 < 600000 ∧ s.heat.race = .running ∧
      s.board.hold = .holding 1050000 :=
  ⟨_, _, rfl, rfl, by decide⟩

theorem witness_tenth_boundary_moves_the_clock_counting :
    ∃ (s : State) (start : Nat) (lead : Lane × Nat),
      s = judged .running ∧ start = 1000000 ∧ lead = (3, 5228) ∧ lead ∈ s.placing.order.head? ∧
      lead.2 < 600000 ∧ s.heat.race = .running ∧ s.board.hold = .none ∧
      s.heat.startMark = some start ∧ s.masterTime < start + 60000000 :=
  ⟨_, _, _, rfl, rfl, rfl, by decide⟩

theorem witness_tenth_boundary_moves_the_clock_frozen :
    ∃ (s : State) (ended : Nat),
      s = overtimed ∧ ended = 360000 ∧ s.placing.order = [] ∧ ended < 600000 ∧
      s.heat.race = .judging ∧ s.board.frozen = some ended :=
  ⟨_, _, rfl, rfl, by decide⟩

theorem witness_tenth_boundary_moves_the_clock_counting_unplaced :
    ∃ (s : State) (start : Nat),
      s = racing sprint 59999999 ∧ start = 1000000 ∧ s.placing.order = [] ∧
      s.heat.race = .running ∧ s.heat.startMark = some start ∧ s.masterTime < start + 60000000 :=
  ⟨_, _, rfl, rfl, by decide⟩

theorem witness_tenth_boundary_moves_the_clock_armed :
    ∃ (s : State),
      s = armed sprint ∧ (s.heat.race = .idle ∨ s.heat.race = .loaded ∨ s.heat.race = .armed) :=
  ⟨_, rfl, by decide⟩

theorem witness_slot_sends_the_cursor_row_no_heat :
    ∃ (s : State) (lane : Lane),
      s = ready ∧ lane = 4 ∧ (s.heat.current.all fun h => !h.enters lane) = true :=
  ⟨_, _, rfl, rfl, by decide⟩

theorem witness_slot_sends_the_cursor_row_not_entered :
    ∃ (s : State) (lane : Lane),
      s = racing sprint 5 ∧ lane = 5 ∧ (s.heat.current.all fun h => !h.enters lane) = true :=
  ⟨_, _, rfl, rfl, by decide⟩

theorem witness_slot_sends_the_cursor_row_disqualified :
    ∃ (s : State) (h : HeatRecord) (lane : Lane),
      s = disqualifiedThird ∧ h = sprint ∧ lane = 3 ∧ s.heat.current = some h ∧
      h.enters lane = true ∧ (s.lanes[lane]).disqualified = true ∧
      ((s.lanes[lane]).status = .finished ∨ (s.lanes[lane]).status = .closed) :=
  ⟨_, _, _, rfl, rfl, rfl, by decide⟩

theorem witness_slot_sends_the_cursor_row_closed :
    ∃ (s : State) (h : HeatRecord) (lane : Lane),
      s = lastLane ∧ h = sprint ∧ lane = 3 ∧ s.heat.current = some h ∧ h.enters lane = true ∧
      (s.lanes[lane]).disqualified = false ∧ (s.lanes[lane]).status = .closed :=
  ⟨_, _, _, rfl, rfl, rfl, by decide⟩

theorem witness_slot_sends_the_cursor_row_finished :
    ∃ (s : State) (h : HeatRecord) (lane : Lane),
      s = judged .official ∧ h = sprint ∧ lane = 4 ∧ s.heat.current = some h ∧
      h.enters lane = true ∧ (s.lanes[lane]).disqualified = false ∧
      (s.lanes[lane]).status = .finished ∧ (s.lanes[lane]).finalTime = some 523300 ∧
      ((s.lanes[lane]).place.all fun n => decide (n ≤ 10)) = true :=
  ⟨_, _, _, rfl, rfl, rfl, by decide⟩

theorem witness_slot_sends_the_cursor_row_turned :
    ∃ (s : State) (h : HeatRecord) (lane : Lane) (before after : List LengthRecord)
      (x : LengthRecord),
      s = lengthsOf [turnRecord 1 .b 251118] ∧ h = sprint ∧ lane = 4 ∧ before = [] ∧ after = [] ∧
      x = turnRecord 1 .b 251118 ∧ s.heat.current = some h ∧ h.enters lane = true ∧
      (s.lanes[lane]).status = .racing ∧ (s.lanes[lane]).lengths = before ++ x :: after ∧
      (∀ y ∈ after, y.outcome ≠ .touched ∧ y.outcome ≠ .timed) ∧ x.number < 100 ∧
      x.outcome = .touched ∧ x.padTime = some 251118 :=
  ⟨_, _, _, _, _, _, rfl, rfl, rfl, rfl, rfl, rfl, by decide⟩

theorem witness_slot_sends_the_cursor_row_missed :
    ∃ (s : State) (h : HeatRecord) (lane : Lane) (before after : List LengthRecord)
      (x : LengthRecord),
      s = lengthsOf [turnRecord 1 .b 251118, passedRecord 2 .a .turn .missed] ∧ h = sprint ∧
      lane = 4 ∧ before = [] ∧ after = [passedRecord 2 .a .turn .missed] ∧
      x = turnRecord 1 .b 251118 ∧ s.heat.current = some h ∧ h.enters lane = true ∧
      (s.lanes[lane]).status = .racing ∧ (s.lanes[lane]).lengths = before ++ x :: after ∧
      (∀ y ∈ after, y.outcome ≠ .touched ∧ y.outcome ≠ .timed) ∧ x.number < 100 ∧
      x.outcome = .touched ∧ x.padTime = some 251118 :=
  ⟨_, _, _, _, _, _, rfl, rfl, rfl, rfl, rfl, rfl, by decide⟩

theorem witness_slot_sends_the_cursor_row_no_split :
    ∃ (s : State) (h : HeatRecord) (lane : Lane),
      s = racing sprint 5 ∧ h = sprint ∧ lane = 4 ∧ s.heat.current = some h ∧
      h.enters lane = true ∧
      ((s.lanes[lane]).status = .idle ∨ (s.lanes[lane]).status = .entered ∨
        ((s.lanes[lane]).status = .racing ∧ ∀ y ∈ (s.lanes[lane]).lengths,
        y.outcome ≠ .touched ∧ y.outcome ≠ .timed)) :=
  ⟨_, _, _, rfl, rfl, rfl, by decide⟩

theorem witness_slot_sends_the_cursor_row_loaded :
    ∃ (s : State) (h : HeatRecord) (lane : Lane),
      s = loaded sprint ∧ h = sprint ∧ lane = 4 ∧ s.heat.current = some h ∧ h.enters lane = true ∧
      ((s.lanes[lane]).status = .idle ∨ (s.lanes[lane]).status = .entered ∨
        ((s.lanes[lane]).status = .racing ∧ ∀ y ∈ (s.lanes[lane]).lengths,
        y.outcome ≠ .touched ∧ y.outcome ≠ .timed)) :=
  ⟨_, _, _, rfl, rfl, rfl, by decide⟩

theorem witness_periodic_pass_sends_every_row_banner :
    ∃ (s : State) (text : Text),
      s = loaded sprint ∧ text = [0x31, 0x30, 0x30, 0x6D] ∧
      text = s.board.override.getD ((s.heat.current.map effectiveBanner).getD []) :=
  ⟨_, _, rfl, rfl, by decide⟩

theorem witness_periodic_pass_sends_every_row_by_lane :
    ∃ (s : State) (h : HeatRecord) (k : Fin 10),
      s = loaded sprint ∧ h = sprint ∧ k = 2 ∧ s.heat.current = some h ∧
      (s.shownOrder h)[k.val]? = some (7 : Lane) :=
  ⟨_, _, _, rfl, rfl, rfl, by decide⟩

theorem witness_periodic_pass_sends_every_row_by_place :
    ∃ (s : State) (h : HeatRecord) (k : Fin 10),
      s = (judged .judging).setOrder [(4, 5233)] ∧ h = sprint ∧ k = 1 ∧ s.heat.current = some h ∧
      (s.shownOrder h)[k.val]? = some (3 : Lane) :=
  ⟨_, _, _, rfl, rfl, rfl, by decide⟩

theorem witness_periodic_pass_sends_every_row_behind_the_last :
    ∃ (s : State) (h : HeatRecord) (k : Fin 10),
      s = loaded sprint ∧ h = sprint ∧ k = 3 ∧ s.heat.current = some h ∧
      (s.shownOrder h).length ≤ k.val :=
  ⟨_, _, _, rfl, rfl, rfl, by decide⟩

theorem witness_periodic_pass_sends_every_row_no_heat :
    ∃ (s : State) (k : Fin 10),
      s = ready ∧ k = 0 ∧ s.heat.current = none :=
  ⟨_, _, rfl, rfl, by decide⟩

theorem witness_periodic_pass_sends_every_row_own_banner :
    ∃ (h : HeatRecord),
      h = { sprint with banner := [0x46] } ∧ h.banner ≠ [] :=
  ⟨_, rfl, by decide⟩

theorem witness_periodic_pass_sends_every_row_distance :
    ∃ (h : HeatRecord),
      h = { sprint with lengths := 60 } ∧ h.banner = [] ∧ h.lengths ≤ 60 :=
  ⟨_, rfl, by decide⟩

theorem witness_receiver_takes_and_drops_frames_overdue :
    ∃ (s u : State) (m : Nat),
      s = receiving [0xA5, 1, 7, 2] ∧ u = after .receiverSilence (receiving [0xA5, 1, 7, 2]) ∧
      m = 1001000 ∧ s.isRunning = true ∧ s.link.held ≠ [] ∧
      s.link.lastByte + 1000 ≤ max s.clock m ∧ exec .receiverSilence s = .next u ∧
      s.link.held.length = 4 ∧ 512 < wordAt (s.link.held ++ [(1 : Byte)]) 3 :=
  ⟨_, _, _, rfl, rfl, rfl, by decide, by decide, by decide, rfl, by decide, by decide⟩

theorem witness_line_free_begins_the_next_frame_room :
    ∃ (s : State) (n : Notice),
      s = crowded 63 ∧ n = ⟨1000000, .timebase .locked .acquiring .internal .acquired⟩ ∧
      s.isRunning = true ∧ s.timebase.state = .acquiring ∧ s.timebase.source = .internal ∧
      s.quietUntil s.timebase.acquiringEnd = true ∧ s.link.line ≠ none ∧ s.link.fresh = 0 ∧
      n = ⟨min (max s.clock s.timebase.acquiringEnd) Config.masterLimit,
        .timebase .locked .acquiring .internal .acquired⟩ ∧
      s.link.notices.length < 64 :=
  ⟨_, _, rfl, rfl, by decide⟩

theorem witness_line_free_begins_the_next_frame_full :
    ∃ (s : State) (n : Notice),
      s = crowded 64 ∧ n = ⟨1000000, .timebase .locked .acquiring .internal .acquired⟩ ∧
      s.isRunning = true ∧ s.timebase.state = .acquiring ∧ s.timebase.source = .internal ∧
      s.quietUntil s.timebase.acquiringEnd = true ∧ s.link.line ≠ none ∧ s.link.fresh = 0 ∧
      n = ⟨min (max s.clock s.timebase.acquiringEnd) Config.masterLimit,
        .timebase .locked .acquiring .internal .acquired⟩ ∧
      s.link.notices.length = 64 :=
  ⟨_, _, rfl, rfl, by decide⟩

theorem witness_line_free_begins_the_next_frame_body_room :
    ∃ (s : State) (body : NoticeBody),
      s = crowded 63 ∧ body = .levelDone true [] ∧ body = .levelDone true [] ∧
      s.link.notices.length < 64 :=
  ⟨_, _, rfl, rfl, by decide⟩

theorem witness_line_free_begins_the_next_frame_body_full :
    ∃ (s : State) (body : NoticeBody),
      s = crowded 64 ∧ body = .levelDone true [] ∧ body = .levelDone true [] ∧
      s.link.notices.length = 64 :=
  ⟨_, _, rfl, rfl, by decide⟩

theorem witness_backup_time_is_the_median_three :
    ∃ (a b c lo mid hi : Nat),
      a = 709800 ∧ b = 710000 ∧ c = 710000 ∧ lo = 709800 ∧ mid = 710000 ∧ hi = 710000 ∧
      lo ≤ mid ∧ mid ≤ hi ∧ [a, b, c].Perm [lo, mid, hi] :=
  ⟨_, _, _, _, _, _, rfl, rfl, rfl, rfl, rfl, rfl, by decide⟩

theorem witness_backup_time_is_the_median_range :
    ∃ (presses : List Nat) (b most : Nat),
      presses = [800001, 800002] ∧ b = 800001 ∧ most = 800002 ∧ backupTime presses = some b ∧
      (∀ t ∈ presses, t ≤ most) :=
  ⟨_, _, _, rfl, rfl, rfl, by decide⟩

theorem witness_backup_time_is_the_median_final :
    ∃ (s : State) (h : HeatRecord) (lane : Lane) (w : FinishWindow),
      s = softFinish ∧ h = sprint ∧ lane = 4 ∧ w = softWindow ∧
      (s.deriveWindow h lane w).official ≠ none :=
  ⟨_, _, _, _, rfl, rfl, rfl, rfl, by decide⟩

theorem witness_derivation_follows_the_table_evidence :
    ∃ (s : State) (w : FinishWindow) (p : Profile),
      s = softFinish ∧ w = softWindow ∧ p = pool ∧ s.store.inForce = some p ∧
      (w.pad ≠ none ∨ w.buttons ≠ []) :=
  ⟨_, _, _, rfl, rfl, rfl, by decide⟩

theorem witness_derivation_follows_the_table_at_the_limit :
    ∃ (limit p b : Nat), limit = 3000 ∧ p = 523281 ∧ b = 526281 ∧ (p - b) + (b - p) ≤ limit :=
  ⟨_, _, _, rfl, rfl, rfl, by decide⟩

theorem witness_derivation_follows_the_table_past_the_limit :
    ∃ (limit p b : Nat), limit = 3000 ∧ p = 523281 ∧ b = 526282 ∧ limit < (p - b) + (b - p) :=
  ⟨_, _, _, rfl, rfl, rfl, by decide⟩

theorem witness_every_finish_is_at_wall_a_one_length :
    ∃ (h : HeatRecord) (n : Nat), h = { sprint with
      lengths := 1 } ∧ n = 1 ∧ 1 ≤ n ∧ h.lengths = 1 :=
  ⟨_, _, rfl, rfl, by decide⟩

end Sys2Proof.Tests
end

section
/-!
PROOFS. The walls of a heat (R22): what `startWall` and `lengthWall` answer, in parities, and the scanner an
ARM leaves (R37); from these, that every finish is at wall A.
-/

namespace Sys2Proof.Machine

/-! ### Walls by parity (R22) -/

theorem startWall_eq_a_iff (h : HeatRecord) : startWall h = .a ↔ h.lengths % 2 = 0 := by
  unfold startWall; split <;> simp [*]

theorem startWall_eq_b_iff (h : HeatRecord) : startWall h = .b ↔ h.lengths % 2 = 1 := by
  unfold startWall; split <;> simp_all

theorem lengthWall_eq_a_iff (h : HeatRecord) (n : Nat) :
    lengthWall h n = .a ↔ n % 2 = h.lengths % 2 := by
  unfold lengthWall; split <;> simp [*]

theorem lengthWall_eq_b_iff (h : HeatRecord) (n : Nat) :
    lengthWall h n = .b ↔ n % 2 ≠ h.lengths % 2 := by
  unfold lengthWall; split <;> simp [*]

/-! ### Where lengths begin and end -/

@[simp] theorem lengthWall_lengths (h : HeatRecord) : lengthWall h h.lengths = .a :=
  (lengthWall_eq_a_iff h h.lengths).2 rfl

@[simp] theorem lengthKind_lengths (h : HeatRecord) : lengthKind h h.lengths = .final := by
  simp [lengthKind]

theorem lengthWall_eq_a_iff_same_parity (h : HeatRecord) (n : Nat) :
    lengthWall h n = .a ↔ (n % 2 = 0 ↔ h.lengths % 2 = 0) := by
  rw [lengthWall_eq_a_iff]; omega

/-- The lengths alternate between the walls: the next one ends where this one began. -/
theorem lengthWall_eq_a_iff_succ_eq_b (h : HeatRecord) (n : Nat) :
    lengthWall h n = .a ↔ lengthWall h (n + 1) = .b := by
  rw [lengthWall_eq_a_iff, lengthWall_eq_b_iff]; omega

/-- Length 1 ends at the wall opposite the start wall. -/
theorem startWall_eq_a_iff_lengthWall_one_eq_b (h : HeatRecord) :
    startWall h = .a ↔ lengthWall h 1 = .b := by
  rw [startWall_eq_a_iff, lengthWall_eq_b_iff]; omega

/-- With N = 1 the one length begins at B, ends at A and is the last. -/
theorem single_length_walls {h : HeatRecord} (one : h.lengths = 1) :
    startWall h = .b ∧ lengthWall h 1 = .a ∧ lengthKind h 1 = .final := by
  refine ⟨(startWall_eq_b_iff h).2 (by simp [one]), ?_, ?_⟩
  · simpa [one] using lengthWall_lengths h
  · simpa [one] using lengthKind_lengths h

/-! ### The scanner at ARM (R22, R114) -/

theorem State.armHeat_scanner (h : HeatRecord) (s : State) :
    (s.armHeat h).scanner =
      if startWall h = .a then
        { s.scanner with state := .settling, settlingEnd := some (s.clock + Config.settlingTicks) }
      else s.scanner := by
  unfold State.armHeat
  by_cases wall : startWall h = .a
  · simp [wall]
  · simp [wall]

/-- Settles O18: each clause is a parity of the length's number against N's, and the scanner's power
follows `startWall`. -/
theorem everyFinishIsAtWallA : Obligations.EveryFinishIsAtWallA := fun h =>
  ⟨startWall_eq_a_iff h, lengthWall_lengths h, lengthWall_eq_a_iff_same_parity h,
    fun n _ => lengthWall_eq_a_iff_succ_eq_b h n, startWall_eq_a_iff_lengthWall_one_eq_b h,
    single_length_walls, State.armHeat_scanner h⟩

end Sys2Proof.Machine
end

section
/-!
PROOFS. Official times (chapter 6): the backup time of the presses (R100), the derivation from pad and backup
time (R101, R102), and the notices that carry the closed record (R89, R90).
-/

namespace Sys2Proof.Machine

/-! ### The backup time (R100) -/

/-- The median is what the smallest and the largest of the three times leave. -/
theorem median_add_min_add_max (a b c : Nat) :
    median a b c + min a (min b c) + max a (max b c) = a + b + c := by
  unfold median; omega

theorem median_le {a b c most : Nat} (ha : a ≤ most) (hb : b ≤ most) (hc : c ≤ most) :
    median a b c ≤ most := by
  unfold median; omega

/-- The order of the three times does not matter: a permutation keeps their sum, and the smallest and the
largest of them are the ends of the sorted list. -/
theorem median_of_perm {a b c lo mid hi : Nat} (hlo : lo ≤ mid) (hhi : mid ≤ hi)
    (perm : [a, b, c].Perm [lo, mid, hi]) : median a b c = mid := by
  have sum : a + (b + c) = lo + (mid + hi) := by simpa using perm.sum_eq
  have within : ∀ t ∈ [a, b, c], lo ≤ t ∧ t ≤ hi := fun t ht => by
    have : t = lo ∨ t = mid ∨ t = hi := by simpa using perm.subset ht
    omega
  have lowest : lo = a ∨ lo = b ∨ lo = c := by simpa using perm.symm.subset (a := lo) (by simp)
  have highest : hi = a ∨ hi = b ∨ hi = c := by simpa using perm.symm.subset (a := hi) (by simp)
  have ha := within a (by simp)
  have hb := within b (by simp)
  have hc := within c (by simp)
  have := median_add_min_add_max a b c
  omega

theorem backupTime_le {presses : List Nat} {b most : Nat} (hb : backupTime presses = some b)
    (bound : ∀ t ∈ presses, t ≤ most) : b ≤ most := by
  match presses, hb with
  | [a], rfl => exact bound a (by simp)
  | [a, c], rfl =>
    have ha : a ≤ most := bound a (by simp)
    have hc : c ≤ most := bound c (by simp)
    omega
  | a :: c :: e :: _, rfl =>
    exact median_le (bound a (by simp)) (bound c (by simp)) (bound e (by simp))

theorem backupTime_eq_none_iff (presses : List Nat) : backupTime presses = none ↔ presses = [] := by
  match presses with
  | [] | [_] | [_, _] | _ :: _ :: _ :: _ => simp [backupTime]

/-! ### The derivation (R101, R102) -/

/-- Pad and backup time agree: the pad time, without flag or reason. -/
theorem derive_of_agreeing {p b limit : Nat} {dead : Bool} (near : (p - b) + (b - p) ≤ limit) :
    derive (some p) (some b) limit dead = ⟨some p, .pad, .clear, .empty⟩ :=
  if_pos near

/-- Pad and backup time differ by more than D: the backup time, DISCREPANT. -/
theorem derive_of_discrepant {p b limit : Nat} {dead : Bool} (far : limit < (p - b) + (b - p)) :
    derive (some p) (some b) limit dead =
      ⟨some b, .backup, { LengthFlags.clear with discrepant := true },
        { ReviewReasons.empty with discrepant := true }⟩ :=
  if_neg (Nat.not_le_of_lt far)

theorem derive_official_eq_none_iff (padTime backup : Option Nat) (limit : Nat) (dead : Bool) :
    (derive padTime backup limit dead).official = none ↔ padTime = none ∧ backup = none := by
  match padTime, backup with
  | none, none | some _, none => simp [derive]
  | none, some _ => cases dead <;> simp [derive]
  | some p, some b =>
    rcases le_or_gt ((p - b) + (b - p)) limit with near | far
    · simp [derive_of_agreeing near]
    · simp [derive_of_discrepant far]

theorem closedRecord_outcome (h : HeatRecord) (n : Nat) (w : FinishWindow) (d : Derived) :
    (closedRecord h n w d).outcome = if d.official = none then .noTime else .timed := by
  unfold closedRecord
  cases d.official <;> rfl

theorem State.deriveWindow_of_inForce {s : State} {p : Profile} (inForce : s.store.inForce = some p)
    (h : HeatRecord) (lane : Lane) (w : FinishWindow) :
    s.deriveWindow h lane w =
      derive (w.pad.map (·.time)) (backupTime (w.buttons.map (·.2))) (h.discrepancy * 100)
        p.dead[padIx lane .a] := by
  simp [State.deriveWindow, State.deadWallA, limitTicks, inForce]

/-! ### The evidence a window holds (R85 to R87) -/

/-- A window holds a pad time or a press. -/
def FinishWindow.HoldsEvidence (w : FinishWindow) : Prop := w.pad ≠ none ∨ w.buttons ≠ []

theorem State.deriveWindow_official_ne_none {w : FinishWindow} (evidence : w.HoldsEvidence)
    (s : State) (h : HeatRecord) (lane : Lane) : (s.deriveWindow h lane w).official ≠ none := by
  unfold State.deriveWindow
  rw [ne_eq, derive_official_eq_none_iff, backupTime_eq_none_iff, Option.map_eq_none_iff,
    List.map_eq_nil_iff]
  rintro ⟨noPad, noPress⟩
  exact evidence.elim (· noPad) (· noPress)

theorem newWindow_holds_evidence (h : HeatRecord) (r : LaneRecord) (e : Evidence) :
    (newWindow h r e).HoldsEvidence := by
  cases e with
  | touch t => exact .inl (Option.some_ne_none t)
  | press b time => exact .inr (List.cons_ne_nil _ _)

theorem collectPad_keeps_evidence {w : FinishWindow} (evidence : w.HoldsEvidence)
    (touch : PadTouch) : (collectPad w touch).HoldsEvidence := by
  unfold collectPad
  split
  · exact .inl (Option.some_ne_none touch)
  · exact evidence

theorem collectPress_keeps_evidence {w : FinishWindow} (evidence : w.HoldsEvidence)
    (button : Button) (time : Nat) : (collectPress w button time).HoldsEvidence := by
  unfold collectPress
  split
  · exact .inr (List.append_ne_nil_of_right_ne_nil _ (List.cons_ne_nil _ _))
  · exact evidence

/-- Settles O21: the table's rows by the two times, and no window without evidence. -/
theorem derivationFollowsTheTable : Obligations.DerivationFollowsTheTable :=
  ⟨fun _ _ => ⟨fun _ => rfl, fun _ _ near => derive_of_agreeing near,
      fun _ _ far => derive_of_discrepant far, fun _ => rfl, fun _ => rfl, rfl⟩,
    closedRecord_outcome,
    fun s h lane w => ⟨fun _ inForce => State.deriveWindow_of_inForce inForce h lane w,
      fun evidence => State.deriveWindow_official_ne_none evidence s h lane⟩,
    newWindow_holds_evidence,
    fun _ touch button time evidence =>
      ⟨collectPad_keeps_evidence evidence touch, collectPress_keeps_evidence evidence button time⟩⟩

/-! ### The notice of a close (R89, R90) -/

/-- Of the console link, `t` has at most one more notice than `s`. -/
def State.NotifiesAtMostOnce (s t : State) : Prop :=
  t.link = s.link ∨
    ∃ (u : State) (body : NoticeBody), t.link = (u.notify body).link ∧ u.link = s.link

theorem State.notify_fresh_pos (body : NoticeBody) (s : State) : 0 < (s.notify body).link.fresh := by
  unfold State.notify
  dsimp only
  split <;> exact Nat.succ_pos _

/-- A notice just made still waits behind one more: a full queue gives up its oldest (R180). -/
theorem State.notified_stays {s t : State} {body : NoticeBody}
    (h : (s.notify body).NotifiesAtMostOnce t) : ∃ n ∈ t.link.notices, n.body = body := by
  refine ⟨⟨s.masterTime, body⟩, ?_, rfl⟩
  have newest := State.notify_newest body s
  rcases h with same | ⟨u, next, more, same⟩
  · rw [same]
    exact List.mem_of_getLast? newest
  · have made := State.notify_fresh_pos body s
    rw [← same] at newest made
    rw [more]
    exact List.mem_of_mem_drop ((State.newest_fresh newest made).2 next)

/-- A verdict has one EXCHANGE notice or none (R131). -/
theorem State.giveVerdict_notifiesAtMostOnce (h : HeatRecord) (lane : Lane) (record : ExchangeRecord)
    (cause : SettleCause) (s : State) : s.NotifiesAtMostOnce (s.giveVerdict h lane record cause) := by
  unfold State.giveVerdict
  dsimp only
  split
  · exact .inr ⟨_, _, rfl, rfl⟩
  · exact .inl rfl

theorem State.evaluateExchange_notifiesAtMostOnce (h : HeatRecord) (lane : Lane) (leg : Nat)
    (cause : SettleCause) (s : State) : s.NotifiesAtMostOnce (s.evaluateExchange h lane leg cause) := by
  unfold State.evaluateExchange
  split
  · exact .inl rfl
  · split
    · exact s.giveVerdict_notifiesAtMostOnce h lane _ cause
    · exact .inl rfl

theorem State.legEndClosed_notifiesAtMostOnce (h : HeatRecord) (lane : Lane) (leg : Nat)
    (source : OfficialSource) (padTime : Option Nat) (cause : SettleCause) (s : State) :
    s.NotifiesAtMostOnce (s.legEndClosed h lane leg source padTime cause) := by
  unfold State.legEndClosed
  split
  · exact .inl rfl
  · exact State.evaluateExchange_notifiesAtMostOnce h lane leg cause (s.updLane lane _)

/-- A place taken has one PLACES notice or none (R140). -/
theorem State.placeFinish_notifiesAtMostOnce (lane : Lane) (official : Nat) (s : State) :
    s.NotifiesAtMostOnce (s.placeFinish lane official) := by
  unfold State.placeFinish State.reorder State.notifyPlaces
  split
  · exact .inl rfl
  · exact .inr ⟨_, _, rfl, rfl⟩

/-- The SPLIT notice of a LEG_END window's close waits in the queue with the closed record (R89). -/
theorem State.closeLegEnd_notifies_split (s : State) (h : HeatRecord) (lane : Lane) (w : FinishWindow) :
    ∃ n ∈ (s.closeLegEnd h lane w).link.notices, ∃ leg,
      n.body = .split lane
        (closedRecord h (s.lanes[lane]).expected w (s.deriveWindow h lane w)) leg := by
  unfold State.closeLegEnd State.sendSplit
  obtain ⟨n, hn, body⟩ := State.notified_stays (State.legEndClosed_notifiesAtMostOnce ..)
  exact ⟨n, hn, _, body⟩

/-- The FINISH notice of a FINAL window's close with an official time waits in the queue with the closed
record (R90, R110). -/
theorem State.closeFinal_notifies_finish {s : State} {h : HeatRecord} {lane : Lane} {w : FinishWindow}
    (timed : (s.deriveWindow h lane w).official ≠ none) (cause : CloseCause) :
    ∃ n ∈ (s.closeFinal h lane w cause).link.notices, ∃ label leg reasons,
      n.body = .finish lane label
        (closedRecord h (s.lanes[lane]).expected w (s.deriveWindow h lane w)) leg reasons cause := by
  unfold State.closeFinal
  dsimp only
  split
  · simp only [State.startHold_frame]
    obtain ⟨n, hn, body⟩ := State.notified_stays (State.placeFinish_notifiesAtMostOnce ..)
    exact ⟨n, hn, _, _, _, body⟩
  · next untimed => exact absurd untimed timed

/-- Settles O20: the four cases of R100, and the closed record in the notice of either close. -/
theorem backupTimeIsTheMedian : Obligations.BackupTimeIsTheMedian :=
  ⟨⟨rfl, fun _ => rfl, fun _ _ => rfl,
      fun _ _ _ _ _ _ hlo hhi perm => congrArg some (median_of_perm hlo hhi perm),
      fun _ _ _ hb bound => backupTime_le hb bound⟩,
    fun _ _ _ _ => rfl, State.closeLegEnd_notifies_split,
    fun _ _ _ _ cause timed => State.closeFinal_notifies_finish timed cause⟩

end Sys2Proof.Machine
end

/-!
PROOFS. What a step of a running part can do, said once: time passes, an event has its effect, a request is
handled, the console link moves bytes; or a reset cuts it all short. An invariant of the whole part is
proved by looking at these once.
-/

namespace Sys2Proof.Machine

/-! ### What a step can do -/

/-- The effects of events, the end of the event apart: every event of a running part has one of them on the
state that its moment finds. -/
inductive State.Effect (s : State) : State → Prop where
  | same : s.Effect s
  | overtime : s.Effect s.overtime
  | reachLimit : s.Effect s.reachLimit
  | goodWindow : s.Effect s.goodWindowEnd
  | badWindow : s.Effect s.badWindowEnd
  | locks (cause : TimebaseCause) : s.Effect (s.enterLocked cause)
  | putSet (level : Level) : s.Effect (s.putSetLine level)
  | marks (level : Level) (stamp : Nat) (armed : s.heat.race = .armed) :
      s.Effect { s with heat := { s.heat with setLine := level, setMark := some stamp } }
  | putStart (level : Level) : s.Effect (s.putStartLine level)
  | starts (level : Level) (stamp : Nat) (h : HeatRecord) (armed : s.heat.race = .armed)
      (current : s.heat.current = some h) : s.Effect ((s.putStartLine level).startHeat h stamp .startLine)
  | putRecall (level : Level) : s.Effect (s.putRecallLine level)
  | recalls (level : Level) (stamp : Nat) (h : HeatRecord) (running : s.heat.race = .running)
      (current : s.heat.current = some h) : s.Effect ((s.putRecallLine level).recallHeat h stamp .recallLine)
  | padEdge (pad : PadIx) (level : Level) (stamp : Nat) : s.Effect (s.padEdge pad level stamp)
  | qualifyPad (pad : PadIx) : s.Effect (s.qualifyPad pad)
  | buttonEdge (lane : Lane) (button : Button) (level : Level) (stamp : Nat) :
      s.Effect (s.buttonEdge lane button level stamp)
  | levelWaitEnds : s.Effect s.levelWaitEnds
  | levelDriveEnds : s.Effect s.levelDriveEnds
  | windowTimeout (lane : Lane) : s.Effect (s.windowTimeout lane)
  | settled (zero full : Reading) : s.Effect (s.settled zero full)
  | sample (lane : Lane) (reading : Reading) (time : Nat) : s.Effect (s.sample lane reading time)
  | restOfSweep (readings : Vector Reading 10) : s.Effect (s.restOfSweep readings)
  | writeEnds : s.Effect s.writeEnds
  | slotComes : s.Effect s.slotComes
  | boardLineFree : s.Effect s.boardLineFree
  | askPass : s.Effect s.askPass
  | holdEnds : s.Effect s.holdEnds

/-- The console link has moved: bytes taken, a frame counted as dropped, an immediate reply made, a request
taken into the buffer or out of it, a frame begun or ended. Only the link has changed, no notice has been
made, and the buffer and the discard count have stayed within their sizes. -/
structure State.LinkMoves (s t : State) : Prop where
  others : t = { s with link := t.link }
  notices : t.link.notices.length ≤ s.link.notices.length
  fresh : t.link.fresh = s.link.fresh
  buffer : s.link.buffer.length ≤ 4 → t.link.buffer.length ≤ 4
  discards : s.link.discards ≤ 65535 → t.link.discards ≤ 65535

/-- What is kept by all that a step of a running part can do but a reset: `P` between events, `Q` while an
event is in progress. -/
structure Kept (P Q : State → Prop) : Prop where
  begins : ∀ {s}, P s → Q s
  ends : ∀ {s}, Q s → P s.eventEnd
  reply : ∀ {s} (r : Reply), Q s → Q (s.pushReply r)
  clock : ∀ {s} (m : Nat), P s → P (s.advance m)
  queue : ∀ {s} (l : List Instr), P s → P { s with pending := l }
  link : ∀ {s t : State}, P s → s.LinkMoves t → P t
  effect : ∀ {s t : State}, P s → s.Effect t → Q t
  handle : ∀ {s} (r : Request), P s → Q (s.handle r).state

/-! ### The moves of the console link -/

theorem State.transmit_moves (s : State) : s.LinkMoves s.transmit where
  others := State.transmit_eq s
  notices := by
    unfold State.transmit Link.begin
    repeat' split
    all_goals simp_all
  fresh := by
    unfold State.transmit Link.begin
    repeat' split
    all_goals rfl
  buffer := by simp
  discards := by simp

theorem State.discard_moves (n : Nat) (s : State) : s.LinkMoves (s.discard n) where
  others := rfl
  notices := le_rfl
  fresh := rfl
  buffer := id
  discards := fun _ => Nat.min_le_left _ _

theorem State.pushReply_moves (r : Reply) (s : State) : s.LinkMoves (s.pushReply r) where
  others := rfl
  notices := le_rfl
  fresh := rfl
  buffer := id
  discards := id

theorem State.immediate_moves (r : Reply) (s : State) : s.LinkMoves (s.immediate r) := by
  unfold State.immediate
  split
  · exact State.pushReply_moves r s
  · exact State.discard_moves 1 s

theorem State.joinBuffer_moves (r : Request) (s : State) : s.LinkMoves (s.joinBuffer r) := by
  unfold State.joinBuffer
  split
  · next h =>
    exact ⟨rfl, le_rfl, rfl, fun _ => by simpa [Config.bufferMax] using h, id⟩
  · exact State.immediate_moves _ s

theorem State.setEdge_effect (level : Level) (stamp : Nat) (s : State) :
    s.Effect ((s.putSetLine level).setEdge stamp) := by
  unfold State.setEdge
  split
  · next h => exact .marks level _ h
  · exact .putSet level

theorem State.startEdge_effect (level : Level) (stamp : Nat) (s : State) :
    s.Effect ((s.putStartLine level).startEdge stamp) := by
  unfold State.startEdge
  split
  · next h hr hc =>
    split
    · exact .putStart level
    · exact .starts level _ h hr hc
  · exact .putStart level

theorem State.recallEdge_effect (level : Level) (stamp : Nat) (s : State) :
    s.Effect ((s.putRecallLine level).recallEdge stamp) := by
  unfold State.recallEdge
  split
  · next h hr hc =>
    split
    · exact .recalls level _ h hr hc
    · exact .putRecall level
  · exact .putRecall level

theorem State.judgeWindow_effect (cycles : Nat) (s : State) : s.Effect (s.judgeWindow cycles) := by
  unfold State.judgeWindow
  split
  · exact .goodWindow
  · exact .badWindow

section

variable {P Q : State → Prop} (K : Kept P Q)
include K

/-! ### Events and executions -/

theorem Kept.settles {s : State} (h : Q s) : P s.settle := K.link (K.ends h) (State.transmit_moves _)

theorem Kept.event {s t : State} (h : P s) (e : s.Effect t) : P t.settle := K.settles (K.effect h e)

theorem Kept.executed {s : State} (r : Request) (h : P s) : P (s.executed r) := by
  unfold State.executed Handled.replied
  split
  · exact K.ends (K.handle r h)
  · exact K.ends (K.reply _ (K.handle r h))

theorem Kept.executeHead {s : State} (h : P s) : P s.executeHead := by
  unfold State.executeHead
  split
  · exact h
  · next r rest hb =>
    exact K.executed r (K.link h ⟨rfl, le_rfl, rfl, by simp [hb]; omega, id⟩)

theorem Kept.serve {s : State} (n : Nat) (h : P s) : P (s.serve n) := by
  induction n generalizing s with
  | zero => exact h
  | succ n ih =>
    unfold State.serve
    repeat' split
    · exact ih (K.executeHead h)
    · exact ih (K.link h (State.transmit_moves s))
    · exact h

theorem Kept.submit {s : State} (r : Request) (h : P s) : P (s.submit r) :=
  K.serve _ (K.link h (State.joinBuffer_moves r s))

/-! ### The passing of time -/

theorem Kept.reach {s : State} (m : Nat) (h : P s) : P (s.reach m) := by
  have race : ∀ {u : State}, P u → P u.takeRaceLimit := fun {u} hu => by
    unfold State.takeRaceLimit
    split
    · exact hu
    · exact K.event (K.clock _ hu) .overtime
  have master : ∀ {u : State}, P u → P u.takeMasterLimit := fun hu => K.event hu .reachLimit
  unfold State.reach
  refine K.clock m ?_
  repeat' split
  · exact master (race h)
  · exact race h
  · exact master h
  · exact h

theorem Kept.windowEnds {applies : State → Bool} {f : State → State} (hf : ∀ u, State.Effect u (f u))
    {s : State} (h : P s) : P (s.windowEnds applies f) := by
  unfold State.windowEnds
  dsimp only
  repeat' split
  · exact K.event (K.reach _ h) (hf _)
  · exact K.reach _ h
  · exact h

theorem Kept.pass {s : State} (m : Nat) (h : P s) : P (s.pass m) := by
  unfold State.pass
  refine K.reach m ?_
  split
  · exact K.windowEnds (State.judgeWindow_effect 0) h
  · exact h

theorem Kept.atDeadline {deadline : State → Option Nat} {f : State → State} {s : State} (h : P s)
    {R : State → Prop} (hR : ∀ u, P u → R u) (hf : ∀ u, P u → u.comes (deadline u) = true → R (f u)) :
    R (s.atDeadline deadline f) := by
  unfold State.atDeadline
  split
  · exact hR _ h
  · next d _ =>
    dsimp only
    split
    · next hc => exact hf _ (K.pass d h) hc
    · exact hR _ (K.pass d h)

theorem Kept.ifDue {deadline : State → Option Nat} {f : State → State} (hf : ∀ u, State.Effect u (f u))
    {s : State} (h : P s) : P (s.ifDue deadline f) :=
  K.atDeadline h (fun _ => id) fun _ hu _ => K.event hu (hf _)

/-! ### What the console line brings -/

theorem Kept.acceptFrame {s : State} (bytes : List Byte) (h : P s) : P (s.acceptFrame bytes) := by
  unfold State.acceptFrame
  dsimp only
  split
  · exact K.submit _ h
  · exact K.serve _ (K.link h (State.immediate_moves _ s))

theorem Kept.takeReceived {s : State} (events : List RxEvent) (h : P s) : P (s.takeReceived events) := by
  induction events generalizing s with
  | nil => exact h
  | cons e events ih =>
    cases e with
    | frame bytes => exact ih (K.acceptFrame bytes h)
    | drop => exact ih (K.link h (State.discard_moves 1 s))

theorem Kept.receiveNow {s : State} (bytes : List Byte) (h : P s) : P (s.receiveNow bytes) :=
  K.takeReceived _ (K.link h ⟨rfl, le_rfl, rfl, id, id⟩)

theorem Kept.framingError {s : State} (h : P s) : P s.framingError := by
  unfold State.framingError
  split
  · exact h
  · exact K.takeReceived _ (K.link h ⟨rfl, le_rfl, rfl, id, id⟩)

theorem Kept.silence {s : State} (h : P s) : P s.silence :=
  K.takeReceived _ (K.link h ⟨rfl, le_rfl, rfl, id, id⟩)

theorem Kept.listen {s : State} (m : Nat) (h : P s) : P (s.listen m) := by
  unfold State.listen
  refine K.pass m ?_
  split
  · exact K.atDeadline h (fun _ => id) fun _ hu _ => K.settles (K.begins (K.silence hu))
  · exact h

theorem Kept.request {s : State} (kind : RequestKind) (m : Nat) (tag : Byte) (p : List Byte) (h : P s) :
    P (s.request kind m tag p) := by
  unfold State.request State.whenRunning
  split
  · exact K.submit _ (K.pass m h)
  · exact h

end

/-! ### A command, and a step -/

/-- `P` still holds, or a reset has cut short a state in which it did. -/
def KeptOrReset (P : State → Prop) (t : State) : Prop :=
  P t ∨ ∃ u power, P u ∧ power ≠ .running ∧ t = u.cutShort power

section

variable {P Q : State → Prop} (K : Kept P Q)
include K

theorem Kept.lineFree {s : State} (h : P s) : KeptOrReset P s.lineFree := by
  unfold State.lineFree
  split
  · exact .inr ⟨s, _, h, by simp, rfl⟩
  · exact .inl (K.serve _ (K.link h ⟨rfl, le_rfl, rfl, id, id⟩))

/-- A command on a running part keeps what `Kept` says, or it is a reset. -/
theorem Kept.exec {c : Instr} {s t : State} (h : P s) (hr : s.isRunning = true)
    (he : exec c s = .next t) : KeptOrReset P t := by
  have hp : s.power = .running := by simpa [State.isRunning] using hr
  have edge : ∀ {u : State}, P u → ∀ {v}, u.Effect v → P v.settle := fun hu _ e => K.event hu e
  have due : ∀ (deadline : State → Option Nat) (f : State → State), (∀ u, State.Effect u (f u)) →
      P (s.ifDue deadline f) := fun _ _ hf => K.ifDue hf h
  cases c <;> (injection he with he; subst he)
  case powerUp => exact .inl (by simpa [State.applyPower, hp] using h)
  case resetPin =>
    exact .inr ⟨s, .held .resetPin false, h, by simp, by simp [State.assertReset, hp]⟩
  case standbyLatchSet => exact .inl (by simpa [State.setLatch, hp] using h)
  case startUp => exact .inl (by simpa [State.beginRunning, hp] using h)
  case mainPowerOff => exact .inr ⟨s, .off, h, by simp, by simp [State.removePower, hp]⟩
  case setLineEdge level stamp =>
    refine .inl ?_
    split
    · exact h
    rw [hr, if_neg (by simp)]
    dsimp only
    split
    · exact edge (K.pass _ h) (State.setEdge_effect ..)
    · exact edge (K.pass _ h) (.putSet _)
  case startLineEdge level stamp =>
    refine .inl ?_
    split
    · exact h
    rw [hr, if_neg (by simp)]
    dsimp only
    split
    · exact edge (K.pass _ h) (State.startEdge_effect ..)
    · exact edge (K.pass _ h) (.putStart _)
  case recallLineEdge level stamp =>
    refine .inl ?_
    split
    · exact h
    rw [hr, if_neg (by simp)]
    dsimp only
    split
    · exact edge (K.pass _ h) (State.recallEdge_effect ..)
    · exact edge (K.pass _ h) (.putRecall _)
  case padEdge lane wall level stamp =>
    refine .inl ?_
    split
    · exact h
    rw [hr, if_neg (by simp)]
    exact edge (K.pass _ h) (.padEdge _ _ _)
  case buttonEdge lane button level stamp =>
    refine .inl ?_
    split
    · exact h
    rw [hr, if_neg (by simp)]
    exact edge (K.pass _ h) (.buttonEdge _ _ _ _)
  all_goals try rw [State.whenRunning_running _ hr]
  case restartReset =>
    exact K.atDeadline h (fun _ => .inl) fun u hu _ => .inr ⟨u, _, hu, by simp, rfl⟩
  case transmitFrameEnd => exact K.atDeadline h (fun _ => .inl) fun _ hu _ => K.lineFree hu
  all_goals refine .inl ?_
  case masterTimeLimit =>
    split
    · exact h
    · exact K.pass _ h
  case raceTimeLimit =>
    split
    · exact h
    · exact K.pass _ h
  case acquiringIntervalEnd => exact due _ _ fun _ => .locks _
  case referenceWindowEnd cycles => exact K.windowEnds (State.judgeWindow_effect cycles) h
  case referenceAcquired => exact K.windowEnds (fun _ => .goodWindow) h
  case referenceRestored => exact K.windowEnds (fun _ => .goodWindow) h
  case tenthBoundary => exact due _ _ fun _ => .same
  case padQualifyTime => exact due _ _ fun _ => .qualifyPad _
  case levelWaitExpiry => exact due _ _ fun _ => .levelWaitEnds
  case levelDriveEnd => exact due _ _ fun _ => .levelDriveEnds
  case finishWindowClose => exact due _ _ fun _ => .windowTimeout _
  case scannerSettlingEnd => exact due _ _ fun _ => .settled _ _
  case channelSample => exact due _ _ fun _ => .sample _ _ _
  case probeSweepComplete => exact due _ _ fun _ => .restOfSweep _
  case profileWriteComplete => exact due _ _ fun _ => .writeEnds
  case boardSlot => exact due _ _ fun _ => .slotComes
  case boardFrameEnd => exact due _ _ fun _ => .boardLineFree
  case boardPeriodicPass => exact due _ _ fun _ => .askPass
  case firstFinishHoldEnd => exact due _ _ fun _ => .holdEnds
  case consoleFrameReceived => exact K.receiveNow _ (K.listen _ h)
  case consoleByteReceived => exact K.receiveNow _ (K.listen _ h)
  case byteFramingError => exact K.framingError (K.listen _ h)
  case payloadLengthTooLong =>
    split
    · exact K.receiveNow _ (K.listen _ h)
    · exact h
  case receiverSilence =>
    exact K.atDeadline h (fun _ => id) fun _ hu _ => K.settles (K.begins (K.silence hu))
  all_goals exact K.request _ _ _ _ h

/-- A step of a running part keeps what `Kept` says, or it is a reset. -/
theorem Kept.step {s t : State} (h : P s) (hr : s.isRunning = true) (hs : step s = .next t) :
    KeptOrReset P t := by
  unfold Machine.step at hs
  split at hs
  · injection hs with hs
    subst hs
    unfold State.tick
    rw [hr, if_neg (by simp)]
    exact .inl (K.queue _ (K.pass _ h))
  · next c rest _ => exact K.exec (K.queue rest h) hr hs

end

/-! ### A part that does not run -/

/-- What a command makes of a part that does not run: nothing; a reset or a start; or a line takes a
level. -/
theorem exec_notRunning {c : Instr} {s t : State} (hr : s.isRunning = false) (he : exec c s = .next t) :
    t = s ∨ t = s.applyPower ∨ t = s.removePower ∨ t = s.setLatch ∨
      (∃ strapHigh held, t = s.beginRunning strapHigh held) ∨
      t = { s with heat := t.heat, wall := t.wall } ∧ ∃ l₁ l₂ l₃,
        t.heat = { s.heat with setLine := l₁, startLine := l₂, recallLine := l₃ } ∧
        t.wall.level = s.wall.level := by
  have hn : ∀ f : State → State, s.whenRunning f = s := fun f => by simp [State.whenRunning, hr]
  cases c <;> (injection he with he; subst he)
  case powerUp => exact .inr (.inl rfl)
  case mainPowerOff => exact .inr (.inr (.inl rfl))
  case standbyLatchSet => exact .inr (.inr (.inr (.inl rfl)))
  case startUp strapHigh held => exact .inr (.inr (.inr (.inr (.inl ⟨strapHigh, held, rfl⟩))))
  case resetPin =>
    left
    unfold State.assertReset
    split
    · next h => simp [State.isRunning, h] at hr
    · rfl
  case setLineEdge | startLineEdge | recallLineEdge | padEdge | buttonEdge =>
    split
    · exact .inl rfl
    · exact .inr (.inr (.inr (.inr (.inr ⟨rfl, _, _, _, rfl, rfl⟩))))
  all_goals exact .inl (hn _)

/-- What is kept by all that happens to a part that does not run, and by a reset. -/
structure KeptAtRest (I : State → Prop) : Prop where
  queue : ∀ {s} (l : List Instr), I s → I { s with pending := l }
  reset : ∀ {s} (power : Power), power ≠ .running → I s → I (s.cutShort power)
  latch : ∀ {s} (b : Bool), I s → I { s with standbyLatch := b }
  start : ∀ {s} (strapHigh held : Bool), I s → I (s.beginRunning strapHigh held)
  lines : ∀ {s t : State}, I s → t = { s with heat := t.heat, wall := t.wall } →
    (∃ l₁ l₂ l₃, t.heat = { s.heat with setLine := l₁, startLine := l₂, recallLine := l₃ }) →
    t.wall.level = s.wall.level → I t

/-- An invariant of every step: a running part keeps it, and so does one that does not run. -/
theorem Kept.everyStep {P Q I : State → Prop} (K : Kept P Q) (A : KeptAtRest I)
    (running : ∀ {s : State}, s.isRunning = true → I s → P s) (general : ∀ {s}, P s → I s) {s t : State}
    (h : I s) (hs : Machine.step s = .next t) : I t := by
  by_cases hr : s.isRunning = true
  · rcases K.step (running hr h) hr hs with ht | ⟨u, power, hu, hp, rfl⟩
    · exact general ht
    · exact A.reset power hp (general hu)
  have hr : s.isRunning = false := by simpa using hr
  unfold Machine.step at hs
  split at hs
  · injection hs with hs
    subst hs
    unfold State.tick
    rw [if_pos hr]
    exact h
  next c rest _ =>
  have hq := A.queue rest h
  generalize hv : ({ s with pending := rest } : State) = v at hs hq
  rcases exec_notRunning (s := v) (by rw [← hv]; exact hr) hs with
    rfl | rfl | rfl | rfl | ⟨a, b, rfl⟩ | ⟨ht, l₁, l₂, l₃, hh, hw⟩
  · exact hq
  · unfold State.applyPower
    split
    · exact A.latch false (A.reset (.held .power v.standbyLatch) (by simp) hq)
    · exact hq
  · unfold State.removePower
    split
    · exact hq
    · exact A.reset .off (by simp) hq
  · unfold State.setLatch
    split
    · exact A.latch true hq
    · exact hq
  · exact A.start a b hq
  · exact A.lines hq ht ⟨l₁, l₂, l₃, hh⟩ hw

end Sys2Proof.Machine

/-!
PROOFS. What the end of a heat and the amendments leave of the archive, and what of the timebase and of the
heat each operation sets.
-/

namespace Sys2Proof.Machine

/-! ### The archive and its lock -/

@[simp] theorem State.reorder_placing (cause : PlacesCause) (order : List (Lane × Nat)) (s : State) :
    (s.reorder cause order).placing = { s.placing with order := order } := by
  simp [State.reorder]

@[simp] theorem State.placeFinish_placing (lane : Lane) (official : Nat) (s : State) :
    (s.placeFinish lane official).placing =
      { s.placing with
        order := insertOrder (lane, hundredths official) (removeOrder lane s.placing.order) } := by
  simp [State.placeFinish]

@[simp] theorem State.setArchive_placing (archive : List ArchiveEntry) (linked : Bool) (s : State) :
    (s.setArchive archive linked).placing =
      { s.placing with archive := archive, check := Config.checkValue archive, linked := linked } := rfl

/-- The archive, its check value, its link and the results lock are those of `s`: only the place order may
have changed. -/
def State.archiveKept (s t : State) : Prop :=
  t.placing = { s.placing with order := t.placing.order }

theorem State.archiveKept.of_eq {s t : State} (h : t.placing = s.placing) : s.archiveKept t := by
  rw [State.archiveKept, h]

theorem State.archiveKept.trans {s t u : State} (h : s.archiveKept t) (h' : t.archiveKept u) :
    s.archiveKept u := by
  unfold State.archiveKept at h h' ⊢
  rw [h', h]

theorem State.archiveKept.fields {s t : State} (h : s.archiveKept t) :
    t.placing.archive = s.placing.archive ∧ t.placing.locked = s.placing.locked ∧
      t.placing.check = s.placing.check ∧ t.placing.linked = s.placing.linked := by
  rw [State.archiveKept] at h
  rw [h]
  exact ⟨rfl, rfl, rfl, rfl⟩

theorem State.closeFinal_archiveKept (h : HeatRecord) (lane : Lane) (w : FinishWindow) (cause : CloseCause)
    (s : State) : s.archiveKept (s.closeFinal h lane w cause) := by
  unfold State.closeFinal State.archiveKept
  dsimp only
  split <;> simp

theorem State.closeWindow_archiveKept (h : HeatRecord) (cause : CloseCause) (lane : Lane) (s : State) :
    s.archiveKept (s.closeWindow h cause lane) := by
  unfold State.closeWindow
  dsimp only
  repeat' split
  · exact .of_eq rfl
  · exact .of_eq rfl
  · exact .of_eq (by simp)
  · exact State.closeFinal_archiveKept ..

theorem State.closeWindows_archiveKept (h : HeatRecord) (s : State) :
    s.archiveKept (s.closeWindows h) := by
  unfold State.closeWindows State.eachLane
  generalize allLanes = l
  induction l generalizing s with
  | nil => exact .of_eq rfl
  | cons lane l ih =>
    refine .trans ?_ (ih _)
    dsimp only [State.closeOpen]
    split
    · exact State.closeWindow_archiveKept ..
    · exact .of_eq rfl

theorem State.endHeat_archiveKept (h : HeatRecord) (cause : HeatCause) (s : State) :
    s.archiveKept (s.endHeat h cause) := by
  have before : s.archiveKept s.disarmPads := .of_eq (by simp)
  refine (before.trans (State.closeWindows_archiveKept h s.disarmPads)).trans (.of_eq ?_)
  simp [State.endHeat]

theorem State.overtime_archiveKept (s : State) : s.archiveKept s.overtime := by
  unfold State.overtime
  split
  · exact .of_eq rfl
  · refine .trans ?_ (State.endHeat_archiveKept ..)
    exact .of_eq rfl

theorem State.endIfDone_archiveKept (h : HeatRecord) (s : State) : s.archiveKept (s.endIfDone h) := by
  unfold State.endIfDone
  split
  · exact State.endHeat_archiveKept ..
  · exact .of_eq rfl

theorem State.windowTimeout_archiveKept (lane : Lane) (s : State) :
    s.archiveKept (s.windowTimeout lane) := by
  unfold State.windowTimeout
  split
  · exact .of_eq rfl
  · exact (State.closeWindow_archiveKept ..).trans (State.endIfDone_archiveKept ..)

theorem State.limitHeat_archiveKept (s : State) : s.archiveKept s.limitHeat := by
  unfold State.limitHeat
  split
  · exact .of_eq (by simp)
  · exact State.endHeat_archiveKept ..
  · exact .of_eq rfl

theorem State.reachLimit_archiveKept (s : State) : s.archiveKept s.reachLimit := by
  have before : s.archiveKept s.stopTimebase := .of_eq (by simp)
  refine (before.trans (State.limitHeat_archiveKept s.stopTimebase)).trans (.of_eq ?_)
  simp [State.reachLimit]

theorem State.recallHeat_archiveKept (h : HeatRecord) (stamp : Nat) (cause : HeatCause) (s : State) :
    s.archiveKept (s.recallHeat h stamp cause) := by
  simp [State.recallHeat, State.archiveKept]

theorem State.sample_frame (lane : Lane) (reading : Reading) (time : Nat) (s : State) :
    (s.sample lane reading time).power = s.power ∧ (s.sample lane reading time).clock = s.clock ∧
      (s.sample lane reading time).timebase = s.timebase ∧ (s.sample lane reading time).heat = s.heat ∧
      (s.sample lane reading time).wall = s.wall ∧ (s.sample lane reading time).placing = s.placing ∧
      (s.sample lane reading time).board = s.board ∧ (s.sample lane reading time).store = s.store := by
  unfold State.sample State.probeSample State.heatSample
  dsimp only
  repeat' split
  all_goals simp

theorem State.restOfSweep_frame (readings : Vector Reading 10) (s : State) :
    (s.restOfSweep readings).power = s.power ∧ (s.restOfSweep readings).clock = s.clock ∧
      (s.restOfSweep readings).timebase = s.timebase ∧ (s.restOfSweep readings).heat = s.heat ∧
      (s.restOfSweep readings).wall = s.wall ∧ (s.restOfSweep readings).lanes = s.lanes ∧
      (s.restOfSweep readings).placing = s.placing ∧ (s.restOfSweep readings).board = s.board ∧
      (s.restOfSweep readings).store = s.store := by
  have kept : ∀ {γ : Type} (g : State → γ), (∀ (s : State) lane, g (s.takeProbeReading lane readings[lane]) = g s) →
      g (allLanes.foldl (fun s lane => s.takeProbeReading lane readings[lane]) s) = g s :=
    fun g hg => foldl_kept g _ hg _ _
  unfold State.restOfSweep
  simp only [State.endProbe_frame]
  refine ⟨kept _ ?_, kept _ ?_, kept _ ?_, kept _ ?_, kept _ ?_, kept _ ?_, kept _ ?_, kept _ ?_, kept _ ?_⟩ <;> simp

theorem State.settled_frame (zero full : Reading) (s : State) :
    (s.settled zero full).power = s.power ∧ (s.settled zero full).clock = s.clock ∧
      (s.settled zero full).timebase = s.timebase ∧ (s.settled zero full).wall = s.wall ∧
      (s.settled zero full).placing = s.placing ∧ (s.settled zero full).board = s.board ∧
      (s.settled zero full).store = s.store := by
  unfold State.settled State.probeTested State.heatTest State.keepTest State.enterFault
  dsimp only
  repeat' split
  all_goals simp

/-! ### Between resets the lock and the clock go forward only -/

/-- The part runs, its results lock is set when that of `s` is, and its clock is not behind. -/
def State.GoesOn (s t : State) : Prop :=
  t.power = .running ∧ (s.placing.locked = true → t.placing.locked = true) ∧ s.clock ≤ t.clock

theorem State.GoesOn.of_frame {s t u : State} (h : s.GoesOn t) (hp : u.power = t.power)
    (hc : u.clock = t.clock) (ha : u.placing.locked = t.placing.locked) : s.GoesOn u := by
  obtain ⟨h1, h2, h3⟩ := h
  exact ⟨hp.trans h1, fun h => ha.trans (h2 h), hc ▸ h3⟩

/-- Every effect keeps the part running, the lock and the clock; only the master-time limit moves the
clock. -/
theorem State.Effect.goesOn {s t : State} (e : s.Effect t) : t.power = s.power ∧
    t.placing.locked = s.placing.locked ∧ s.clock ≤ t.clock := by
  cases e
  case overtime => simp [(State.overtime_archiveKept s).fields]
  case reachLimit =>
    refine ⟨by simp, (State.reachLimit_archiveKept s).fields.2.1, ?_⟩
    simp [State.reachLimit, State.stopTimebase, State.limitHeat]
    repeat' split
    all_goals simp
  case windowTimeout lane =>
    refine ⟨?_, (State.windowTimeout_archiveKept lane s).fields.2.1, le_of_eq ?_⟩ <;>
      (unfold State.windowTimeout; split <;> simp)
  case recalls level stamp h _ _ =>
    simp [State.putRecallLine, (State.recallHeat_archiveKept _ _ _ _).fields]
  case sample lane reading time => simp [State.sample_frame]
  case restOfSweep readings => simp [State.restOfSweep_frame]
  case settled zero full => simp [State.settled_frame]
  case padEdge pad level stamp =>
    unfold State.padEdge
    cases level <;> simp
  case buttonEdge lane button level stamp =>
    unfold State.buttonEdge
    cases level <;> simp
  case levelWaitEnds =>
    unfold State.levelWaitEnds
    split <;> simp
  case levelDriveEnds =>
    unfold State.levelDriveEnds
    split <;> simp
  case writeEnds =>
    unfold State.writeEnds
    split <;> simp
  case slotComes =>
    unfold State.slotComes
    split <;> simp
  all_goals simp [State.putSetLine, State.putStartLine, State.putRecallLine, State.boardLineFree,
    State.holdEnds]

end Sys2Proof.Machine

/-!
PROOFS. What executing a request can do, said once: refused it changes nothing, accepted it has one of the
effects below, with what its checks have found.
-/

namespace Sys2Proof.Machine

/-- The effects of accepted requests on the state they are executed in, with what their checks have found
(R176). -/
inductive State.Accepted (s : State) : State → Prop where
  | query : s.Accepted s
  | loadCurrent (h : HeatRecord) (idle : s.heat.race = .idle) :
      s.Accepted (s.setCurrent (some h) .load)
  | loadQueued (h : HeatRecord) (busy : s.heat.race ≠ .idle) (room : s.heat.queue.length < 4) :
      s.Accepted { s with heat := { s.heat with queue := s.heat.queue ++ [h] } }
  | withdrawQueued (i : Nat) :
      s.Accepted { s with heat := { s.heat with queue := s.heat.queue.eraseIdx i } }
  | withdrawCurrent (loaded : s.heat.race = .loaded) : s.Accepted (s.promote .withdraw)
  | arm (h : HeatRecord) (loaded : s.heat.race = .loaded) (current : s.heat.current = some h)
      (configured : s.configured = true) (locked : s.timebase.state = .locked)
      (free : s.busy = false) : s.Accepted (s.armHeat h)
  | disarm (armed : s.heat.race = .armed) : s.Accepted (s.disarmHeat .disarm)
  | start (h : HeatRecord) (armed : s.heat.race = .armed) (current : s.heat.current = some h) :
      s.Accepted (s.startHeat h s.masterTime .startRequest)
  | recalls (h : HeatRecord) (running : s.heat.race = .running) (current : s.heat.current = some h) :
      s.Accepted (s.recallHeat h s.masterTime .recallRequest)
  | endHeat (h : HeatRecord) (running : s.heat.race = .running) (current : s.heat.current = some h) :
      s.Accepted (s.endHeat h .endRequest)
  | closeLane (h : HeatRecord) (lane : Lane) (running : s.heat.race = .running)
      (current : s.heat.current = some h) :
      s.Accepted (State.endIfDone h (State.settlePending h lane .laneClosed (State.notOnPlatform lane
        (s.updLane lane fun r => { r with status := .closed, window := none }))))
  | nextHeat (official : s.heat.race = .official) :
      s.Accepted (State.promote .nextHeat { s with
        lanes := tab fun lane => .cleared .idle (s.lanes[lane]).label
        placing := { s.placing with order := [], linked := false }
        board := { s.board with hold := .none, frozen := none } })
  | amend (kind : AmendKind) (lane : Lane) (time : Nat) : s.Accepted (s.amend kind lane time).state
  | officialise (h : HeatRecord) (judging : s.heat.race = .judging) (current : s.heat.current = some h) :
      s.Accepted (State.notifyHeat .judging .officialise
        { s.appendEntry h with heat := { s.heat with race := .official } })
  | lock : s.Accepted { s with placing := { s.placing with locked := true } }
  | clear : s.Accepted (s.setArchive [] false)
  | board (b : Board) : s.Accepted { s with board := b }
  | acquire (free : s.armedOrRunning = false) :
      s.Accepted (s.enterAcquiring.notifyTimebase s.timebase.state .restartRequest)
  | write (p : Profile) (free : s.armedOrRunning = false) : s.Accepted (s.startWrite p false)
  | level (p : Profile) (free : s.armedOrRunning = false) :
      s.Accepted (State.nextTurn (installedPads p) { s with wall := { s.wall with results := [] } })
  | probe (tag : Byte) (free : s.armedOrRunning = false) :
      s.Accepted { s.powerScanner with scanner :=
        { s.powerScanner.scanner with
          probe := some tag, probeTest := none, probeReadings := tab fun _ => none } }
  | restart : s.Accepted { s with link := { s.link with restarting := true } }

/-- What the execution of a request gives: a refusal and the state as it was, or an accepted effect with its
reply; an accepted PROBE_BLOCKS has none yet (R176, R177). -/
inductive State.Handles (s : State) (r : Request) : Handled → Prop where
  | refused (d : Denial) : s.Handles r (s.deny d)
  | accepted {t : State} (c : Content) (h : s.Accepted t) : s.Handles r (t.accept c)
  | awaited {t : State} (h : s.Accepted t) (kind : r.kind = .probeBlocks)
      (probe : t.scanner.probe = some r.tag) : s.Handles r ⟨t, none⟩

theorem State.not_armedOrRunning {s : State} (h : s.heat.race = .idle ∨ s.heat.race = .loaded) :
    s.armedOrRunning = false := by
  rcases h with h | h <;> simp [State.armedOrRunning, h]

section

variable (s : State) (p : List Byte)

theorem State.handleLoadHeat_handles (tag : Byte) :
    s.Handles ⟨.loadHeat, tag, p⟩ (s.handleLoadHeat p) := by
  unfold State.handleLoadHeat
  split
  · exact .refused _
  split
  · exact .refused _
  dsimp only
  split
  · exact .refused _
  split
  · next hi => exact .accepted _ (.loadCurrent _ hi)
  · next hi =>
    split
    · exact .refused _
    · next hq => exact .accepted _ (.loadQueued _ hi (by simpa [Config.queueMax] using hq))

theorem State.handleWithdrawHeat_handles (tag : Byte) :
    s.Handles ⟨.withdrawHeat, tag, p⟩ (s.handleWithdrawHeat p) := by
  unfold State.handleWithdrawHeat
  split
  · exact .refused _
  dsimp only
  split
  · exact .accepted _ (.withdrawQueued _)
  split
  · split
    · next hl => exact .accepted _ (.withdrawCurrent hl)
    · exact .refused _
  · exact .refused _

theorem State.handleQueryQueue_handles (tag : Byte) :
    s.Handles ⟨.queryQueue, tag, p⟩ (s.handleQueryQueue p) := by
  unfold State.handleQueryQueue
  split
  · exact .accepted _ .query
  · split
    · split
      · exact .refused _
      · exact .accepted _ .query
    · split
      · exact .refused _
      · exact .accepted _ .query
  · exact .refused _

theorem State.handleArm_handles (tag : Byte) : s.Handles ⟨.arm, tag, p⟩ (s.handleArm p) := by
  unfold State.handleArm
  split
  · exact .refused _
  split
  · exact .refused _
  next q hp =>
  split
  · exact .refused _
  next h hc =>
  split
  · exact .refused _
  next hl =>
  split
  · exact .refused _
  split
  · exact .refused _
  next ht =>
  split
  · exact .refused _
  next hb =>
  split
  · exact .refused _
  · exact .accepted _ (.arm h (by simpa using hl) hc (by simp [State.configured, hp]) (by simpa using ht)
      (by simpa using hb))

theorem State.handleDisarm_handles (tag : Byte) : s.Handles ⟨.disarm, tag, p⟩ (s.handleDisarm p) := by
  unfold State.handleDisarm
  split
  · exact .refused _
  split
  · exact .refused _
  · next ha => exact .accepted _ (.disarm (by simpa using ha))

theorem State.handleStart_handles (tag : Byte) : s.Handles ⟨.start, tag, p⟩ (s.handleStart p) := by
  unfold State.handleStart
  split
  · exact .refused _
  split
  · exact .refused _
  next ha =>
  split
  · exact .refused _
  split
  · exact .refused _
  · next h hc => exact .accepted _ (.start h (by simpa using ha) hc)

theorem State.handleRecall_handles (tag : Byte) : s.Handles ⟨.recall, tag, p⟩ (s.handleRecall p) := by
  unfold State.handleRecall
  split
  · exact .refused _
  split
  · exact .refused _
  next hr =>
  split
  · exact .refused _
  split
  · exact .refused _
  · next h hc => exact .accepted _ (.recalls h (by simpa using hr) hc)

theorem State.handleEndHeat_handles (tag : Byte) : s.Handles ⟨.endHeat, tag, p⟩ (s.handleEndHeat p) := by
  unfold State.handleEndHeat
  split
  · exact .refused _
  split
  · exact .refused _
  next hr =>
  split
  · exact .refused _
  · next h hc => exact .accepted _ (.endHeat h (by simpa using hr) hc)

theorem State.handleCloseLane_handles (tag : Byte) :
    s.Handles ⟨.closeLane, tag, p⟩ (s.handleCloseLane p) := by
  unfold State.handleCloseLane
  split
  · split
    · exact .refused _
    split
    · exact .refused _
    next hr =>
    dsimp only
    split
    · exact .refused _
    next h hc =>
    split
    · exact .refused _
    · exact .accepted _ (.closeLane h _ (by simpa using hr) hc)
  · exact .refused _

theorem State.handleNextHeat_handles (tag : Byte) :
    s.Handles ⟨.nextHeat, tag, p⟩ (s.handleNextHeat p) := by
  unfold State.handleNextHeat
  split
  · exact .refused _
  split
  · exact .refused _
  · next ho => exact .accepted _ (.nextHeat (by simpa using ho))

theorem State.handleAmend_handles (tag : Byte) : s.Handles ⟨.amend, tag, p⟩ (s.handleAmend p) := by
  unfold State.handleAmend
  split
  · split
    · exact .refused _
    dsimp only
    split
    · exact .refused _
    · exact .accepted _ (.amend ..)
  · exact .refused _

theorem State.handleOfficialise_handles (tag : Byte) :
    s.Handles ⟨.officialise, tag, p⟩ (s.handleOfficialise p) := by
  unfold State.handleOfficialise
  split
  · exact .refused _
  split
  · exact .refused _
  next hj =>
  split
  · exact .refused _
  next h hc =>
  split
  · exact .accepted _ (.officialise h (by simpa using hj) hc)
  · exact .refused _

theorem State.handleBoardMode_handles (tag : Byte) :
    s.Handles ⟨.boardMode, tag, p⟩ (s.handleBoardMode p) := by
  have setMode : ∀ mode : RefreshMode, s.Handles ⟨.boardMode, tag, p⟩
      (if s.configured = false then s.deny .notConfigured
      else if s.board.mode = some mode then s.accept (.boardMode (some mode))
      else
        State.accept (.boardMode (some mode))
          (if s.board.test then { s with board := { s.board with mode := some mode } }
          else s.changeMode mode)) := fun mode => by
    split
    · exact .refused _
    split
    · exact .accepted _ .query
    split
    · exact .accepted _ (.board _)
    · exact .accepted _ (.board _)
  unfold State.handleBoardMode
  dsimp only
  split
  · split
    · exact setMode _
    split
    · exact setMode _
    · exact .refused _
  · exact .refused _

theorem State.handleBoardTest_handles (tag : Byte) :
    s.Handles ⟨.boardTest, tag, p⟩ (s.handleBoardTest p) := by
  unfold State.handleBoardTest
  split
  · split
    · split
      · exact .refused _
      split
      · exact .accepted _ (.board _)
      · exact .accepted _ .query
    split
    · split
      · exact .refused _
      split
      · exact .refused _
      split
      · exact .accepted _ .query
      · exact .accepted _ (.board _)
    · exact .refused _
  · exact .refused _

theorem State.handleBoardText_handles (tag : Byte) :
    s.Handles ⟨.boardText, tag, p⟩ (s.handleBoardText p) := by
  unfold State.handleBoardText
  split
  · exact .refused _
  split
  · exact .refused _
  split
  · exact .refused _
  · exact .accepted _ (.board _)

theorem State.handleTimebaseRestart_handles (tag : Byte) :
    s.Handles ⟨.timebaseRestart, tag, p⟩ (s.handleTimebaseRestart p) := by
  unfold State.handleTimebaseRestart
  split
  · exact .refused _
  split
  · exact .refused _
  next ha =>
  split
  · exact .refused _
  · exact .accepted _ (.acquire (by simpa using ha))

theorem State.handleProfileWrite_handles (tag : Byte) :
    s.Handles ⟨.profileWrite, tag, p⟩ (s.handleProfileWrite p) := by
  unfold State.handleProfileWrite
  split
  · exact .refused _
  split
  · exact .refused _
  next ha =>
  split
  · exact .refused _
  split
  · exact .refused _
  · exact .accepted _ (.write _ (by simpa using ha))

theorem State.handleLevelPads_handles (tag : Byte) :
    s.Handles ⟨.levelPads, tag, p⟩ (s.handleLevelPads p) := by
  unfold State.handleLevelPads
  split
  · exact .refused _
  split
  · exact .refused _
  split
  · exact .refused _
  split
  · exact .refused _
  next hr =>
  split
  · exact .refused _
  split
  · exact .refused _
  · exact .accepted _ (.level _ (State.not_armedOrRunning (not_not.mp hr)))

theorem State.handleProbeBlocks_handles (tag : Byte) :
    s.Handles ⟨.probeBlocks, tag, p⟩ (s.handleProbeBlocks tag p) := by
  unfold State.handleProbeBlocks
  split
  · exact .refused _
  split
  · exact .refused _
  split
  · exact .refused _
  next hr =>
  split
  · exact .refused _
  split
  · exact .refused _
  · exact .awaited (.probe tag (State.not_armedOrRunning (not_not.mp hr))) rfl rfl

/-- The requests that only read, or that no state refuses but for its payload, and ARCHIVE_CLEAR. -/
theorem State.handleQueries_handles (r : Request) :
    s.Handles r (s.handleLockResults p) ∧ s.Handles r (s.handleStatus p) ∧
      s.Handles r (s.handleQueryLane p) ∧ s.Handles r (s.handleQueryArchive p) ∧
      s.Handles r (s.handleArchiveClear p) ∧ s.Handles r (s.handleProfileRead p) ∧
      s.Handles r (s.handleRestart p) := by
  refine ⟨?_, ?_, ?_, ?_, ?_, ?_, ?_⟩
  · unfold State.handleLockResults
    split
    · exact .refused _
    · exact .accepted _ .lock
  · unfold State.handleStatus
    split
    · exact .refused _
    · exact .accepted _ .query
  · unfold State.handleQueryLane
    repeat' split
    · exact .refused _
    · exact .refused _
    · exact .accepted _ .query
    · exact .refused _
  · unfold State.handleQueryArchive
    repeat' split
    · exact .refused _
    · exact .accepted _ .query
    · exact .refused _
  · unfold State.handleArchiveClear
    repeat' split
    · exact .refused _
    · exact .refused _
    · exact .accepted _ .clear
  · unfold State.handleProfileRead
    repeat' split
    · exact .refused _
    · exact .refused _
    · exact .accepted _ .query
  · unfold State.handleRestart
    split
    · exact .refused _
    · exact .accepted _ .restart

/-- The execution of every request is one of these. -/
theorem State.handle_handles (r : Request) : s.Handles r (s.handle r) := by
  obtain ⟨kind, tag, p⟩ := r
  obtain ⟨lock, status, lane, archive, clear, profile, restart⟩ :=
    s.handleQueries_handles p ⟨kind, tag, p⟩
  match kind with
  | .loadHeat => exact s.handleLoadHeat_handles p tag
  | .withdrawHeat => exact s.handleWithdrawHeat_handles p tag
  | .queryQueue => exact s.handleQueryQueue_handles p tag
  | .arm => exact s.handleArm_handles p tag
  | .disarm => exact s.handleDisarm_handles p tag
  | .start => exact s.handleStart_handles p tag
  | .recall => exact s.handleRecall_handles p tag
  | .endHeat => exact s.handleEndHeat_handles p tag
  | .closeLane => exact s.handleCloseLane_handles p tag
  | .nextHeat => exact s.handleNextHeat_handles p tag
  | .amend => exact s.handleAmend_handles p tag
  | .officialise => exact s.handleOfficialise_handles p tag
  | .boardMode => exact s.handleBoardMode_handles p tag
  | .boardTest => exact s.handleBoardTest_handles p tag
  | .boardText => exact s.handleBoardText_handles p tag
  | .timebaseRestart => exact s.handleTimebaseRestart_handles p tag
  | .profileWrite => exact s.handleProfileWrite_handles p tag
  | .levelPads => exact s.handleLevelPads_handles p tag
  | .probeBlocks => exact s.handleProbeBlocks_handles p tag
  | .lockResults => exact lock
  | .status => exact status
  | .queryLane => exact lane
  | .queryArchive => exact archive
  | .archiveClear => exact clear
  | .profileRead => exact profile
  | .restart => exact restart

end

/-- The state behind an execution is the one before it, or that of an accepted effect. -/
theorem State.handle_state (r : Request) (s : State) : s.Accepted (s.handle r).state := by
  generalize hh : s.handle r = h
  have := s.handle_handles r
  rw [hh] at this
  cases this with
  | refused d => exact .query
  | accepted c h => exact h
  | awaited h _ _ => exact h

/-- Settles O37: a refusal is answered on the state itself, and only an accepted PROBE_BLOCKS has no
answer yet. -/
theorem requestsAreRefusedWhole : Obligations.RequestsAreRefusedWhole := by
  refine ⟨fun r s d hd => ?_, fun r s hn => ?_⟩
  · have := s.handle_handles r
    generalize s.handle r = h at this hd ⊢
    cases this with
    | refused d' => rfl
    | accepted c h => simp at hd
    | awaited h _ _ => simp at hd
  · have := s.handle_handles r
    generalize s.handle r = h at this hn ⊢
    cases this with
    | refused d' => simp at hn
    | accepted c h => simp at hn
    | awaited h kind probe => exact ⟨kind, probe⟩

/-! ### No request clears the lock -/

theorem State.revise_locked (lane : Lane) (s : State) :
    (s.revise lane).placing.locked = s.placing.locked := by
  unfold State.revise
  dsimp only
  repeat' split
  all_goals simp

theorem State.amendChange_archiveKept (kind : AmendKind) (lane : Lane) (time : Nat) (s : State) :
    s.archiveKept (s.amendChange kind lane time) := by
  unfold State.archiveKept State.amendChange State.amendTime State.amendDq State.amendReinstate
    State.amendClearReview
  cases kind
  all_goals dsimp only
  all_goals repeat' split
  all_goals simp

theorem State.amend_locked (kind : AmendKind) (lane : Lane) (time : Nat) (s : State) :
    (s.amend kind lane time).state.placing.locked = s.placing.locked := by
  simp [State.amend, State.revise_locked, (State.amendChange_archiveKept kind lane time s).fields]

/-- No request clears the results lock (R152). -/
theorem State.Accepted.locked {s t : State} (e : s.Accepted t) (hl : s.placing.locked = true) :
    t.placing.locked = true := by
  cases e
  case endHeat h _ _ => rw [(State.endHeat_archiveKept ..).fields.2.1, hl]
  case closeLane h lane _ _ => rw [(State.endIfDone_archiveKept ..).fields.2.1]; simpa using hl
  case recalls h _ _ => rw [(State.recallHeat_archiveKept ..).fields.2.1, hl]
  case amend kind lane time => rw [State.amend_locked, hl]
  case officialise h _ _ => simpa [State.appendEntry] using hl
  case lock => rfl
  all_goals simpa using hl

/-- A running part goes on, whatever it does but reset. -/
theorem State.goesOn_kept (s : State) : Kept s.GoesOn s.GoesOn where
  begins := id
  ends := fun h => h.of_frame (by simp) (by simp) (by simp)
  reply := fun _ h => h.of_frame rfl rfl rfl
  clock := fun m ⟨h1, h2, h3⟩ => ⟨h1, h2, h3.trans (State.le_advance_clock m _)⟩
  queue := fun _ h => h.of_frame rfl rfl rfl
  link := fun h m => by
    rw [m.others]
    exact h.of_frame rfl rfl rfl
  effect := fun ⟨h1, h2, h3⟩ e => by
    obtain ⟨e1, e2, e3⟩ := e.goesOn
    exact ⟨e1.trans h1, fun h => e2.trans (h2 h), h3.trans e3⟩
  handle := fun {u} r ⟨h1, h2, h3⟩ => by
    obtain ⟨hp, -, hc, -⟩ := State.handle_frame r u
    exact ⟨hp.trans h1, fun h => (State.handle_state r u).locked (h2 h), hc ▸ h3⟩

/-- A part that runs before a step and behind it has gone on. -/
theorem step_goesOn {s t : State} (hr : s.isRunning = true) (hs : step s = .next t)
    (ht : t.isRunning = true) : s.GoesOn t := by
  rcases s.goesOn_kept.step ⟨by simpa [State.isRunning] using hr, id, le_rfl⟩ hr hs with
    h | ⟨u, power, -, hp, rfl⟩
  · exact h
  · exact absurd (by simpa [State.isRunning, State.cutShort] using ht) hp

/-- Settles O60: a step that is no reset keeps the lock set and the clock where it is or ahead. -/
theorem lockAndMasterTimeNeverGoBack : Obligations.LockAndMasterTimeNeverGoBack :=
  ⟨fun _ _ hr hl hs ht => (step_goesOn hr hs ht).2.1 hl,
    fun _ _ hr hs ht => min_le_min_right _ (step_goesOn hr hs ht).2.2⟩

end Sys2Proof.Machine

/-!
PROOFS. Which notices an operation makes, said once for each: `s.Makes p t` says that what stands between
`s` and `t` of the console link is notices of the present whose content is `p`, and replies.
-/

namespace Sys2Proof.Machine

/-! ### Notices one behind the other -/

/-- A notice joins the queue: `State.notify` at the link (R180). -/
def Link.note (n : Notice) (l : Link) : Link :=
  if l.notices.length < Config.noticeMax then { l with fresh := l.fresh + 1, notices := l.notices ++ [n] }
  else { l with fresh := l.fresh + 1, notices := l.notices.drop 1 ++ [n], gap := true }

theorem State.notify_eq (b : NoticeBody) (s : State) :
    s.notify b = { s with link := s.link.note ⟨s.masterTime, b⟩ } := by
  unfold State.notify Link.note
  dsimp only
  split <;> rfl

/-- Notices join the queue in their order. -/
def Link.noteAll (ns : List Notice) (l : Link) : Link := ns.foldl (fun l n => l.note n) l

@[simp] theorem Link.noteAll_nil (l : Link) : l.noteAll [] = l := rfl

@[simp] theorem Link.noteAll_cons (n : Notice) (ns : List Notice) (l : Link) :
    l.noteAll (n :: ns) = (l.note n).noteAll ns := rfl

@[simp] theorem Link.noteAll_append (ns ms : List Notice) (l : Link) :
    l.noteAll (ns ++ ms) = (l.noteAll ns).noteAll ms := List.foldl_append ..

theorem Link.note_replies (n : Notice) (l : Link) (rs : List Reply) :
    ({ l with replies := rs } : Link).note n = { l.note n with replies := rs } := by
  unfold Link.note
  dsimp only
  split <;> rfl

theorem Link.noteAll_replies (ns : List Notice) (l : Link) (rs : List Reply) :
    ({ l with replies := rs } : Link).noteAll ns = { l.noteAll ns with replies := rs } := by
  induction ns generalizing l with
  | nil => rfl
  | cons n ns ih => rw [Link.noteAll_cons, Link.note_replies, ih]; rfl

/-- What stands between `s` and `t` of the link is notices, whose content is `p`, and replies. -/
def State.Makes (p : NoticeBody → Prop) (s t : State) : Prop :=
  t.clock = s.clock ∧ ∃ bodies : List NoticeBody, (∀ b ∈ bodies, p b) ∧
    t.link = { s.link.noteAll (bodies.map (Notice.mk s.masterTime)) with replies := t.link.replies }

theorem State.Makes.nothing {p : NoticeBody → Prop} {s t : State} (hc : t.clock = s.clock)
    (hl : t.link = s.link) : s.Makes p t :=
  ⟨hc, [], by simp, by simp [hl]⟩

@[refl] theorem State.Makes.refl {p : NoticeBody → Prop} (s : State) : s.Makes p s := .nothing rfl rfl

theorem State.Makes.mono {p q : NoticeBody → Prop} {s t : State} (h : s.Makes p t)
    (hpq : ∀ b, p b → q b) : s.Makes q t := by
  obtain ⟨hc, bodies, hb, hl⟩ := h
  exact ⟨hc, bodies, fun b hm => hpq b (hb b hm), hl⟩

theorem State.Makes.any {p : NoticeBody → Prop} {s t : State} (h : s.Makes p t) :
    s.Makes (fun _ => True) t := h.mono fun _ _ => trivial

theorem State.Makes.trans {p : NoticeBody → Prop} {s t u : State} (h : s.Makes p t)
    (h' : t.Makes p u) : s.Makes p u := by
  obtain ⟨hc, bodies, hb, hl⟩ := h
  obtain ⟨hc', bodies', hb', hl'⟩ := h'
  have hm : t.masterTime = s.masterTime := by unfold State.masterTime; rw [hc]
  refine ⟨hc'.trans hc, bodies ++ bodies', by simp only [List.mem_append]; grind, ?_⟩
  rw [hl', hl, hm, Link.noteAll_replies, List.map_append, Link.noteAll_append]

theorem State.Makes.notify {p : NoticeBody → Prop} {b : NoticeBody} (hb : p b) (s : State) :
    s.Makes p (s.notify b) :=
  ⟨by simp, [b], by simpa, by simp [State.notify_eq, Link.noteAll]⟩

theorem State.Makes.thenNotify {p : NoticeBody → Prop} {s t : State} (h : s.Makes p t) {b : NoticeBody}
    (hb : p b) : s.Makes p (t.notify b) := h.trans (.notify hb t)

/-- What changes neither the clock nor the link may come before. -/
theorem State.Makes.behind {p : NoticeBody → Prop} {s t u : State} (h : t.Makes p u)
    (hc : t.clock = s.clock) (hl : t.link = s.link) : s.Makes p u := .trans (.nothing hc hl) h

theorem State.Makes.behindLane {p : NoticeBody → Prop} {s t : State} {lane : Lane}
    {f : LaneRecord → LaneRecord} (h : s.Makes p t) : s.Makes p (t.updLane lane f) :=
  h.trans (.nothing rfl rfl)

theorem State.Makes.foldl {α : Type} {p : NoticeBody → Prop} {f : State → α → State}
    (hf : ∀ s a, State.Makes p s (f s a)) (l : List α) (s : State) : s.Makes p (l.foldl f s) := by
  induction l generalizing s with
  | nil => exact .refl s
  | cons a l ih => exact (hf s a).trans (ih _)

theorem State.Makes.pushReply {p : NoticeBody → Prop} (r : Reply) (s : State) :
    s.Makes p (s.pushReply r) := ⟨rfl, [], by simp, rfl⟩

/-! ### The bounds of the link -/

@[simp] theorem Link.noteAll_rest (ns : List Notice) (l : Link) :
    (l.noteAll ns).held = l.held ∧ (l.noteAll ns).lastByte = l.lastByte ∧
      (l.noteAll ns).discards = l.discards ∧ (l.noteAll ns).buffer = l.buffer ∧
      (l.noteAll ns).replies = l.replies ∧ (l.noteAll ns).line = l.line ∧
      (l.noteAll ns).restarting = l.restarting ∧ (l.noteAll ns).fresh = l.fresh + ns.length := by
  induction ns generalizing l with
  | nil => simp
  | cons n ns ih =>
    have h : l.note n = { l with
        notices := (l.note n).notices, gap := (l.note n).gap, fresh := l.fresh + 1 } := by
      unfold Link.note
      split <;> rfl
    rw [Link.noteAll_cons]
    simp only [ih]
    rw [h]
    simp only [List.length_cons, true_and]
    omega

theorem Link.noteAll_bound (ns : List Notice) (l : Link) (h : l.notices.length ≤ 64) :
    (l.noteAll ns).notices.length ≤ 64 := by
  induction ns generalizing l with
  | nil => exact h
  | cons n ns ih =>
    refine ih _ ?_
    dsimp only [Link.note]
    split
    · next hl => simpa [Config.noticeMax] using hl
    · next hl =>
      simp only [Config.noticeMax] at hl
      simp
      omega

/-! ### The timebase, the probe and leveling -/

/-- A TIMEBASE notice. -/
def NoticeBody.isTimebase (b : NoticeBody) : Prop := b.endStep = 7

theorem State.enterLocked_makes (cause : TimebaseCause) (s : State) :
    s.Makes NoticeBody.isTimebase (s.enterLocked cause) :=
  .behind (.notify (by exact rfl) _) rfl rfl

theorem State.holdoverReturn_makes (s : State) : s.Makes NoticeBody.isTimebase s.holdoverReturn := by
  unfold State.holdoverReturn
  split
  · exact s.enterLocked_makes _
  · exact .refl s

theorem State.goodWindowEnd_makes (s : State) : s.Makes NoticeBody.isTimebase s.goodWindowEnd := by
  unfold State.goodWindowEnd
  dsimp only
  split
  · exact (State.enterLocked_makes _ _).behind rfl rfl
  · exact (State.holdoverReturn_makes _).behind rfl rfl

theorem State.badWindowEnd_makes (s : State) : s.Makes NoticeBody.isTimebase s.badWindowEnd := by
  unfold State.badWindowEnd
  dsimp only
  split
  · exact .behind (.notify (by exact rfl) _) rfl rfl
  · exact .nothing rfl rfl

theorem State.changeSource_makes (source : TimeSource) (s : State) :
    s.Makes NoticeBody.isTimebase (s.changeSource source) := by
  unfold State.changeSource
  dsimp only
  repeat' split
  · exact .refl s
  · exact .nothing rfl rfl
  · exact .behind (.notify (by exact rfl) _) rfl rfl

theorem State.endProbe_makes (complete : Bool) (s : State) {p : NoticeBody → Prop} :
    s.Makes p (s.endProbe complete) := by
  unfold State.endProbe
  split
  · exact .refl s
  · exact (State.Makes.pushReply _ s).trans (.nothing rfl rfl)

theorem State.abandonLeveling_makes (s : State) :
    s.Makes (fun b => b = .levelDone false s.wall.results) s.abandonLeveling := by
  unfold State.abandonLeveling
  split
  · exact .behind (.notify (by exact rfl) _) rfl rfl
  · exact .refl s

theorem State.completeWrite_makes (w : StoreWrite) (s : State) :
    s.Makes (fun _ => True) (s.completeWrite w) := by
  have board : ∀ (t : State) (b : Board), s.Makes (fun _ => True) (t.changeSource w.profile.source) →
      s.Makes (fun _ => True) { t.changeSource w.profile.source with board := b } :=
    fun _ _ h => h.trans (.nothing rfl rfl)
  unfold State.completeWrite
  dsimp only
  split <;> split
  all_goals
    refine board _ _ (.trans ?_ (State.changeSource_makes _ _).any)
    exact .behind (.notify trivial _) rfl rfl

/-! ### Places -/

/-- A PLACES notice. -/
def NoticeBody.isPlaces : NoticeBody → Prop
  | .places .. => True
  | _ => False

theorem State.notifyPlaces_makes (cause : PlacesCause) (before : Vector LaneRecord 10) (s : State) :
    s.Makes NoticeBody.isPlaces (s.notifyPlaces cause before) := by
  unfold State.notifyPlaces
  split
  · exact .refl s
  · exact .notify trivial s

theorem State.placeFinish_makes (lane : Lane) (official : Nat) (s : State) :
    s.Makes NoticeBody.isPlaces (s.placeFinish lane official) :=
  (State.notifyPlaces_makes _ _ _).behind rfl rfl

/-! ### Reactions and exchanges -/

/-- A REACTION notice. -/
def NoticeBody.isReaction : NoticeBody → Prop
  | .reaction _ => True
  | _ => False

/-- An EXCHANGE notice of a settling cause. -/
def NoticeBody.isExchange (cause : SettleCause) : NoticeBody → Prop
  | .exchange _ _ c _ => c = cause
  | _ => False

theorem State.notifyReactions_makes (lanes : List Lane) (s : State) :
    s.Makes NoticeBody.isReaction (s.notifyReactions lanes) := by
  unfold State.notifyReactions
  split
  · exact .refl s
  · exact .notify trivial s

theorem State.notOnPlatform_makes (lane : Lane) (s : State) :
    s.Makes NoticeBody.isReaction (s.notOnPlatform lane) := by
  unfold State.notOnPlatform
  split
  · exact (State.notifyReactions_makes _ _).behind rfl rfl
  · exact .refl s

theorem State.giveVerdict_makes (h : HeatRecord) (lane : Lane) (record : ExchangeRecord)
    (cause : SettleCause) (s : State) :
    s.Makes (NoticeBody.isExchange cause) (s.giveVerdict h lane record cause) := by
  unfold State.giveVerdict
  dsimp only
  split
  · exact .behind (.notify (by exact rfl) _) rfl rfl
  · exact .nothing rfl rfl

theorem State.settlePending_makes (h : HeatRecord) (lane : Lane) (cause : SettleCause) (s : State) :
    s.Makes (NoticeBody.isExchange cause) (s.settlePending h lane cause) :=
  .foldl (fun s _ => s.giveVerdict_makes ..) _ s

theorem State.evaluateExchange_makes (h : HeatRecord) (lane : Lane) (leg : Nat) (cause : SettleCause)
    (s : State) : s.Makes (NoticeBody.isExchange cause) (s.evaluateExchange h lane leg cause) := by
  unfold State.evaluateExchange
  repeat' split
  · exact .refl s
  · exact s.giveVerdict_makes ..
  · exact .refl s

theorem State.createExchange_makes (h : HeatRecord) (lane : Lane) (leg : Nat) (s : State) :
    s.Makes (NoticeBody.isExchange .scannerFault) (s.createExchange h lane leg) := by
  unfold State.createExchange
  dsimp only
  split
  · exact (State.giveVerdict_makes ..).behind rfl rfl
  · exact .nothing rfl rfl

theorem State.legEndClosed_makes (h : HeatRecord) (lane : Lane) (leg : Nat) (source : OfficialSource)
    (padTime : Option Nat) (cause : SettleCause) (s : State) :
    s.Makes (NoticeBody.isExchange cause) (s.legEndClosed h lane leg source padTime cause) := by
  unfold State.legEndClosed
  split
  · exact .refl s
  · exact (State.evaluateExchange_makes ..).behind rfl rfl

theorem State.judgeTurn_makes (h : HeatRecord) (lane : Lane) (s : State) :
    s.Makes (fun _ => True) (s.judgeTurn h lane) := by
  have settled : s.Makes (fun _ => True) ((s.notOnPlatform lane).settlePending h lane .nextTurn) :=
    (s.notOnPlatform_makes lane).any.trans (State.settlePending_makes ..).any
  unfold State.judgeTurn
  dsimp only
  split
  · exact settled.trans (State.createExchange_makes ..).any
  · exact settled

theorem State.takeDeparture_makes (h : HeatRecord) (lane : Lane) (departure : Int) (s : State) :
    s.Makes (fun _ => True) (s.takeDeparture h lane departure) := by
  unfold State.takeDeparture
  dsimp only
  repeat' split
  · exact .nothing rfl rfl
  · exact .refl s
  · exact .refl s
  · exact (State.notifyReactions_makes _ _).any.behind rfl rfl
  · exact (State.evaluateExchange_makes ..).any.behind rfl rfl
  · exact .refl s
  · exact .refl s

theorem State.scannerFault_makes (h : HeatRecord) (s : State) :
    s.Makes NoticeBody.isReaction (s.scannerFault h) := by
  unfold State.scannerFault
  dsimp only
  split
  · exact (State.notifyReactions_makes _ _).behind rfl rfl
  · exact .nothing rfl rfl

/-! ### Turns and finish windows -/

/-- A notice of the derivation of a window: step 2 of the end of a heat (R46). -/
def NoticeBody.ofWindow (b : NoticeBody) : Prop := b.endStep = 2

theorem NoticeBody.isPlaces.ofWindow {b : NoticeBody} (h : b.isPlaces) : b.ofWindow := by
  cases b <;> first | rfl | exact h.elim

theorem NoticeBody.isExchange.ofWindow {b : NoticeBody} (h : b.isExchange .evaluated) : b.ofWindow := by
  cases b with
  | exchange _ _ c _ => cases (show c = .evaluated from h); rfl
  | _ => exact h.elim

/-- A SPLIT notice behind a change of a lane. -/
theorem State.sendSplit_makes (lane : Lane) (f : LaneRecord → LaneRecord) (record : LengthRecord) (leg : Nat)
    (s : State) : s.Makes NoticeBody.ofWindow ((s.updLane lane f).sendSplit lane record leg) :=
  .behind (.notify (b := .split lane record leg) (by exact rfl) _) rfl rfl

theorem State.acceptTurn_makes (h : HeatRecord) (lane : Lane) (time : Nat) (s : State) :
    s.Makes (fun _ => True) (s.acceptTurn h lane time) := by
  unfold State.acceptTurn
  refine .trans ?_ (State.judgeTurn_makes ..)
  exact (s.sendSplit_makes ..).any

theorem State.openWindow_makes (h : HeatRecord) (lane : Lane) (e : Evidence) (s : State) :
    s.Makes NoticeBody.isReaction (s.openWindow h lane e) :=
  (State.notOnPlatform_makes _ _).behind rfl rfl

theorem State.closeLegEnd_makes (h : HeatRecord) (lane : Lane) (w : FinishWindow) (s : State) :
    s.Makes NoticeBody.ofWindow (s.closeLegEnd h lane w) := by
  unfold State.closeLegEnd
  refine .trans ?_ ((State.legEndClosed_makes ..).mono fun _ => NoticeBody.isExchange.ofWindow)
  exact s.sendSplit_makes ..

theorem State.startHold_makes {p : NoticeBody → Prop} (s : State) : s.Makes p s.startHold := by
  unfold State.startHold
  split
  · exact .nothing rfl rfl
  · exact .refl s

theorem State.closeFinal_makes (h : HeatRecord) (lane : Lane) (w : FinishWindow) (cause : CloseCause)
    (s : State) : s.Makes NoticeBody.ofWindow (s.closeFinal h lane w cause) := by
  unfold State.closeFinal
  dsimp only
  split
  · refine .trans ?_ (State.startHold_makes _)
    refine .trans ?_ ((State.placeFinish_makes ..).mono fun _ => NoticeBody.isPlaces.ofWindow)
    exact .behind (.notify (by exact rfl) _) rfl rfl
  · exact .nothing rfl rfl

theorem State.closeWindow_makes (h : HeatRecord) (cause : CloseCause) (lane : Lane) (s : State) :
    s.Makes NoticeBody.ofWindow (s.closeWindow h cause lane) := by
  unfold State.closeWindow
  dsimp only
  repeat' split
  · exact .refl s
  · exact .refl s
  · exact State.closeLegEnd_makes ..
  · exact State.closeFinal_makes ..

theorem State.skip_makes (h : HeatRecord) (lane : Lane) (touch : PadTouch) (s : State) :
    s.Makes (fun _ => True) (s.skip h lane touch) := by
  have turn : s.Makes (fun _ => True) (s.skipTurn h lane touch) := by
    unfold State.skipTurn
    dsimp only
    split
    · refine .trans ?_ (State.acceptTurn_makes ..)
      exact (s.sendSplit_makes ..).any
    · refine .trans ?_ (State.openWindow_makes ..).any
      refine .trans ?_ (State.createExchange_makes ..).any
      refine .trans ?_ (State.notOnPlatform_makes ..).any
      exact (s.sendSplit_makes ..).any.trans (.nothing rfl rfl)
    · refine .trans ?_ (State.openWindow_makes ..).any
      exact (s.sendSplit_makes ..).any.trans (.nothing rfl rfl)
  have legEnd : s.Makes (fun _ => True) (s.skipLegEnd h lane touch) := by
    unfold State.skipLegEnd
    dsimp only
    refine .trans ?_ (State.acceptTurn_makes ..)
    refine .behindLane ?_
    refine .trans ?_ (State.legEndClosed_makes ..).any
    exact (s.sendSplit_makes ..).any
  unfold State.skip
  dsimp only
  repeat' split
  · exact turn
  · exact legEnd
  · exact .refl s
  · exact .refl s

theorem State.takePad_makes (h : HeatRecord) (lane : Lane) (wall : Wall) (touch : PadTouch) (s : State) :
    s.Makes (fun _ => True) (s.takePad h lane wall touch) := by
  unfold State.takePad
  dsimp only
  repeat' split
  · exact .refl s
  · exact s.skip_makes ..
  · exact .nothing rfl rfl
  · exact .refl s
  · exact s.acceptTurn_makes ..
  · exact (s.openWindow_makes ..).any

theorem State.takePress_makes (h : HeatRecord) (lane : Lane) (button : Button) (time : Nat) (s : State) :
    s.Makes (fun _ => True) (s.takePress h lane button time) := by
  unfold State.takePress
  dsimp only
  repeat' split
  · exact .refl s
  · exact .nothing rfl rfl
  · exact .refl s
  · exact (s.openWindow_makes ..).any

/-! ### The wall -/

theorem State.deliverTouch_makes (pad : PadIx) (lead : Nat) (s : State) :
    s.Makes (fun _ => True) (s.deliverTouch pad lead) := by
  unfold State.deliverTouch
  repeat' split
  · exact s.takePad_makes ..
  · exact .refl s
  · exact .refl s

theorem State.qualifyPad_makes (pad : PadIx) (s : State) :
    s.Makes (fun _ => True) (s.qualifyPad pad) := by
  unfold State.qualifyPad
  repeat' split
  · exact (State.deliverTouch_makes ..).behind rfl rfl
  · exact .refl s
  · exact .refl s

theorem State.padEdge_makes (pad : PadIx) (level : Level) (stamp : Nat) (s : State) :
    s.Makes (fun _ => True) (s.padEdge pad level stamp) := by
  have opens : s.Makes (fun _ => True) (s.padOpens pad stamp) := by
    unfold State.padOpens
    repeat' split
    · exact .nothing rfl rfl
    · exact (State.deliverTouch_makes ..).behind rfl rfl
    · exact .nothing rfl rfl
    · exact .nothing rfl rfl
    · exact .nothing rfl rfl
  have hears : ∀ t : State, t.Makes (fun _ => True) (t.levelEdge pad level stamp) :=
    fun t => .nothing (by simp) (by simp)
  unfold State.padEdge
  cases level
  · exact opens.trans (hears _)
  · exact .trans (.nothing (by simp) (by simp)) (hears _)

theorem State.buttonEdge_makes (lane : Lane) (button : Button) (level : Level) (stamp : Nat) (s : State) :
    s.Makes (fun _ => True) (s.buttonEdge lane button level stamp) := by
  have press : ∀ t : State, t.Makes (fun _ => True) (t.deliverPress lane button stamp) := fun t => by
    unfold State.deliverPress
    split
    · exact t.takePress_makes ..
    · exact .refl t
  unfold State.buttonEdge State.buttonCloses
  dsimp only
  repeat' split
  · exact (press _).behind rfl rfl
  · exact .nothing rfl rfl
  · exact .nothing rfl rfl

/-! ### The heat -/

/-- A HEAT_STATE notice: step 6 of the end of a heat. -/
def NoticeBody.isHeatState : NoticeBody → Prop
  | .heatState .. => True
  | _ => False

theorem State.notifyHeat_makes (previous : RaceState) (cause : HeatCause) (s : State) :
    s.Makes NoticeBody.isHeatState (s.notifyHeat previous cause) := .notify trivial s

theorem State.setCurrent_makes (current : Option HeatRecord) (cause : HeatCause) (s : State) :
    s.Makes NoticeBody.isHeatState (s.setCurrent current cause) :=
  (State.notifyHeat_makes ..).behind rfl rfl

theorem State.promote_makes (cause : HeatCause) (s : State) :
    s.Makes NoticeBody.isHeatState (s.promote cause) := by
  unfold State.promote
  split
  · exact s.setCurrent_makes ..
  · exact (State.setCurrent_makes ..).behind rfl rfl

theorem State.armHeat_makes (h : HeatRecord) (s : State) :
    s.Makes NoticeBody.isHeatState (s.armHeat h) := by
  unfold State.armHeat
  dsimp only
  split <;> exact (State.notifyHeat_makes ..).behind rfl rfl

theorem State.disarmHeat_makes (cause : HeatCause) (s : State) :
    s.Makes (fun b => b.isHeatState ∨ b.isTimebase) (s.disarmHeat cause) := by
  unfold State.disarmHeat
  dsimp only
  refine .trans ?_ ((State.holdoverReturn_makes _).mono fun _ => .inr)
  split <;> exact ((State.notifyHeat_makes ..).mono fun _ => .inl).behind rfl rfl

theorem State.startHeat_makes (h : HeatRecord) (stamp : Nat) (cause : HeatCause) (s : State) :
    s.Makes (fun _ => True) (s.startHeat h stamp cause) := by
  unfold State.startHeat
  dsimp only
  refine .trans ?_ (.foldl (fun s _ => s.qualifyPad_makes ..) _ _)
  refine .trans ?_ (State.notifyReactions_makes _ _).any
  exact (State.notifyHeat_makes ..).any.behind rfl rfl

theorem State.recallHeat_makes (h : HeatRecord) (stamp : Nat) (cause : HeatCause) (s : State) :
    s.Makes (fun _ => True) (s.recallHeat h stamp cause) := by
  unfold State.recallHeat
  dsimp only
  refine .trans ?_ (State.notifyHeat_makes ..).any
  exact (State.notifyPlaces_makes ..).any.behind rfl rfl

/-! ### The end of a heat, step by step (R46) -/

theorem State.closeWindows_makes (h : HeatRecord) (s : State) :
    s.Makes NoticeBody.ofWindow (s.closeWindows h) := by
  refine .foldl (fun s lane => ?_) _ s
  dsimp only [State.closeOpen]
  split
  · exact s.closeWindow_makes ..
  · exact .refl s

theorem State.closeLanes_makes (h : HeatRecord) (s : State) :
    s.Makes NoticeBody.isReaction (s.closeLanes h) := by
  refine .foldl (fun s lane => ?_) _ s
  dsimp only [State.closeRacing]
  split
  · exact (State.notOnPlatform_makes _ _).behind rfl rfl
  · exact .refl s

theorem State.settleExchanges_makes (h : HeatRecord) (s : State) :
    s.Makes (NoticeBody.isExchange .heatEnd) (s.settleExchanges h) :=
  .foldl (fun s _ => s.settlePending_makes ..) _ s

/-- Steps 1 to 4 of the end of a heat: the pads disarmed, the windows derived, the lanes closed, the
exchanges settled (R46). -/
def State.lanesSettled (h : HeatRecord) (s : State) : State :=
  ((s.disarmPads.closeWindows h).closeLanes h).settleExchanges h

theorem State.endHeat_eq (h : HeatRecord) (cause : HeatCause) (s : State) :
    s.endHeat h cause =
      ((s.lanesSettled h).scannerOff.enterJudging.notifyHeat .running cause).holdoverReturn := rfl

theorem State.lanesSettled_makes (h : HeatRecord) (s : State) :
    s.Makes (fun _ => True) (s.lanesSettled h) := by
  unfold State.lanesSettled
  refine .trans ?_ (State.settleExchanges_makes ..).any
  refine .trans ?_ (State.closeLanes_makes ..).any
  exact (State.closeWindows_makes ..).any.behind rfl rfl

theorem State.endHeat_makes (h : HeatRecord) (cause : HeatCause) (s : State) :
    s.Makes (fun _ => True) (s.endHeat h cause) := by
  rw [State.endHeat_eq]
  refine .trans ?_ (State.holdoverReturn_makes _).any
  refine .trans ?_ (State.notifyHeat_makes ..).any
  exact (s.lanesSettled_makes h).trans (.nothing (by simp) (by simp))

theorem State.endIfDone_makes (h : HeatRecord) (s : State) :
    s.Makes (fun _ => True) (s.endIfDone h) := by
  unfold State.endIfDone
  split
  · exact s.endHeat_makes ..
  · exact .refl s

theorem State.overtime_makes (s : State) : s.Makes (fun _ => True) s.overtime := by
  unfold State.overtime
  split
  · exact .refl s
  · exact (State.endHeat_makes ..).behind rfl rfl

theorem State.limitHeat_makes (s : State) : s.Makes (fun _ => True) s.limitHeat := by
  unfold State.limitHeat
  split
  · exact (s.disarmHeat_makes _).any
  · exact s.endHeat_makes ..
  · exact .refl s

theorem State.reachLimit_makes (s : State) : s.stopTimebase.Makes (fun _ => True) s.reachLimit := by
  refine .trans ?_ (.notify trivial _)
  refine .trans ?_ (State.endProbe_makes _ _)
  exact (State.limitHeat_makes _).trans (State.abandonLeveling_makes _).any

theorem State.windowTimeout_makes (lane : Lane) (s : State) :
    s.Makes (fun _ => True) (s.windowTimeout lane) := by
  unfold State.windowTimeout
  split
  · exact .refl s
  · exact (s.closeWindow_makes ..).any.trans (State.endIfDone_makes ..)

/-! ### The scanner -/

theorem State.settled_makes (zero full : Reading) (s : State) :
    s.Makes (fun _ => True) (s.settled zero full) := by
  unfold State.settled State.heatTest
  dsimp only
  repeat' split
  · exact .nothing rfl rfl
  · exact .nothing rfl rfl
  · exact .nothing rfl rfl
  · exact .behind (.notify trivial _) rfl rfl
  · refine .trans ?_ (State.scannerFault_makes ..).any
    exact .behind (.notify trivial _) rfl rfl

theorem State.sample_makes (lane : Lane) (reading : Reading) (time : Nat) (s : State) :
    s.Makes (fun _ => True) (s.sample lane reading time) := by
  unfold State.sample State.probeSample State.heatSample
  dsimp only
  repeat' split
  · exact (State.endProbe_makes ..).behind (by simp) (by simp)
  · exact .nothing (by simp) (by simp)
  · exact .refl s
  · exact .nothing rfl rfl
  · exact (State.takeDeparture_makes ..).behind rfl rfl
  · exact .nothing rfl rfl

theorem State.restOfSweep_makes (readings : Vector Reading 10) (s : State) :
    s.Makes (fun _ => True) (s.restOfSweep readings) :=
  .trans (.foldl (fun s lane => .nothing (by simp) (by simp)) _ s) (State.endProbe_makes ..)

end Sys2Proof.Machine

/-!
PROOFS. What the operations on the heat and on the timebase set, and with it the bounds of the part's lists:
every step keeps them.
-/

namespace Sys2Proof.Machine

/-! ### The heat -/

@[simp] theorem State.enterJudging_heat (s : State) :
    s.enterJudging.heat = { s.heat with race := .judging } := rfl

@[simp] theorem State.lanesSettled_frame (h : HeatRecord) (s : State) :
    (s.lanesSettled h).power = s.power ∧ (s.lanesSettled h).standbyLatch = s.standbyLatch ∧
      (s.lanesSettled h).clock = s.clock ∧ (s.lanesSettled h).timebase = s.timebase ∧
      (s.lanesSettled h).heat = s.heat ∧ (s.lanesSettled h).scanner = s.scanner ∧
      (s.lanesSettled h).store = s.store ∧ (s.lanesSettled h).pending = s.pending ∧
      (s.lanesSettled h).wall = s.disarmPads.wall := by
  simp [State.lanesSettled]

@[simp] theorem State.endHeat_heat (h : HeatRecord) (cause : HeatCause) (s : State) :
    (s.endHeat h cause).heat = { s.heat with race := .judging } := by
  simp [State.endHeat_eq]

@[simp] theorem State.disarmHeat_heat (cause : HeatCause) (s : State) :
    (s.disarmHeat cause).heat = { s.heat with race := .loaded, setMark := none, guardEnd := none } := by
  unfold State.disarmHeat
  dsimp only
  split <;> simp

@[simp] theorem State.startHeat_heat (h : HeatRecord) (stamp : Nat) (cause : HeatCause) (s : State) :
    (s.startHeat h stamp cause).heat =
      { s.heat with race := .running, startMark := some stamp, guardEnd := none } := by
  simp [State.startHeat]

@[simp] theorem State.recallHeat_heat (h : HeatRecord) (stamp : Nat) (cause : HeatCause) (s : State) :
    (s.recallHeat h stamp cause).heat =
      { s.heat with
        race := .armed, startMark := none, setMark := none
        guardEnd := some (stamp + Config.guardTicks) } := by
  simp [State.recallHeat]

@[simp] theorem State.armHeat_heat (h : HeatRecord) (s : State) :
    (s.armHeat h).heat =
      { s.heat with race := .armed, setMark := none, startMark := none, guardEnd := none } := by
  unfold State.armHeat
  dsimp only
  split <;> simp

@[simp] theorem State.setCurrent_heat (current : Option HeatRecord) (cause : HeatCause) (s : State) :
    (s.setCurrent current cause).heat =
      { s.heat with
        current := current, flags := .clear, setMark := none, startMark := none, guardEnd := none
        race := if current.isSome then .loaded else .idle } := by
  simp [State.setCurrent]

@[simp] theorem State.promote_heat (cause : HeatCause) (s : State) :
    (s.promote cause).heat =
      { s.heat with
        current := s.heat.queue.head?, queue := s.heat.queue.tail, flags := .clear, setMark := none
        startMark := none, guardEnd := none
        race := if s.heat.queue = [] then .idle else .loaded } := by
  unfold State.promote
  split <;> next hq => simp [hq]

theorem State.badWindowEnd_heat (s : State) :
    s.badWindowEnd.heat = { s.heat with flags := s.badWindowEnd.heat.flags } := by
  unfold State.badWindowEnd
  split <;> simp

theorem State.scannerFault_heat (h : HeatRecord) (s : State) :
    (s.scannerFault h).heat = { s.heat with flags := { s.heat.flags with scannerFault := true } } := by
  unfold State.scannerFault
  dsimp only
  split <;> simp

theorem State.settled_heat (zero full : Reading) (s : State) :
    (s.settled zero full).heat = { s.heat with flags := (s.settled zero full).heat.flags } := by
  unfold State.settled State.heatTest State.keepTest
  dsimp only
  repeat' split
  all_goals simp [State.scannerFault_heat, State.enterFault, State.probeTested]

theorem State.overtime_heat (s : State) : s.overtime.heat =
    match s.heat.current with
    | none => s.heat
    | some _ => { s.heat with race := .judging, flags := { s.heat.flags with overtime := true } } := by
  unfold State.overtime
  cases hc : s.heat.current <;> simp [hc]

theorem State.limitHeat_heat (s : State) : s.limitHeat.heat =
    match s.heat.race, s.heat.current with
    | .armed, _ => { s.heat with race := .loaded, setMark := none, guardEnd := none }
    | .running, some _ => { s.heat with race := .judging }
    | _, _ => s.heat := by
  unfold State.limitHeat
  split <;> simp_all

theorem State.reachLimit_heat (s : State) : s.reachLimit.heat = s.stopTimebase.limitHeat.heat := by
  simp [State.reachLimit]

theorem State.windowTimeout_heat (lane : Lane) (s : State) :
    (s.windowTimeout lane).heat = s.heat ∨
      s.heat.current.isSome = true ∧ (s.windowTimeout lane).heat = { s.heat with race := .judging } := by
  unfold State.windowTimeout
  split
  · exact .inl rfl
  · next hc =>
    unfold State.endIfDone
    split
    · exact .inr ⟨by simp [hc], by simp⟩
    · exact .inl (by simp)

/-! ### The timebase -/

theorem State.holdoverReturn_timebase (s : State) : s.holdoverReturn.timebase =
    if s.timebase.state = .holdover ∧ s.timebase.goodCount = Config.goodWindows ∧
        s.armedOrRunning = false then
      { s.timebase with state := .locked, steering := s.timebase.source == .external }
    else s.timebase := by
  unfold State.holdoverReturn
  split <;> simp

theorem State.holdoverReturn_goodCount (s : State) :
    s.holdoverReturn.timebase.goodCount = s.timebase.goodCount := by
  rw [State.holdoverReturn_timebase]
  split <;> rfl

theorem State.goodWindowEnd_goodCount (s : State) :
    s.goodWindowEnd.timebase.goodCount = min Config.goodWindows (s.timebase.goodCount + 1) := by
  unfold State.goodWindowEnd
  dsimp only
  split
  · simp
  · rw [State.holdoverReturn_goodCount]

theorem State.badWindowEnd_goodCount (s : State) : s.badWindowEnd.timebase.goodCount = 0 := by
  unfold State.badWindowEnd
  split <;> simp

theorem State.endHeat_goodCount (h : HeatRecord) (cause : HeatCause) (s : State) :
    (s.endHeat h cause).timebase.goodCount = s.timebase.goodCount := by
  simp [State.endHeat_eq, State.holdoverReturn_goodCount]

theorem State.disarmHeat_goodCount (cause : HeatCause) (s : State) :
    (s.disarmHeat cause).timebase.goodCount = s.timebase.goodCount := by
  unfold State.disarmHeat
  dsimp only
  split <;> simp [State.holdoverReturn_goodCount]

theorem State.endIfDone_goodCount (h : HeatRecord) (s : State) :
    (s.endIfDone h).timebase.goodCount = s.timebase.goodCount := by
  unfold State.endIfDone
  split
  · exact s.endHeat_goodCount ..
  · rfl

theorem State.changeSource_goodCount (source : TimeSource) (s : State) :
    (s.changeSource source).timebase.goodCount ≤ s.timebase.goodCount := by
  unfold State.changeSource
  dsimp only
  repeat' split
  all_goals simp

theorem State.completeWrite_goodCount (w : StoreWrite) (s : State) :
    (s.completeWrite w).timebase.goodCount ≤ s.timebase.goodCount := by
  unfold State.completeWrite
  dsimp only
  split <;> split <;> exact (State.changeSource_goodCount ..).trans (by simp)

theorem State.reachLimit_goodCount (s : State) : s.reachLimit.timebase.goodCount = 0 := by
  simp [State.reachLimit, State.limitHeat]
  split <;> simp [State.disarmHeat_goodCount, State.endHeat_goodCount, State.stopTimebase]

/-! ### The bounds -/

/-- The lists of the part are within their sizes, between events or in one. -/
structure State.Sized (s : State) : Prop where
  queue : s.heat.queue.length ≤ 4
  buffer : s.link.buffer.length ≤ 4
  notices : s.link.notices.length ≤ 64
  archive : s.placing.archive.length ≤ 24
  goodCount : s.timebase.goodCount ≤ 20000
  discards : s.link.discards ≤ 65535

theorem State.bounded_iff (s : State) :
    s.Bounded ↔ s.Sized ∧ s.board.passDue = false ∧ s.link.fresh = 0 :=
  ⟨fun ⟨h1, h2, h3, h4, h5, h6, h7, h8⟩ => ⟨⟨h1, h2, h3, h4, h5, h6⟩, h7, h8⟩,
    fun ⟨⟨h1, h2, h3, h4, h5, h6⟩, h7, h8⟩ => ⟨h1, h2, h3, h4, h5, h6, h7, h8⟩⟩

/-- What makes only notices and replies keeps the sizes, when it lengthens no other list. -/
theorem State.Makes.sized {p : NoticeBody → Prop} {s t : State} (h : s.Makes p t) (hs : s.Sized)
    (hq : t.heat.queue.length ≤ 4) (ha : t.placing.archive.length ≤ 24)
    (hg : t.timebase.goodCount ≤ 20000) : t.Sized := by
  obtain ⟨-, bodies, -, hl⟩ := h
  refine ⟨hq, ?_, ?_, ha, hg, ?_⟩ <;> rw [hl]
  · simpa using hs.buffer
  · exact Link.noteAll_bound _ _ hs.notices
  · simpa using hs.discards

end Sys2Proof.Machine

namespace Sys2Proof.Machine

theorem State.levelResult_link (pad : PadIx) (r : LevelResult) (rest : List PadIx) (s : State) :
    (s.levelResult pad r rest).link = s.link := by simp

/-- Every effect keeps the sizes. -/
theorem State.Effect.sized {s t : State} (hs : s.Sized) (e : s.Effect t) : t.Sized := by
  have kept : ∀ {t : State}, s.Makes (fun _ => True) t → t.heat.queue = s.heat.queue →
      t.placing.archive = s.placing.archive → t.timebase.goodCount ≤ s.timebase.goodCount → t.Sized :=
    fun h hq ha hg => h.sized hs (hq ▸ hs.queue) (ha ▸ hs.archive) (hg.trans hs.goodCount)
  cases e
  case same => exact hs
  case overtime =>
    refine kept (State.overtime_makes s) ?_ (State.overtime_archiveKept s).fields.1 ?_
    · rw [State.overtime_heat]; split <;> rfl
    · unfold State.overtime
      split
      · exact le_rfl
      · rw [State.endHeat_goodCount]
  case reachLimit =>
    refine (State.reachLimit_makes s).sized ⟨hs.queue, hs.buffer, hs.notices, hs.archive, by simp [State.stopTimebase],
      hs.discards⟩ ?_ ?_ ?_
    · rw [State.reachLimit_heat, State.limitHeat_heat]
      split <;> exact hs.queue
    · rw [(State.reachLimit_archiveKept s).fields.1]; exact hs.archive
    · simp [State.reachLimit_goodCount]
  case goodWindow =>
    refine (State.goodWindowEnd_makes s).sized hs (by simpa using hs.queue) (by simpa using hs.archive) ?_
    rw [State.goodWindowEnd_goodCount]; exact Nat.min_le_left _ _
  case badWindow =>
    refine kept (State.badWindowEnd_makes s).any (by rw [State.badWindowEnd_heat]) (by simp) ?_
    simp [State.badWindowEnd_goodCount]
  case locks cause => exact kept (State.enterLocked_makes cause s).any (by simp) (by simp) (by simp)
  case starts level stamp h _ _ =>
    exact kept ((State.startHeat_makes ..).behind rfl rfl) (by simp [State.putStartLine])
      (by simp [State.putStartLine]) (by simp [State.putStartLine])
  case recalls level stamp h _ _ =>
    exact kept ((State.recallHeat_makes ..).behind rfl rfl) (by simp [State.putRecallLine])
      (State.recallHeat_archiveKept ..).fields.1 (by simp [State.putRecallLine])
  case padEdge pad level stamp =>
    refine kept (State.padEdge_makes ..) ?_ ?_ ?_ <;> (unfold State.padEdge; cases level <;> simp)
  case qualifyPad pad => exact kept (State.qualifyPad_makes ..) (by simp) (by simp) (by simp)
  case buttonEdge lane button level stamp =>
    refine kept (State.buttonEdge_makes ..) ?_ ?_ ?_ <;> (unfold State.buttonEdge; cases level <;> simp)
  case levelWaitEnds =>
    refine kept (.nothing ?_ ?_) ?_ ?_ ?_ <;> (unfold State.levelWaitEnds; split <;> simp)
  case levelDriveEnds =>
    refine kept (.nothing ?_ ?_) ?_ ?_ ?_ <;> (unfold State.levelDriveEnds; split <;> simp)
  case windowTimeout lane =>
    refine kept (State.windowTimeout_makes lane s) ?_ (State.windowTimeout_archiveKept lane s).fields.1 ?_
    · rcases State.windowTimeout_heat lane s with h | ⟨-, h⟩ <;> rw [h]
    · unfold State.windowTimeout
      split
      · exact le_rfl
      · simp [State.endIfDone_goodCount]
  case settled zero full =>
    refine kept (State.settled_makes ..) ?_ ?_ ?_
    · rw [State.settled_heat]
    all_goals simp [State.settled_frame]
  case sample lane reading time =>
    exact kept (State.sample_makes ..) (by rw [(State.sample_frame ..).2.2.2.1])
      (by simp [State.sample_frame]) (by simp [State.sample_frame])
  case restOfSweep readings =>
    refine kept (State.restOfSweep_makes ..) ?_ ?_ ?_ <;> simp [State.restOfSweep_frame]
  case writeEnds =>
    unfold State.writeEnds
    split
    · exact hs
    · exact kept (State.completeWrite_makes ..) (by simp) (by simp) (State.completeWrite_goodCount ..)
  case slotComes =>
    refine kept (.nothing ?_ ?_) ?_ ?_ ?_ <;> (unfold State.slotComes; split <;> simp)
  all_goals exact kept (.nothing rfl rfl) rfl rfl le_rfl

theorem reviseNewest_length (s : State) (l : List ArchiveEntry) :
    (reviseNewest s l).length = l.length := by
  induction l with
  | nil => rfl
  | cons e rest ih =>
    cases rest with
    | nil => rfl
    | cons e' rest => simp [reviseNewest, ih]

/-- An amendment brings the newest entry up to date in place: the archive keeps its length. -/
theorem State.revise_archive_length (lane : Lane) (s : State) :
    (s.revise lane).placing.archive.length = s.placing.archive.length := by
  unfold State.revise
  dsimp only
  repeat' split
  all_goals simp [reviseNewest_length]

theorem State.amend_makes (kind : AmendKind) (lane : Lane) (time : Nat) (s : State) :
    s.Makes NoticeBody.isPlaces (s.amend kind lane time).state :=
  (State.notifyPlaces_makes ..).behind (by simp) (by simp)

@[simp] theorem State.appendEntry_archive (h : HeatRecord) (s : State) :
    (s.appendEntry h).placing.archive =
      (if s.placing.archive.length < Config.archiveMax then s.placing.archive
        else s.placing.archive.drop 1) ++ [s.newEntry h] := rfl

theorem State.appendEntry_archive_le (h : HeatRecord) {s : State} (hs : s.placing.archive.length ≤ 24) :
    (s.appendEntry h).placing.archive.length ≤ 24 := by
  rw [State.appendEntry_archive, Config.archiveMax, List.length_append, List.length_singleton]
  split
  · omega
  · rw [List.length_drop]; omega

/-- Every accepted request keeps the sizes. -/
theorem State.Accepted.sized {s t : State} (hs : s.Sized) (e : s.Accepted t) : t.Sized := by
  have kept : s.Makes (fun _ => True) t → t.heat.queue.length ≤ s.heat.queue.length →
      t.placing.archive.length ≤ s.placing.archive.length →
      t.timebase.goodCount ≤ s.timebase.goodCount → t.Sized :=
    fun h hq ha hg => h.sized hs (hq.trans hs.queue) (ha.trans hs.archive) (hg.trans hs.goodCount)
  cases e
  case query => exact hs
  case loadCurrent h _ => exact kept (State.setCurrent_makes ..).any (by simp) (by simp) (by simp)
  case loadQueued h _ room =>
    exact ⟨by simpa using room, hs.buffer, hs.notices, hs.archive, hs.goodCount, hs.discards⟩
  case withdrawQueued i => exact kept (.nothing rfl rfl) (List.length_eraseIdx_le ..) le_rfl le_rfl
  case withdrawCurrent _ => exact kept (State.promote_makes ..).any (by simp) (by simp) (by simp)
  case arm h _ _ _ _ _ => exact kept (State.armHeat_makes ..).any (by simp) (by simp) (by simp)
  case disarm _ =>
    exact kept (State.disarmHeat_makes ..).any (by simp) (by simp) (by simp [State.disarmHeat_goodCount])
  case start h _ _ => exact kept (State.startHeat_makes ..) (by simp) (by simp) (by simp)
  case recalls h _ _ =>
    exact kept (State.recallHeat_makes ..) (by simp) (by simp [(State.recallHeat_archiveKept ..).fields])
      (by simp)
  case endHeat h _ _ =>
    exact kept (State.endHeat_makes ..) (by simp) (by simp [(State.endHeat_archiveKept ..).fields])
      (by simp [State.endHeat_goodCount])
  case closeLane h lane _ _ =>
    refine kept ?_ ?_ ?_ ?_
    · refine .trans ?_ (State.endIfDone_makes ..)
      refine .trans ?_ (State.settlePending_makes ..).any
      exact (State.notOnPlatform_makes ..).any.behind rfl rfl
    · unfold State.endIfDone
      split <;> simp
    · simp [(State.endIfDone_archiveKept ..).fields]
    · simp [State.endIfDone_goodCount]
  case nextHeat _ =>
    exact kept ((State.promote_makes ..).any.behind rfl rfl) (by simp) (by simp) (by simp)
  case amend kind lane time =>
    exact kept (State.amend_makes ..).any (by simp [State.amend])
      (by simp [State.amend, State.revise_archive_length, (State.amendChange_archiveKept ..).fields])
      (by simp [State.amend])
  case officialise h _ _ =>
    refine State.Makes.sized (p := NoticeBody.isHeatState) (s := s)
      ((State.notifyHeat_makes ..).behind rfl rfl) hs (by simpa using hs.queue) ?_
      (by simpa using hs.goodCount)
    rw [(State.notifyHeat_frame ..).2.2.2.2.2.2.2.2.1]
    exact State.appendEntry_archive_le h hs.archive
  case clear => exact kept (.nothing rfl rfl) le_rfl (by simp) le_rfl
  case acquire _ => exact kept (.behind (.notify trivial _) rfl rfl) (by simp) (by simp) (by simp)
  case level p _ => exact kept (.nothing (by simp) (by simp)) (by simp) (by simp) (by simp)
  case restart => exact ⟨hs.queue, hs.buffer, hs.notices, hs.archive, hs.goodCount, hs.discards⟩
  all_goals exact kept (.nothing rfl rfl) le_rfl le_rfl le_rfl

theorem State.boardSettle_passDue (s : State) : s.boardSettle.board.passDue = false := by
  unfold State.boardSettle boardAfter fullPass joinChanged feedLine beginFrame takeSlot
  dsimp only
  repeat' split
  all_goals rfl

/-- The end of an event: its notices are complete, no fewer and no more, and the board has taken up what it
changed. -/
theorem State.Sized.eventEnd {s : State} (hs : s.Sized) : s.eventEnd.Bounded := by
  refine (State.bounded_iff _).mpr ⟨⟨?_, ?_, ?_, ?_, ?_, ?_⟩, ?_, rfl⟩
  · simpa using hs.queue
  · simpa using hs.buffer
  · have := hs.notices
    simp [State.eventEnd, State.sealNotices, State.boardSettle, Link.freshNotices]
    omega
  · simpa using hs.archive
  · simpa using hs.goodCount
  · simpa using hs.discards
  · exact State.boardSettle_passDue s

/-- A running part keeps the bounds, whatever it does but reset. -/
theorem bounded_kept : Kept State.Bounded State.Sized where
  begins := fun h => ((State.bounded_iff _).mp h).1
  ends := State.Sized.eventEnd
  reply := fun _ h => ⟨h.queue, h.buffer, h.notices, h.archive, h.goodCount, h.discards⟩
  clock := fun _ h => h
  queue := fun _ h => h
  link := fun {s t} h m => by
    obtain ⟨⟨h1, h2, h3, h4, h5, h6⟩, h7, h8⟩ := (State.bounded_iff _).mp h
    refine (State.bounded_iff _).mpr
      ⟨⟨?_, m.buffer h2, m.notices.trans h3, ?_, ?_, m.discards h6⟩, ?_, m.fresh.trans h8⟩ <;>
      (rw [m.others]; assumption)
  effect := fun h e => e.sized ((State.bounded_iff _).mp h).1
  handle := fun r h => (State.handle_state r _).sized ((State.bounded_iff _).mp h).1

theorem State.cutShort_bounded {s : State} (power : Power) (h : s.Bounded) :
    (s.cutShort power).Bounded := by
  obtain ⟨-, -, -, ha, -⟩ := h
  exact ⟨Nat.zero_le _, Nat.zero_le _, Nat.zero_le _, ha, Nat.zero_le _, Nat.zero_le _, rfl, rfl⟩

/-- The start-up of a part takes no more entries than the archive holds (R154). -/
theorem State.beginRunning_bounded {s : State} (strapHigh held : Bool) (h : s.Bounded) :
    (s.beginRunning strapHigh held).Bounded := by
  obtain ⟨⟨h1, h2, h3, h4, h5, h6⟩, -⟩ := (State.bounded_iff _).mp h
  unfold State.beginRunning
  split
  · refine bounded_kept.settles ⟨h1, h2, h3, ?_, Nat.zero_le _, h6⟩
    show (if _ then [] else (readMemory held s.placing).1).length ≤ 24
    split
    · simp
    · unfold readMemory
      split
      · exact h4
      · simp [Config.archiveMax]
  · exact h

/-- A part that does not run keeps the bounds. -/
theorem bounded_keptAtRest : KeptAtRest State.Bounded where
  queue := fun _ h => h
  reset := fun power _ h => State.cutShort_bounded power h
  latch := fun _ h => h
  start := fun a b h => State.beginRunning_bounded a b h
  lines := fun h ht ⟨_, _, _, hh⟩ _ => by
    rw [ht, hh]
    exact h

/-- Settles O59: what a running part does keeps the bounds, and so do the resets and the start. -/
theorem everyStepKeepsTheBounds : Obligations.EveryStepKeepsTheBounds :=
  fun _ _ h hs => bounded_kept.everyStep bounded_keptAtRest (fun _ => id) id h hs

end Sys2Proof.Machine

/-!
PROOFS. The laws of the race state (law 9, R25, R33, R35, R154): every step keeps them.
-/

namespace Sys2Proof.Machine

/-- The laws, of a part that runs. -/
structure State.RunsLawfully (s : State) : Prop where
  running : s.power = .running
  check : s.placing.check = Config.checkValue s.placing.archive
  current : s.heat.race = .idle ↔ s.heat.current = none
  queue : s.heat.race = .idle → s.heat.queue = []
  ready : s.armedOrRunning = true →
    (s.timebase.state = .locked ∨ s.timebase.state = .holdover) ∧ s.configured = true ∧ s.busy = false

theorem State.runsLawfully_iff (s : State) : s.RunsLawfully ↔ s.isRunning = true ∧ s.Lawful := by
  constructor
  · rintro ⟨h1, h2, h3, h4, h5⟩
    exact ⟨by simp [State.isRunning, h1], h2, h3, h4, by simp [State.isRunning, h1], h5⟩
  · rintro ⟨hr, h2, h3, h4, -, h5⟩
    exact ⟨by simpa [State.isRunning] using hr, h2, h3, h4, h5⟩

section

variable {s t : State} (h : s.RunsLawfully)
include h

/-- The race state, the current heat and the queue stay; an ARMED or RUNNING heat keeps what it needs. -/
theorem State.RunsLawfully.keeps (hp : t.power = s.power)
    (ha : t.placing.check = Config.checkValue t.placing.archive)
    (hr : t.heat.race = s.heat.race) (hc : t.heat.current = s.heat.current)
    (hq : t.heat.queue = s.heat.queue)
    (hready : s.armedOrRunning = true → (s.timebase.state = .locked ∨ s.timebase.state = .holdover) →
      s.configured = true → s.busy = false →
      (t.timebase.state = .locked ∨ t.timebase.state = .holdover) ∧ t.configured = true ∧
        t.busy = false) : t.RunsLawfully := by
  refine ⟨hp.trans h.running, ha, by rw [hr, hc]; exact h.current, by rw [hr, hq]; exact h.queue,
    fun hx => ?_⟩
  have hx : s.armedOrRunning = true := by
    unfold State.armedOrRunning at hx ⊢
    rw [← hr]; exact hx
  obtain ⟨h1, h2, h3⟩ := h.ready hx
  exact hready hx h1 h2 h3

/-- The heat, the store, leveling and the probe stay. -/
theorem State.RunsLawfully.frame (hp : t.power = s.power)
    (ha : t.placing.check = Config.checkValue t.placing.archive)
    (hr : t.heat.race = s.heat.race) (hc : t.heat.current = s.heat.current)
    (hq : t.heat.queue = s.heat.queue)
    (ht : (s.timebase.state = .locked ∨ s.timebase.state = .holdover) →
      t.timebase.state = .locked ∨ t.timebase.state = .holdover)
    (hf : t.store = s.store) (hl : t.wall.level = s.wall.level)
    (hb : t.scanner.probe = s.scanner.probe) : t.RunsLawfully := by
  refine h.keeps hp ha hr hc hq fun _ h1 h2 h3 => ⟨ht h1, ?_⟩
  unfold State.configured State.busy at *
  rw [hf, hl, hb]
  exact ⟨h2, h3⟩

/-- A heat is current behind it, and neither ARMED nor RUNNING. -/
theorem State.RunsLawfully.rests (hp : t.power = s.power)
    (ha : t.placing.check = Config.checkValue t.placing.archive)
    (hr : t.heat.race = .loaded ∨ t.heat.race = .judging ∨ t.heat.race = .official)
    (hc : t.heat.current.isSome = true) : t.RunsLawfully := by
  have hi : t.heat.race ≠ .idle := by rcases hr with hr | hr | hr <;> simp [hr]
  refine ⟨hp.trans h.running, ha, ⟨fun hx => absurd hx hi, fun hx => by simp [hx] at hc⟩,
    fun hx => absurd hx hi, fun hx => ?_⟩
  rcases hr with hr | hr | hr <;> simp [State.armedOrRunning, hr] at hx

/-- A heat goes on from ARMED or RUNNING to ARMED or RUNNING. -/
theorem State.RunsLawfully.races (hp : t.power = s.power)
    (ha : t.placing.check = Config.checkValue t.placing.archive) (hs : s.armedOrRunning = true)
    (hr : t.heat.race = .armed ∨ t.heat.race = .running) (hc : t.heat.current = s.heat.current)
    (ht : t.timebase = s.timebase) (hf : t.store = s.store) (hl : t.wall.level = s.wall.level)
    (hb : t.scanner.probe = s.scanner.probe) : t.RunsLawfully := by
  have hi : t.heat.race ≠ .idle := by rcases hr with hr | hr <;> simp [hr]
  have hi' : s.heat.race ≠ .idle := fun hx => by simp [State.armedOrRunning, hx] at hs
  refine ⟨hp.trans h.running, ha, ⟨fun hx => absurd hx hi, fun hx => ?_⟩, fun hx => absurd hx hi,
    fun _ => ?_⟩
  · exact absurd (h.current.mpr (hc ▸ hx)) hi'
  · have := h.ready hs
    unfold State.configured State.busy at *
    rwa [ht, hf, hl, hb]

/-- The head of the queue becomes current, or no heat is (R29, R30). -/
theorem State.RunsLawfully.promote (cause : HeatCause) : (s.promote cause).RunsLawfully := by
  refine ⟨by simpa using h.running, by simpa using h.check, ?_, ?_, ?_⟩
  · cases hq : s.heat.queue <;> simp [hq]
  · cases hq : s.heat.queue <;> simp [hq]
  · cases hq : s.heat.queue <;> simp [State.armedOrRunning, hq]

theorem State.RunsLawfully.archive (ha : s.archiveKept t) :
    t.placing.check = Config.checkValue t.placing.archive := by
  rw [ha.fields.1, ha.fields.2.2.1]; exact h.check

theorem State.RunsLawfully.current_of_race (hr : s.heat.race ≠ .idle) : s.heat.current.isSome = true := by
  rw [Option.isSome_iff_ne_none]
  exact fun hc => hr (h.current.mpr hc)

end

/-! ### What the effects leave of leveling, probes and the timebase -/

theorem State.deliverTouch_wall (pad : PadIx) (lead : Nat) (s : State) :
    (s.deliverTouch pad lead).wall = s.wall := by simp

@[simp] theorem State.qualifyPad_level (pad : PadIx) (s : State) :
    (s.qualifyPad pad).wall.level = s.wall.level := by
  unfold State.qualifyPad
  repeat' split
  all_goals simp

@[simp] theorem State.qualifyArmed_level (s : State) : s.qualifyArmed.wall.level = s.wall.level := by
  unfold State.qualifyArmed
  exact foldl_kept (fun s : State => s.wall.level) _ (fun s pad => s.qualifyPad_level pad) _ s

theorem State.padEdge_level (pad : PadIx) (level : Level) (stamp : Nat) (s : State)
    (h : s.wall.level = .idle) : (s.padEdge pad level stamp).wall.level = .idle := by
  have opens : (s.padOpens pad stamp).wall.level = .idle := by
    unfold State.padOpens
    repeat' split
    all_goals simp [h]
  have hears : ∀ t : State, t.wall.level = .idle → (t.levelEdge pad level stamp).wall.level = .idle := by
    intro t ht
    unfold State.levelEdge
    rw [ht]
    exact ht
  unfold State.padEdge
  cases level
  · exact hears _ opens
  · exact hears _ (by simpa [State.padCloses] using h)

@[simp] theorem State.buttonEdge_level (lane : Lane) (button : Button) (level : Level) (stamp : Nat)
    (s : State) : (s.buttonEdge lane button level stamp).wall.level = s.wall.level := by
  unfold State.buttonEdge State.buttonCloses
  dsimp only
  repeat' split
  all_goals simp

@[simp] theorem State.startHeat_level (h : HeatRecord) (stamp : Nat) (cause : HeatCause) (s : State) :
    (s.startHeat h stamp cause).wall.level = s.wall.level := by
  simp [State.startHeat]

@[simp] theorem State.startHeat_probe (h : HeatRecord) (stamp : Nat) (cause : HeatCause) (s : State) :
    (s.startHeat h stamp cause).scanner.probe = s.scanner.probe := by
  simp [State.startHeat, State.settleStart, State.setStartLoads]

@[simp] theorem State.recallHeat_level (h : HeatRecord) (stamp : Nat) (cause : HeatCause) (s : State) :
    (s.recallHeat h stamp cause).wall.level = s.wall.level := by
  simp [State.recallHeat]

theorem State.endProbe_probe (complete : Bool) (s : State) (h : s.scanner.probe = none) :
    (s.endProbe complete).scanner.probe = none := by
  unfold State.endProbe
  rw [h]
  exact h

theorem State.takeProbeReading_probe (lane : Lane) (reading : Reading) (s : State) :
    (s.takeProbeReading lane reading).scanner.probe = s.scanner.probe := by
  unfold State.takeProbeReading
  split <;> rfl

theorem State.sample_probe (lane : Lane) (reading : Reading) (time : Nat) (s : State)
    (h : s.scanner.probe = none) : (s.sample lane reading time).scanner.probe = none := by
  unfold State.sample State.heatSample
  rw [h]
  dsimp only
  repeat' split
  all_goals simp_all [State.takeReading]

theorem State.restOfSweep_probe (readings : Vector Reading 10) (s : State)
    (h : s.scanner.probe = none) : (s.restOfSweep readings).scanner.probe = none := by
  unfold State.restOfSweep
  refine State.endProbe_probe _ _ (.trans ?_ h)
  exact foldl_kept (fun s : State => s.scanner.probe) _ (fun s lane => s.takeProbeReading_probe lane _) _ s

theorem State.settled_probe (zero full : Reading) (s : State) :
    (s.settled zero full).scanner.probe = s.scanner.probe := by
  unfold State.settled State.heatTest State.probeTested State.beginScanning State.enterFault
    State.keepTest
  dsimp only
  repeat' split
  all_goals simp

theorem State.goodWindowEnd_state (s : State) :
    s.goodWindowEnd.timebase.state = s.timebase.state ∨ s.goodWindowEnd.timebase.state = .locked := by
  unfold State.goodWindowEnd
  dsimp only
  split
  · exact .inr (by simp)
  · rw [State.holdoverReturn_timebase]
    split
    · exact .inr rfl
    · exact .inl rfl

theorem State.badWindowEnd_state (s : State) : s.badWindowEnd.timebase.state =
    if s.timebase.state = .locked then .holdover else s.timebase.state := by
  unfold State.badWindowEnd
  dsimp only
  split <;> simp

/-! ### The laws are kept -/

theorem State.levelWaitEnds_idle {s : State} (h : s.wall.level = .idle) : s.levelWaitEnds = s := by
  unfold State.levelWaitEnds
  rw [h]

theorem State.levelDriveEnds_idle {s : State} (h : s.wall.level = .idle) : s.levelDriveEnds = s := by
  unfold State.levelDriveEnds
  rw [h]

theorem State.busy_eq_false {s : State} : s.busy = false ↔
    s.store.write = none ∧ s.wall.level = .idle ∧ s.scanner.probe = none := by
  simp [State.busy, and_assoc]

section

variable {s : State} (h : s.RunsLawfully)
include h

theorem State.RunsLawfully.overtime : s.overtime.RunsLawfully := by
  have ha := h.archive (State.overtime_archiveKept s)
  have hh := State.overtime_heat s
  cases hc : s.heat.current with
  | none =>
    rw [show s.overtime = s by unfold State.overtime; rw [hc]]
    exact h
  | some r =>
    rw [hc] at hh
    exact h.rests (State.Effect.goesOn .overtime).1 ha (by simp [hh]) (by simp [hh, hc])

theorem State.RunsLawfully.reachLimit : s.reachLimit.RunsLawfully := by
  have power := (State.Effect.goesOn (s := s) .reachLimit).1
  have ha := h.archive (State.reachLimit_archiveKept s)
  have hh : s.reachLimit.heat = _ := (State.reachLimit_heat s).trans (State.limitHeat_heat _)
  split at hh
  · next hr =>
    have hr : s.heat.race = .armed := hr
    refine h.rests power ha (by simp [hh]) ?_
    rw [hh]
    exact h.current_of_race (by simp [hr])
  · next hc => exact h.rests power ha (by simp [hh]) (by rw [hh]; simp [show s.heat.current = _ from hc])
  · next hr hc =>
    have hn : s.armedOrRunning = false := by
      cases hrace : s.heat.race
      case armed => exact (hr hrace).elim
      case running =>
        obtain ⟨r, hcur⟩ := Option.isSome_iff_exists.mp (h.current_of_race (by rw [hrace]; simp))
        exact (hc r hrace hcur).elim
      all_goals simp [State.armedOrRunning, hrace]
    exact h.keeps power ha (by rw [hh]; rfl) (by rw [hh]; rfl) (by rw [hh]; rfl)
      (fun hx => by rw [hn] at hx; cases hx)

theorem State.RunsLawfully.putStart (level : Level) : (s.putStartLine level).RunsLawfully :=
  ⟨h.running, h.check, h.current, h.queue, h.ready⟩

theorem State.RunsLawfully.putRecall (level : Level) : (s.putRecallLine level).RunsLawfully :=
  ⟨h.running, h.check, h.current, h.queue, h.ready⟩

theorem State.RunsLawfully.startHeat (armed : s.heat.race = .armed) (r : HeatRecord) (stamp : Nat)
    (cause : HeatCause) : (s.startHeat r stamp cause).RunsLawfully :=
  h.races (by simp) (by simpa using h.check) (by simp [State.armedOrRunning, armed]) (by simp)
    (by simp) (by simp) (by simp) (by simp) (by simp)

theorem State.RunsLawfully.recallHeat (running : s.heat.race = .running) (r : HeatRecord) (stamp : Nat)
    (cause : HeatCause) : (s.recallHeat r stamp cause).RunsLawfully :=
  h.races (by simp) (h.archive (State.recallHeat_archiveKept ..))
    (by simp [State.armedOrRunning, running]) (by simp) (by simp) (by simp) (by simp) (by simp) (by simp)

theorem State.RunsLawfully.padEdge (pad : PadIx) (level : Level) (stamp : Nat) :
    (s.padEdge pad level stamp).RunsLawfully := by
  have frame : (s.padEdge pad level stamp).power = s.power ∧
      (s.padEdge pad level stamp).timebase = s.timebase ∧
      (s.padEdge pad level stamp).heat = s.heat ∧ (s.padEdge pad level stamp).placing = s.placing ∧
      (s.padEdge pad level stamp).store = s.store ∧
      (s.padEdge pad level stamp).scanner = s.scanner := by
    unfold State.padEdge
    cases level <;> simp
  obtain ⟨f0, f1, f2, f3, f4, f5⟩ := frame
  refine h.keeps f0 (by rw [f3]; exact h.check) (by rw [f2]) (by rw [f2]) (by rw [f2])
    fun _ ht hc hb => ?_
  rw [State.busy_eq_false] at hb ⊢
  exact ⟨by rwa [f1], by unfold State.configured at *; rwa [f4], by rw [f4]; exact hb.1,
    State.padEdge_level _ _ _ _ hb.2.1, by rw [f5]; exact hb.2.2⟩

theorem State.RunsLawfully.buttonEdge (lane : Lane) (button : Button) (level : Level) (stamp : Nat) :
    (s.buttonEdge lane button level stamp).RunsLawfully := by
  have frame : (s.buttonEdge lane button level stamp).power = s.power ∧
      (s.buttonEdge lane button level stamp).timebase = s.timebase ∧
      (s.buttonEdge lane button level stamp).heat = s.heat ∧
      (s.buttonEdge lane button level stamp).placing = s.placing ∧
      (s.buttonEdge lane button level stamp).store = s.store ∧
      (s.buttonEdge lane button level stamp).scanner = s.scanner := by
    unfold State.buttonEdge
    cases level <;> simp
  obtain ⟨f0, f1, f2, f3, f4, f5⟩ := frame
  exact h.frame f0 (by rw [f3]; exact h.check) (by rw [f2]) (by rw [f2]) (by rw [f2])
    (fun ht => by rwa [f1]) f4 (by simp) (by rw [f5])

theorem State.RunsLawfully.levelWaitEnds : s.levelWaitEnds.RunsLawfully := by
  by_cases hs : s.armedOrRunning = true
  · rw [State.levelWaitEnds_idle (State.busy_eq_false.mp (h.ready hs).2.2).2.1]; exact h
  · refine h.keeps ?_ ?_ ?_ ?_ ?_ fun hx => absurd hx hs
    all_goals
      unfold State.levelWaitEnds
      split <;> simp [h.check]

theorem State.RunsLawfully.levelDriveEnds : s.levelDriveEnds.RunsLawfully := by
  by_cases hs : s.armedOrRunning = true
  · rw [State.levelDriveEnds_idle (State.busy_eq_false.mp (h.ready hs).2.2).2.1]; exact h
  · refine h.keeps ?_ ?_ ?_ ?_ ?_ fun hx => absurd hx hs
    all_goals
      unfold State.levelDriveEnds
      split <;> simp [h.check]

/-- The heat ends when its last lane has (R47), or goes on. -/
theorem State.RunsLawfully.endIfDone (r : HeatRecord) (hc : s.heat.current = some r) :
    (s.endIfDone r).RunsLawfully := by
  have ha := h.archive (State.endIfDone_archiveKept r s)
  unfold State.endIfDone at *
  split
  · next hd =>
    rw [if_pos hd] at ha
    exact h.rests (by simp) ha (by simp) (by simp [hc])
  · exact h

/-- A window that closes leaves the heat as it is. -/
theorem State.RunsLawfully.closeWindow (r : HeatRecord) (cause : CloseCause) (lane : Lane) :
    (s.closeWindow r cause lane).RunsLawfully :=
  h.frame (by simp) (h.archive (State.closeWindow_archiveKept ..)) (by simp) (by simp) (by simp)
    (by simp) (by simp) (by simp) (by simp)

theorem State.RunsLawfully.windowTimeout (lane : Lane) : (s.windowTimeout lane).RunsLawfully := by
  unfold State.windowTimeout
  split
  · exact h
  · next r hc => exact (h.closeWindow r _ lane).endIfDone r (by simpa using hc)

theorem State.RunsLawfully.sample (lane : Lane) (reading : Reading) (time : Nat) :
    (s.sample lane reading time).RunsLawfully := by
  obtain ⟨f0, -, f1, f2, f3, f4, -, f5⟩ := State.sample_frame lane reading time s
  refine h.keeps f0 (by rw [f4]; exact h.check) (by rw [f2]) (by rw [f2]) (by rw [f2])
    fun _ ht hc hb => ⟨by rwa [f1], by unfold State.configured at *; rwa [f5], ?_⟩
  rw [State.busy_eq_false] at hb ⊢
  exact ⟨by rw [f5]; exact hb.1, by rw [f3]; exact hb.2.1, State.sample_probe _ _ _ _ hb.2.2⟩

theorem State.RunsLawfully.restOfSweep (readings : Vector Reading 10) :
    (s.restOfSweep readings).RunsLawfully := by
  obtain ⟨f0, -, f1, f2, f3, -, f4, -, f5⟩ := State.restOfSweep_frame readings s
  refine h.keeps f0 (by rw [f4]; exact h.check) (by rw [f2]) (by rw [f2]) (by rw [f2])
    fun _ ht hc hb => ⟨by rwa [f1], by unfold State.configured at *; rwa [f5], ?_⟩
  rw [State.busy_eq_false] at hb ⊢
  exact ⟨by rw [f5]; exact hb.1, by rw [f3]; exact hb.2.1, State.restOfSweep_probe _ _ hb.2.2⟩

theorem State.RunsLawfully.settled (zero full : Reading) : (s.settled zero full).RunsLawfully := by
  have hh := State.settled_heat zero full s
  obtain ⟨f0, -, f1, f2, f3, -, f4⟩ := State.settled_frame zero full s
  exact h.frame f0 (by rw [f3]; exact h.check) (by rw [hh]) (by rw [hh]) (by rw [hh])
    (fun ht => by rwa [f1]) f4 (by rw [f2]) (State.settled_probe ..)

/-- The end of a write: none is in flight during a heat (law 9). -/
theorem State.RunsLawfully.writeEnds : s.writeEnds.RunsLawfully := by
  unfold State.writeEnds
  split
  · exact h
  · next w hw =>
    refine h.keeps (by simp) (by simpa using h.check) (by simp) (by simp) (by simp) fun _ _ _ hb => ?_
    rw [State.busy_eq_false, hw] at hb
    cases hb.1

end

/-- Every effect keeps the laws. -/
theorem State.Effect.runsLawfully {s t : State} (h : s.RunsLawfully) (e : s.Effect t) :
    t.RunsLawfully := by
  cases e
  case same => exact h
  case overtime => exact h.overtime
  case reachLimit => exact h.reachLimit
  case goodWindow =>
    refine h.frame (by simp) (by simpa using h.check) (by simp) (by simp) (by simp) (fun ht => ?_)
      (by simp) (by simp) (by simp)
    rcases State.goodWindowEnd_state s with hs | hs <;> rw [hs]
    · exact ht
    · exact .inl rfl
  case badWindow =>
    have hh := State.badWindowEnd_heat s
    refine h.frame (by simp) (by simpa using h.check) (by rw [hh]) (by rw [hh]) (by rw [hh])
      (fun ht => ?_) (by simp) (by simp) (by simp)
    rw [State.badWindowEnd_state]
    split
    · exact .inr rfl
    · exact ht
  case locks cause =>
    exact h.frame (by simp) (by simpa using h.check) (by simp) (by simp) (by simp)
      (fun _ => .inl (by simp)) (by simp) (by simp) (by simp)
  case starts level stamp r armed _ => exact (h.putStart level).startHeat armed r stamp _
  case recalls level stamp r running _ => exact (h.putRecall level).recallHeat running r stamp _
  case padEdge pad level stamp => exact h.padEdge pad level stamp
  case buttonEdge lane button level stamp => exact h.buttonEdge lane button level stamp
  case levelWaitEnds => exact h.levelWaitEnds
  case levelDriveEnds => exact h.levelDriveEnds
  case windowTimeout lane => exact h.windowTimeout lane
  case settled zero full => exact h.settled zero full
  case sample lane reading time => exact h.sample lane reading time
  case restOfSweep readings => exact h.restOfSweep readings
  case writeEnds => exact h.writeEnds
  case slotComes =>
    unfold State.slotComes
    split <;> exact ⟨h.running, h.check, h.current, h.queue, h.ready⟩
  case qualifyPad pad =>
    exact h.frame (by simp) (by simpa using h.check) (by simp) (by simp) (by simp) (by simp)
      (by simp) (by simp) (by simp)
  all_goals exact ⟨h.running, h.check, h.current, h.queue, h.ready⟩

theorem State.revise_check (lane : Lane) {s : State}
    (h : s.placing.check = Config.checkValue s.placing.archive) :
    (s.revise lane).placing.check = Config.checkValue (s.revise lane).placing.archive := by
  unfold State.revise
  dsimp only
  repeat' split
  · rfl
  · exact h
  · exact h

/-- Every accepted request keeps the laws. -/
theorem State.Accepted.runsLawfully {s t : State} (h : s.RunsLawfully) (e : s.Accepted t) :
    t.RunsLawfully := by
  have free : ∀ {t : State}, s.armedOrRunning = false → t.power = s.power → t.placing = s.placing →
      t.heat = s.heat → t.RunsLawfully := fun hf hp hl hh =>
    h.keeps hp (by rw [hl]; exact h.check) (by rw [hh]) (by rw [hh]) (by rw [hh])
      (fun hx => by rw [hf] at hx; cases hx)
  cases e
  case query => exact h
  case loadCurrent r _ => exact h.rests (by simp) (by simpa using h.check) (by simp) (by simp)
  case loadQueued r busy _ =>
    exact ⟨h.running, h.check, h.current, fun hx => absurd hx busy, h.ready⟩
  case withdrawQueued i =>
    exact ⟨h.running, h.check, h.current, fun hx => by simp [h.queue hx], h.ready⟩
  case withdrawCurrent _ => exact h.promote _
  case arm r _ current configured locked free =>
    have frame : (s.armHeat r).timebase = s.timebase ∧ (s.armHeat r).wall = s.wall ∧
        (s.armHeat r).scanner.probe = s.scanner.probe ∧
        (s.armHeat r).store = { s.store with setupOpen := false } := by
      unfold State.armHeat
      dsimp only
      split <;> simp
    obtain ⟨f1, f2, f3, f4⟩ := frame
    refine ⟨by simpa using h.running, by simpa using h.check, by simp [current], by simp, fun _ => ?_⟩
    unfold State.configured State.busy at *
    rw [f1, f2, f3, f4]
    exact ⟨.inl locked, configured, free⟩
  case disarm armed =>
    exact h.rests (by simp) (by simpa using h.check) (by simp)
      (by simpa using h.current_of_race (by simp [armed]))
  case start r armed _ =>
    exact h.races (by simp) (by simpa using h.check) (by simp [State.armedOrRunning, armed]) (by simp)
      (by simp) (by simp) (by simp) (by simp) (by simp)
  case recalls r running _ =>
    exact h.races (by simp) (h.archive (State.recallHeat_archiveKept ..))
      (by simp [State.armedOrRunning, running]) (by simp) (by simp) (by simp) (by simp) (by simp) (by simp)
  case endHeat r _ current =>
    exact h.rests (by simp) (h.archive (State.endHeat_archiveKept ..)) (by simp) (by simp [current])
  case closeLane r lane _ current =>
    have base : (State.settlePending r lane .laneClosed (State.notOnPlatform lane
        (s.updLane lane fun r => { r with status := .closed, window := none }))).RunsLawfully :=
      h.frame (by simp) (by simpa using h.check) (by simp) (by simp) (by simp) (by simp) (by simp)
        (by simp) (by simp)
    exact base.endIfDone r (by simpa using current)
  case nextHeat _ =>
    refine State.RunsLawfully.promote ?_ _
    exact ⟨h.running, h.check, h.current, h.queue, h.ready⟩
  case amend kind lane time =>
    refine h.frame (by simp [State.amend]) ?_ (by simp [State.amend]) (by simp [State.amend])
      (by simp [State.amend]) (by simp [State.amend]) (by simp [State.amend]) (by simp [State.amend])
      (by simp [State.amend])
    have := State.revise_check lane (h.archive (s.amendChange_archiveKept kind lane time))
    simpa [State.amend] using this
  case officialise r _ current => exact h.rests (by simp) (by simp [State.appendEntry]) (by simp) (by simp [current])
  case clear => exact ⟨h.running, rfl, h.current, h.queue, h.ready⟩
  case acquire hf => exact free hf (by simp) (by simp) (by simp)
  case write p hf => exact free hf (by simp) (by simp) (by simp)
  case level p hf => exact free hf (by simp) (by simp) (by simp)
  case probe tag hf => exact free hf (by simp) (by simp) (by simp)
  all_goals exact ⟨h.running, h.check, h.current, h.queue, h.ready⟩

/-- A running part keeps the laws, whatever it does but reset. -/
theorem runsLawfully_kept : Kept State.RunsLawfully State.RunsLawfully where
  begins := id
  ends := fun h => h.frame (by simp) (by simpa using h.check) (by simp) (by simp) (by simp) (by simp)
    (by simp) (by simp) (by simp)
  reply := fun _ h => ⟨h.running, h.check, h.current, h.queue, h.ready⟩
  clock := fun _ h => ⟨h.running, h.check, h.current, h.queue, h.ready⟩
  queue := fun _ h => ⟨h.running, h.check, h.current, h.queue, h.ready⟩
  link := fun h m => by
    rw [m.others]
    exact ⟨h.running, h.check, h.current, h.queue, h.ready⟩
  effect := fun h e => e.runsLawfully h
  handle := fun r h => (State.handle_state r _).runsLawfully h

/-- A part in IDLE, with no heat and an empty queue, is lawful when its archive's check value agrees. -/
theorem State.lawful_of_idle {s : State} (ha : s.placing.check = Config.checkValue s.placing.archive)
    (hr : s.heat.race = .idle) (hc : s.heat.current = none) (hq : s.heat.queue = []) : s.Lawful :=
  ⟨ha, by simp [hr, hc], fun _ => hq, fun _ => hr, fun hx => by simp [State.armedOrRunning, hr] at hx⟩

/-- A lawful part that does not run is in IDLE. -/
theorem State.Lawful.idle {s : State} (h : s.Lawful) (hr : s.isRunning = false) :
    s.heat.race = .idle ∧ s.heat.current = none ∧ s.heat.queue = [] := by
  obtain ⟨-, hc, hq, hi, -⟩ := h
  have hi := hi hr
  exact ⟨hi, hc.mp hi, hq hi⟩

/-- The start-up of a part that holds no heat. -/
theorem State.beginRunning_lawful {s : State} (strapHigh held : Bool) (h : s.Lawful) :
    (s.beginRunning strapHigh held).Lawful := by
  unfold State.beginRunning
  split
  · next hp =>
    obtain ⟨hr, hc, hq⟩ := h.idle (by simp [State.isRunning, hp])
    refine State.lawful_of_idle ?_ ?_ ?_ ?_
    · simp [State.startUp]
    · simpa [State.startUp] using hr
    · simpa [State.startUp] using hc
    · simpa [State.startUp] using hq
  · exact h

/-- A part that does not run keeps the laws; a reset leaves no heat (R33). -/
theorem lawful_keptAtRest : KeptAtRest State.Lawful where
  queue := fun _ h => h
  reset := fun power _ h => State.lawful_of_idle (s := State.cutShort power _) h.1 rfl rfl rfl
  latch := fun _ h => h
  start := fun a b h => State.beginRunning_lawful a b h
  lines := fun {s t} h ht ⟨_, _, _, hh⟩ hw => by
    obtain ⟨h1, h2, h3, h4, h5⟩ := h
    rw [ht, hh]
    refine ⟨h1, h2, h3, h4, fun hx => ?_⟩
    have := h5 hx
    unfold State.busy State.configured at *
    rwa [← hw] at this

/-- Settles O58: what a running part does keeps the laws, and so do the resets and the start. -/
theorem everyStepKeepsTheLaws : Obligations.EveryStepKeepsTheLaws :=
  fun _ _ h hs => runsLawfully_kept.everyStep lawful_keptAtRest
    (fun hr h => (State.runsLawfully_iff _).mpr ⟨hr, h⟩) (fun h => ((State.runsLawfully_iff _).mp h).2) h hs

/-- Settles O57: the part after reset holds nothing. -/
theorem resetKeepsTheLaws : Obligations.ResetKeepsTheLaws :=
  ⟨State.lawful_of_idle rfl rfl rfl rfl, by unfold State.Bounded; decide⟩

end Sys2Proof.Machine

/-!
PROOFS. Places and values: the place order as a sorted list, the walls of a relay, signed hundredths.
-/

namespace Sys2Proof.Machine

/-- Settles O1: the definition of a step. -/
theorem stepRunsFrontCommand : Obligations.StepRunsFrontCommand := fun _ _ _ => rfl

/-- Settles O54: the hundredths lie between two multiples of 100. -/
theorem signedHundredthsRoundDown : Obligations.SignedHundredthsRoundDown := by
  intro ticks q hlo hhi
  have hq : floorHundredths ticks = q := by unfold floorHundredths; omega
  unfold signedHundredths clamped
  rw [hq]
  refine ⟨fun h1 h2 => ⟨by omega, ?_⟩, fun h => ⟨by omega, ?_⟩, fun h => ⟨by omega, ?_⟩⟩
  · simp only [decide_eq_false_iff_not]; omega
  · simp only [decide_eq_true_eq]; omega
  · simp only [decide_eq_true_eq]; omega

/-! ### The place order -/

theorem orderHundredths_of_mem {order : List (Lane × Nat)} {lane : Lane} {n : Nat}
    (hd : (order.map (·.1)).Nodup) (h : (lane, n) ∈ order) : orderHundredths order lane = some n := by
  unfold orderHundredths
  induction order with
  | nil => cases h
  | cons a rest ih =>
    rw [List.map_cons, List.nodup_cons] at hd
    rcases List.mem_cons.mp h with rfl | h
    · simp
    · have hne : a.1 ≠ lane := fun he => hd.1 (he ▸ List.mem_map_of_mem (f := (·.1)) h)
      rw [List.find?_cons_of_neg (by simpa using hne)]
      exact ih hd.2 h

theorem orderHundredths_eq_none {order : List (Lane × Nat)} {lane : Lane}
    (h : ∀ n, (lane, n) ∉ order) : orderHundredths order lane = none := by
  unfold orderHundredths
  rw [Option.map_eq_none_iff, List.find?_eq_none]
  rintro ⟨l, n⟩ hm
  simp only [beq_iff_eq]
  rintro rfl
  exact h n hm

/-- Settles O52: the place is computed from the lane's entry, which is the only one of that lane. -/
theorem placeCountsSmallerTimes : Obligations.PlaceCountsSmallerTimes := by
  intro order s lane hd
  refine ⟨fun n hn => ?_, fun hn => ?_⟩
  · simp [placeIn, orderHundredths_of_mem hd hn]
  · simp [placeIn, orderHundredths_eq_none hn]

/-- The position of an entry before another in the place order (R137). -/
def Precedes (a b : Lane × Nat) : Prop := a.2 < b.2 ∨ (a.2 = b.2 ∧ a.1 < b.1)

theorem orderBefore_iff {p q : Lane × Nat} : orderBefore p q = true ↔ Precedes p q := by
  simp [orderBefore, Precedes]

theorem Precedes.trans {a b c : Lane × Nat} (h : Precedes a b) (h' : Precedes b c) : Precedes a c := by
  simp only [Precedes, Fin.lt_def] at *; omega

theorem Precedes.of_not {a b : Lane × Nat} (hl : a.1 ≠ b.1) (h : ¬ Precedes a b) : Precedes b a := by
  simp only [Precedes, Fin.lt_def, ne_eq, Fin.ext_iff] at *; omega

theorem mem_insertOrder {e x : Lane × Nat} {l : List (Lane × Nat)} :
    x ∈ insertOrder e l ↔ x = e ∨ x ∈ l := by
  induction l with
  | nil => simp [insertOrder]
  | cons q rest ih =>
    unfold insertOrder
    split
    · exact List.mem_cons
    · rw [List.mem_cons, ih, List.mem_cons, or_left_comm]

theorem insertOrder_perm (e : Lane × Nat) (l : List (Lane × Nat)) : (insertOrder e l).Perm (e :: l) := by
  induction l with
  | nil => exact .refl _
  | cons q rest ih =>
    unfold insertOrder
    split
    · exact .refl _
    · exact (ih.cons q).trans (.swap e q rest)

theorem insertOrder_pairwise {e : Lane × Nat} {l : List (Lane × Nat)} (hl : l.Pairwise Precedes)
    (hne : ∀ q ∈ l, e.1 ≠ q.1) : (insertOrder e l).Pairwise Precedes := by
  induction l with
  | nil => exact List.pairwise_singleton _ _
  | cons q rest ih =>
    obtain ⟨hq, hrest⟩ := List.pairwise_cons.mp hl
    have hqe : e.1 ≠ q.1 := hne q List.mem_cons_self
    unfold insertOrder
    split
    · next hb =>
      have he := orderBefore_iff.mp hb
      refine List.pairwise_cons.mpr ⟨fun x hx => ?_, hl⟩
      rcases List.mem_cons.mp hx with rfl | hx
      · exact he
      · exact he.trans (hq x hx)
    · next hb =>
      have he : Precedes q e := .of_not hqe (fun h => hb (orderBefore_iff.mpr h))
      refine List.pairwise_cons.mpr ⟨fun x hx => ?_, ih hrest fun y hy => hne y (List.mem_cons_of_mem _ hy)⟩
      rcases mem_insertOrder.mp hx with rfl | hx
      · exact he
      · exact hq x hx

theorem mem_removeOrder {lane : Lane} {e : Lane × Nat} {order : List (Lane × Nat)} :
    e ∈ removeOrder lane order ↔ e ∈ order ∧ e.1 ≠ lane := by
  simp [removeOrder]

/-- Settles O53: the lane is taken out first, so that it stands in the order once. -/
theorem insertionKeepsTheOrder : Obligations.InsertionKeepsTheOrder := by
  intro order lane n hs hd
  have hsub : (removeOrder lane order).Sublist order := List.filter_sublist
  refine ⟨insertOrder_pairwise (hs.sublist hsub) fun q hq => (mem_removeOrder.mp hq).2.symm, ?_,
    fun e => by rw [mem_insertOrder, mem_removeOrder]⟩
  rw [((insertOrder_perm _ _).map _).nodup_iff, List.map_cons, List.nodup_cons]
  refine ⟨fun hm => ?_, hd.sublist (hsub.map _)⟩
  obtain ⟨q, hq, hl⟩ := List.mem_map.mp hm
  exact (mem_removeOrder.mp hq).2 hl

/-! ### The legs of a relay -/

/-- Settles O19: a relay's leg is an even number of lengths, two at least. -/
theorem legEndsAreAtWallA : Obligations.LegEndsAreAtWallA := by
  intro h n hrelay hlen h1 hn hkind
  have hlegs : ∃ k, h.lengths = 8 * k ∧ 1 ≤ k := by
    simp only [relayLengths, List.mem_cons, List.not_mem_nil, or_false] at hlen
    exact ⟨h.lengths / 8, by omega, by omega⟩
  obtain ⟨k, hk, hk1⟩ := hlegs
  have hleg : legLengths h = 2 * k := by unfold legLengths; omega
  unfold lengthKind at hkind
  rw [hrelay, hleg] at hkind
  split at hkind
  · cases hkind
  · next hfinal =>
    have hmod : n % (2 * k) = 0 := by
      by_contra hne
      simp [hne] at hkind
    obtain ⟨j, hj⟩ := Nat.dvd_of_mod_eq_zero hmod
    have hj1 : 1 ≤ j := by
      rcases j with _ | j
      · simp at hj; omega
      · omega
    have heven : n % 2 = 0 := by rw [hj, Nat.mul_assoc, Nat.mul_mod_right]
    have hnext : (n + 1) % (2 * k) = 1 := by
      rw [hj, Nat.mul_add_mod, Nat.mod_eq_of_lt (by omega)]
    have hdiv : n / (2 * k) = j := by rw [hj]; exact Nat.mul_div_cancel_left _ (by omega)
    have hdiv' : (n - 1) / (2 * k) = j - 1 := by
      obtain ⟨i, rfl⟩ : ∃ i, j = i + 1 := ⟨j - 1, by omega⟩
      have hn1 : n - 1 = 2 * k * i + (2 * k - 1) := by rw [hj, Nat.mul_add]; omega
      rw [hn1, Nat.mul_add_div (by omega), Nat.div_eq_of_lt (by omega)]
      omega
    refine ⟨heven, ?_, ?_, ?_, ?_⟩
    · unfold lengthWall; rw [if_pos (by omega)]
    · unfold lengthKind
      rw [hrelay, hleg, if_neg (by omega)]
      simp [hnext]
    · unfold lengthWall; rw [if_neg (by omega)]
    · unfold lengthLeg
      rw [hrelay, hleg]
      simp only [if_true, Nat.add_sub_cancel]
      rw [hdiv, hdiv']
      omega

end Sys2Proof.Machine

/-!
PROOFS. The payloads of LOAD_HEAT and PROFILE_WRITE: which bytes stand where, and what is read there.
-/

namespace Sys2Proof.Machine

/-! ### Bytes at an offset -/

/-- The bytes `l` stand in the payload `p` at offset `i`. -/
def StandsAt (p : List Byte) (i : Nat) (l : List Byte) : Prop :=
  ∃ before after, p = before ++ (l ++ after) ∧ before.length = i

theorem standsAt_self (p : List Byte) : StandsAt p 0 p := ⟨[], [], by simp, rfl⟩

theorem StandsAt.left {p l m : List Byte} {i : Nat} (h : StandsAt p i (l ++ m)) : StandsAt p i l := by
  obtain ⟨b, a, rfl, rfl⟩ := h
  exact ⟨b, m ++ a, by simp, rfl⟩

theorem StandsAt.right {p l m : List Byte} {i j : Nat} (h : StandsAt p i (l ++ m))
    (hj : i + l.length = j) : StandsAt p j m := by
  obtain ⟨b, a, rfl, rfl⟩ := h
  exact ⟨b ++ l, a, by simp, by simp [hj]⟩

theorem StandsAt.byteAt {p l : List Byte} {i : Nat} {b : Byte} (h : StandsAt p i (b :: l)) :
    byteAt p i = b.toNat := by
  obtain ⟨before, after, rfl, rfl⟩ := h
  simp [Machine.byteAt]

theorem StandsAt.signedAt {p l : List Byte} {i : Nat} {b : Byte} (h : StandsAt p i (b :: l)) :
    signedAt p i = b.toInt := by
  obtain ⟨before, after, rfl, rfl⟩ := h
  simp [Machine.signedAt]

theorem StandsAt.tail {p l : List Byte} {i : Nat} {b : Byte} (h : StandsAt p i (b :: l)) :
    StandsAt p (i + 1) l :=
  StandsAt.right (l := [b]) h rfl

/-- A member of a list of equally long fields stands at its multiple. -/
theorem StandsAt.field {α : Type} {p : List Byte} {i w : Nat} {f : α → List Byte} (hw : ∀ x, (f x).length = w)
    {l : List α} (h : StandsAt p i (l.map f).flatten) {k : Nat} (hk : k < l.length) :
    StandsAt p (i + w * k) (f l[k]) := by
  induction l generalizing i k with
  | nil => simp at hk
  | cons x rest ih =>
    rw [List.map_cons, List.flatten_cons] at h
    cases k with
    | zero => simpa using h.left
    | succ k =>
      have := ih (h.right rfl) (k := k) (by simpa using hk)
      rwa [hw, show i + w + w * k = i + w * (k + 1) by rw [Nat.mul_succ]; omega] at this

theorem length_flatten_map {α : Type} {w : Nat} {f : α → List Byte} (hw : ∀ x, (f x).length = w)
    (l : List α) : (l.map f).flatten.length = l.length * w := by
  induction l with
  | nil => simp
  | cons x rest ih => simp [hw, ih, Nat.add_mul, Nat.add_comm]

theorem standsAt_of_eq {p l : List Byte} (h : p = l) : StandsAt p 0 l := h ▸ standsAt_self p

theorem natBytes_length (n v : Nat) : (natBytes n v).length = n := by
  induction n generalizing v with
  | zero => rfl
  | succ n ih => simp [natBytes, ih]

/-- A member of a list of bytes stands at its position. -/
theorem StandsAt.member {α : Type} {p : List Byte} {i : Nat} {f : α → Byte} {l : List α}
    (h : StandsAt p i (l.map f)) {k : Nat} (hk : k < l.length) : Machine.byteAt p (i + k) = (f l[k]).toNat := by
  induction l generalizing i k with
  | nil => simp at hk
  | cons x rest ih =>
    cases k with
    | zero => exact StandsAt.byteAt (show StandsAt p i (_ :: _) from h)
    | succ k =>
      have := ih (StandsAt.tail (show StandsAt p i (_ :: _) from h)) (k := k) (by simpa using hk)
      rwa [show i + 1 + k = i + (k + 1) by omega] at this

theorem natBytes_one (v : Nat) : natBytes 1 v = [BitVec.ofNat 8 v] := rfl

theorem natBytes_two (v : Nat) : natBytes 2 v = [BitVec.ofNat 8 (v / 256), BitVec.ofNat 8 v] := rfl

theorem StandsAt.byteAt_natBytes {p : List Byte} {i v : Nat} (h : StandsAt p i (natBytes 1 v))
    (hv : v < 256) : Machine.byteAt p i = v := by
  rw [natBytes_one] at h
  rw [h.byteAt, BitVec.toNat_ofNat]
  omega

theorem StandsAt.wordAt_natBytes {p : List Byte} {i v : Nat} (h : StandsAt p i (natBytes 2 v))
    (hv : v < 65536) : wordAt p i = v := by
  rw [natBytes_two] at h
  unfold wordAt
  rw [h.byteAt, h.tail.byteAt, BitVec.toNat_ofNat, BitVec.toNat_ofNat]
  omega

/-- A text of a fixed field reads back (R184). -/
theorem StandsAt.text {p : List Byte} {i n : Nat} {t : Text} (h : StandsAt p i (textField n t))
    (ht : t.length < 256) : Machine.byteAt p i = t.length ∧ textAt p i = t := by
  have hb : Machine.byteAt p i = t.length := by
    rw [StandsAt.byteAt (show StandsAt p i (_ :: _) from h), BitVec.toNat_ofNat]
    omega
  refine ⟨hb, ?_⟩
  obtain ⟨before, after, rfl, rfl⟩ := h
  unfold textAt
  rw [hb]
  simp [textField, List.drop_append, List.drop_eq_nil_of_le]

theorem textField_length {n : Nat} {t : Text} (h : t.length ≤ n) : (textField n t).length = n + 1 := by
  simp [textField]; omega

/-! ### Sets of lanes -/

/-- The number whose bits are the lanes of a set. -/
def lanesWord (lanes : Vector Bool 10) : Nat :=
  (allLanes.map fun lane => if lanes[lane] then 2 ^ lane.val else 0).sum

theorem lanesBytes_eq (lanes : Vector Bool 10) : lanesBytes lanes = natBytes 2 (lanesWord lanes) := rfl

/-- The number with the ten given bits, the lowest first. -/
def bitsWord (b : Lane → Nat) : Nat :=
  b 0 + 2 * b 1 + 4 * b 2 + 8 * b 3 + 16 * b 4 + 32 * b 5 + 64 * b 6 + 128 * b 7 + 256 * b 8 + 512 * b 9

theorem lanesWord_eq (lanes : Vector Bool 10) :
    lanesWord lanes = bitsWord fun lane => lanes[lane].toNat := by
  have bit : ∀ (b : Bool) (k : Nat), (if b then k else 0) = k * b.toNat := fun b k => by cases b <;> simp
  simp [lanesWord, allLanes, bit, bitsWord, Nat.add_assoc]

/-- Each of the ten bits reads back. -/
theorem bitsWord_bit {b : Lane → Nat} (hb : ∀ lane, b lane ≤ 1) (lane : Lane) :
    bitsWord b / 2 ^ lane.val % 2 = b lane := by
  have h0 := hb 0; have h1 := hb 1; have h2 := hb 2; have h3 := hb 3; have h4 := hb 4
  have h5 := hb 5; have h6 := hb 6; have h7 := hb 7; have h8 := hb 8; have h9 := hb 9
  unfold bitsWord
  fin_cases lane <;> simp <;> omega

theorem bitsWord_lt {b : Lane → Nat} (hb : ∀ lane, b lane ≤ 1) : bitsWord b < 1024 := by
  have h0 := hb 0; have h1 := hb 1; have h2 := hb 2; have h3 := hb 3; have h4 := hb 4
  have h5 := hb 5; have h6 := hb 6; have h7 := hb 7; have h8 := hb 8; have h9 := hb 9
  unfold bitsWord
  omega

theorem lanesWord_lt (lanes : Vector Bool 10) : lanesWord lanes < 1024 := by
  rw [lanesWord_eq]
  exact bitsWord_lt fun lane => Bool.toNat_le _

theorem lanesOf_lanesWord (lanes : Vector Bool 10) : lanesOf (lanesWord lanes) = lanes := by
  apply vector_ext
  intro lane
  show (lanesOf (lanesWord lanes))[lane.val] = _
  rw [lanesOf, tab_getElem, Nat.testBit_eq_decide_div_mod_eq, lanesWord_eq,
    bitsWord_bit fun lane => Bool.toNat_le _]
  cases lanes[lane] <;> simp

theorem lanesWord_eq_zero {lanes : Vector Bool 10} (h : lanesWord lanes = 0) (lane : Lane) :
    lanes[lane] = false := by
  rw [← lanesOf_lanesWord lanes, h]
  simp [lanesOf]

theorem StandsAt.wordAt_lanes {p : List Byte} {i : Nat} {lanes : Vector Bool 10}
    (h : StandsAt p i (lanesBytes lanes)) : wordAt p i = lanesWord lanes :=
  StandsAt.wordAt_natBytes h (lt_trans (lanesWord_lt lanes) (by decide))

theorem mem_allLanes (lane : Lane) : lane ∈ allLanes := by fin_cases lane <;> decide

theorem mem_allPads (pad : PadIx) : pad ∈ allPads := by fin_cases pad <;> decide

theorem mem_allRows (row : RowIx) : row ∈ allRows := by fin_cases row <;> decide

theorem allLanes_getElem (lane : Lane) : allLanes[lane.val]'(by simp [allLanes]) = lane := by
  fin_cases lane <;> rfl

theorem allPads_getElem (pad : PadIx) : allPads[pad.val]'(by simp [allPads]) = pad := by
  fin_cases pad <;> rfl

theorem allRows_getElem (row : RowIx) : allRows[row.val]'(by simp [allRows]) = row := by
  fin_cases row <;> rfl

/-! ### Heat records -/

/-- What a record the part may hold satisfies (R21 to R23). -/
structure HeatRecord.Fits (installed : Vector Bool 10) (h : HeatRecord) : Prop where
  event : 1 ≤ h.event ∧ h.event ≤ 999
  heat : 1 ≤ h.heat ∧ h.heat ≤ 99
  lengths : 1 ≤ h.lengths ∧ h.lengths ≤ 60
  relay : h.relay = true → h.lengths ∈ relayLengths
  some : ∃ lane : Lane, h.entered[lane] = true
  installed : ∀ lane : Lane, h.entered[lane] = true → installed[lane] = true
  labels : ∀ lane : Lane, (h.labels[lane]).length ≤ 16 ∧ (h.labels[lane]).all isPrintable = true ∧
    (h.entered[lane] = false → h.labels[lane] = [])
  banner : h.banner.length ≤ 32 ∧ h.banner.all isPrintable = true
  inhibit : 500 ≤ h.inhibit ∧ h.inhibit ≤ 60000
  buttonWindow : 50 ≤ h.buttonWindow ∧ h.buttonWindow ≤ 500
  discrepancy : 5 ≤ h.discrepancy ∧ h.discrepancy ≤ 200
  limits : -100 ≤ h.lo ∧ h.lo ≤ 0 ∧ 0 ≤ h.hi ∧ h.hi ≤ 500 ∧ (h.relay = false → h.lo = 0 ∧ h.hi = 0)

theorem HeatRecord.fits_of_valid {installed : Vector Bool 10} {h : HeatRecord}
    (hv : h.valid installed = true) : h.Fits installed := by
  unfold HeatRecord.valid at hv
  simp only [Bool.and_eq_true, decide_eq_true_eq, List.any_eq_true, List.all_eq_true, mem_allLanes,
    true_and, forall_true_left, Bool.or_eq_true, Bool.not_eq_true', List.contains_iff_mem,
    List.isEmpty_iff] at hv
  obtain ⟨⟨⟨⟨⟨⟨⟨⟨⟨⟨⟨⟨h1, h2⟩, h3⟩, h4⟩, h5⟩, h6⟩, h7⟩, h8⟩, h9⟩, h10⟩, h11⟩, h12⟩, h13⟩ := hv
  refine ⟨h1, h2, h3, fun hr => ?_, h5, fun lane he => ?_, fun lane => ?_, ⟨h8, ?_⟩, h10, h11, h12, ?_⟩
  · simpa [hr] using h4
  · simpa [he] using h6 lane
  · obtain ⟨⟨ha, hb⟩, hc⟩ := h7 lane
    exact ⟨ha, List.all_eq_true.mpr hb, fun he => by simpa [he] using hc⟩
  · exact List.all_eq_true.mpr h9
  · cases hr : h.relay
    · simp only [hr, Bool.false_eq_true, if_false, Bool.and_eq_true, decide_eq_true_eq] at h13
      exact ⟨by omega, by omega, by omega, by omega, fun _ => h13⟩
    · simp only [hr, if_true, Bool.and_eq_true, decide_eq_true_eq] at h13
      exact ⟨by omega, by omega, by omega, by omega, fun hx => by cases hx⟩

/-- What is read in a heat record's payload (R184). -/
structure HeatRecord.ReadsFrom (h : HeatRecord) (p : List Byte) : Prop where
  length : p.length = heatPayloadLength
  event : wordAt p 0 = h.event
  heat : byteAt p 2 = h.heat
  lengths : byteAt p 3 = h.lengths
  relay : byteAt p 4 = h.relay.toNat
  startType : byteAt p 5 = (startTypeByte h.startType).toNat
  entered : wordAt p 6 = lanesWord h.entered
  labels : ∀ lane : Lane, byteAt p (labelOffset lane) = (h.labels[lane]).length ∧
    textAt p (labelOffset lane) = h.labels[lane]
  banner : byteAt p 178 = h.banner.length ∧ textAt p 178 = h.banner
  inhibit : wordAt p 211 = h.inhibit
  buttonWindow : wordAt p 213 = h.buttonWindow
  discrepancy : byteAt p 215 = h.discrepancy
  lo : signedAt p 216 = h.lo
  hi : (wordAt p 217 : Int) = h.hi
  notify : byteAt p 219 = (regionByte h.notify).toNat

theorem boolByte_toNat (b : Bool) : (boolByte b).toNat = b.toNat := by cases b <;> rfl

theorem signedByte_toInt {v : Int} (h1 : -100 ≤ v) (h2 : v ≤ 0) : (signedByte v).toInt = v := by
  unfold signedByte
  rw [BitVec.toInt_ofInt]
  exact Int.bmod_eq_of_le (by omega) (by omega)

theorem HeatRecord.Fits.readsFrom {installed : Vector Bool 10} {h : HeatRecord}
    (hf : h.Fits installed) : h.ReadsFrom (heatPayload h) := by
  have hw : ∀ lane : Lane, (textField 16 h.labels[lane]).length = 17 := fun lane =>
    textField_length (hf.labels lane).1
  have hlabels : ((allLanes.map fun lane => textField 16 h.labels[lane]).flatten).length = 170 :=
    length_flatten_map hw _
  have hbanner := textField_length hf.banner.1
  have hlanes : (lanesBytes h.entered).length = 2 := natBytes_length _ _
  have hlen : (heatPayload h).length = heatPayloadLength := by
    simp only [heatPayload, List.length_append, hlabels, hbanner, hlanes, natBytes_length]
    rfl
  have s0 : StandsAt (heatPayload h) 0 (natBytes 2 h.event ++ (natBytes 1 h.heat ++ (natBytes 1 h.lengths ++
      ([boolByte h.relay] ++ ([startTypeByte h.startType] ++ (lanesBytes h.entered ++
      ((allLanes.map fun lane => textField 16 h.labels[lane]).flatten ++ (textField 32 h.banner ++
      (natBytes 2 h.inhibit ++ (natBytes 2 h.buttonWindow ++ (natBytes 1 h.discrepancy ++
      ([signedByte h.lo] ++ (natBytes 2 h.hi.toNat ++ [regionByte h.notify]))))))))))))) :=
    standsAt_of_eq (by simp only [heatPayload, List.append_assoc])
  generalize heatPayload h = p at hlen s0
  have s2 : StandsAt p 2 _ := s0.right (by rw [natBytes_length])
  have s3 : StandsAt p 3 _ := s2.right (by rw [natBytes_length])
  have s4 : StandsAt p 4 _ := s3.right (by rw [natBytes_length])
  have s5 : StandsAt p 5 _ := s4.right rfl
  have s6 : StandsAt p 6 _ := s5.right rfl
  have s8 : StandsAt p 8 _ := s6.right (by rw [hlanes])
  have s178 : StandsAt p 178 _ := s8.right (by rw [hlabels])
  have s211 : StandsAt p 211 _ := s178.right (by rw [hbanner])
  have s213 : StandsAt p 213 _ := s211.right (by rw [natBytes_length])
  have s215 : StandsAt p 215 _ := s213.right (by rw [natBytes_length])
  have s216 : StandsAt p 216 _ := s215.right (by rw [natBytes_length])
  have s217 : StandsAt p 217 _ := s216.right rfl
  have s219 : StandsAt p 219 _ := s217.right (by rw [natBytes_length])
  obtain ⟨hlo1, hlo2, hhi1, hhi2, -⟩ := hf.limits
  have he := hf.event; have hh := hf.heat; have hn := hf.lengths; have hi := hf.inhibit
  have hw := hf.buttonWindow; have hd := hf.discrepancy
  exact
    { length := hlen
      event := s0.left.wordAt_natBytes (by omega)
      heat := s2.left.byteAt_natBytes (by omega)
      lengths := s3.left.byteAt_natBytes (by omega)
      relay := s4.byteAt.trans (boolByte_toNat _)
      startType := s5.byteAt
      entered := s6.left.wordAt_lanes
      labels := fun lane => by
        have hfield : StandsAt p (labelOffset lane) (textField 16 h.labels[lane]) := by
          have := s8.left.field (fun lane => textField_length (hf.labels lane).1) (k := lane.val)
            (by simp [allLanes])
          rwa [allLanes_getElem] at this
        have := (hf.labels lane).1
        exact hfield.text (by omega)
      banner := s178.left.text (by have := hf.banner.1; omega)
      inhibit := s211.left.wordAt_natBytes (by omega)
      buttonWindow := s213.left.wordAt_natBytes (by omega)
      discrepancy := s215.left.byteAt_natBytes (by omega)
      lo := s216.signedAt.trans (signedByte_toInt hlo1 hlo2)
      hi := by rw [s217.left.wordAt_natBytes (by omega)]; omega
      notify := s219.byteAt }

/-- A record the part may hold is read as it was written. -/
theorem HeatRecord.ReadsFrom.heatOf {installed : Vector Bool 10} {h : HeatRecord} {p : List Byte}
    (hr : h.ReadsFrom p) (hf : h.Fits installed) : heatOf h.course p = h := by
  have hrelay : (byteAt p 4 == 1) = h.relay := by rw [hr.relay]; cases h.relay <;> rfl
  have hstart : (if byteAt p 5 = 0 then StartType.platform else .inWater) = h.startType := by
    rw [hr.startType]; cases h.startType <;> rfl
  have hnotify : regionOf (byteAt p 219) = h.notify := by rw [hr.notify]; cases h.notify <;> rfl
  have hlabels : (tab fun lane => textAt p (labelOffset lane)) = h.labels := by
    apply vector_ext; intro lane
    show (tab fun lane => textAt p (labelOffset lane))[lane.val] = _
    rw [tab_getElem]
    exact (hr.labels lane).2
  have hlo : (if h.relay then h.lo else 0) = h.lo := by
    cases hx : h.relay
    · exact (hf.limits.2.2.2.2 hx).1.symm
    · rfl
  have hhi : (if h.relay then h.hi else 0) = h.hi := by
    cases hx : h.relay
    · exact (hf.limits.2.2.2.2 hx).2.symm
    · rfl
  unfold Machine.heatOf
  dsimp only
  rw [hrelay, hstart, hnotify, hlabels, hr.event, hr.heat, hr.lengths, hr.entered, lanesOf_lanesWord,
    hr.banner.2, hr.inhibit, hr.buttonWindow, hr.discrepancy, hr.lo, hr.hi, hlo, hhi]

theorem HeatRecord.ReadsFrom.labelFails {installed : Vector Bool 10} {h : HeatRecord} {p : List Byte}
    (hr : h.ReadsFrom p) (hf : h.Fits installed) (lane : Lane) :
    labelFails p h.entered lane = false := by
  obtain ⟨hlen, hprint, hempty⟩ := hf.labels lane
  unfold Machine.labelFails
  dsimp only
  rw [(hr.labels lane).1, (hr.labels lane).2, hprint]
  cases he : h.entered[lane]
  · simp [hempty he]
  · simpa using hlen

/-- A record the part may hold passes every check of LOAD_HEAT. -/
theorem HeatRecord.ReadsFrom.heatFault {installed : Vector Bool 10} {h : HeatRecord} {p : List Byte}
    (hr : h.ReadsFrom p) (hf : h.Fits installed) : heatFault installed p = none := by
  have he := hf.event; have hh := hf.heat; have hn := hf.lengths; have hi := hf.inhibit
  have hw := hf.buttonWindow; have hd := hf.discrepancy; have hl := hf.limits
  have hword : lanesWord h.entered ≠ 0 := fun hz => by
    obtain ⟨lane, hlane⟩ := hf.some
    rw [lanesWord_eq_zero hz] at hlane
    cases hlane
  have hinstalled : (allLanes.any fun lane => h.entered[lane] && !installed[lane]) = false := by
    rw [List.any_eq_false]
    intro lane _
    simpa using hf.installed lane
  have hfind : allLanes.find? (Machine.labelFails p h.entered) = none :=
    List.find?_eq_none.mpr fun lane _ => by simp [hr.labelFails hf lane]
  have hrelay : ¬(1 < h.relay.toNat ∨ (h.relay.toNat = 1 ∧ h.lengths ∉ relayLengths)) := by
    cases hx : h.relay
    · simp
    · simpa using hf.relay hx
  have hstart : ¬ 1 < (startTypeByte h.startType).toNat := by cases h.startType <;> decide
  have hnotify : ¬ 3 < (regionByte h.notify).toNat := by cases h.notify <;> decide
  have hlt := lanesWord_lt h.entered
  unfold Machine.heatFault
  dsimp only
  rw [hr.event, hr.heat, hr.lengths, hr.relay, hr.startType, hr.entered, lanesOf_lanesWord, hr.banner.1,
    hr.banner.2, hr.inhibit, hr.buttonWindow, hr.discrepancy, hr.lo, hr.notify, hfind, hinstalled,
    if_neg (not_not_intro hr.length), if_neg (by omega), if_neg (by omega), if_neg (by omega),
    if_neg hrelay, if_neg hstart, if_neg (by simp; omega)]
  dsimp only
  rw [if_neg (by simp [hf.banner.2, hf.banner.1]), if_neg (by omega), if_neg (by omega),
    if_neg (by omega), if_neg (by omega), if_neg (by have := hr.hi; omega), if_neg hnotify]

/-- Settles O55: every field stands at its offset and reads back. -/
theorem heatPayloadRoundTrip : Obligations.HeatPayloadRoundTrip := fun _ _ hv =>
  have hf := HeatRecord.fits_of_valid hv
  ⟨hf.readsFrom.heatFault hf, hf.readsFrom.heatOf hf⟩

/-! ### Profiles -/

/-- What a profile in range satisfies (R183). -/
structure Profile.Fits (q : Profile) : Prop where
  some : ∃ lane : Lane, q.installed[lane] = true
  recallWindow : q.recallWindow ≤ 3000
  latencies : ∀ pad : PadIx, q.latencies[pad] ≤ 100
  qualify : 1 ≤ q.qualify ∧ q.qualify ≤ 50
  platformLatency : q.platformLatency ≤ 50
  loadedLimit : 1 ≤ q.loadedLimit ∧ q.loadedLimit ≤ 1023
  unloadedLimit : 1 ≤ q.unloadedLimit ∧ q.unloadedLimit < q.loadedLimit

theorem Profile.fits_of_inRange {q : Profile} (h : q.inRange = true) : q.Fits := by
  unfold Profile.inRange at h
  simp only [Bool.and_eq_true, decide_eq_true_eq, List.any_eq_true, List.all_eq_true, mem_allLanes,
    mem_allPads, true_and, forall_true_left] at h
  obtain ⟨⟨⟨⟨⟨⟨h1, h2⟩, h3⟩, h4⟩, h5⟩, h6⟩, h7⟩ := h
  exact ⟨h1, h2, h3, h4, h5, h6, h7⟩

/-- What is read in a profile's payload (R184). -/
structure Profile.ReadsFrom (q : Profile) (p : List Byte) : Prop where
  length : p.length = profilePayloadLength
  course : byteAt p 0 = (courseByte q.course).toNat
  installed : wordAt p 1 = lanesWord q.installed
  source : byteAt p 3 = (timeSourceByte q.source).toNat
  recallWindow : wordAt p 4 = q.recallWindow
  latencies : ∀ pad : PadIx, byteAt p (6 + pad.val) = q.latencies[pad]
  dead : ∀ pad : PadIx, byteAt p (26 + pad.val) = (q.dead[pad]).toNat
  qualify : byteAt p 46 = q.qualify
  platformLatency : byteAt p 47 = q.platformLatency
  loadedLimit : wordAt p 48 = q.loadedLimit
  unloadedLimit : wordAt p 50 = q.unloadedLimit
  routing : ∀ row : RowIx, byteAt p (52 + 2 * row.val) = sourceCode (q.routing[row]).1 ∧
    byteAt p (53 + 2 * row.val) = (q.routing[row]).2.toNat
  defaultMode : byteAt p 76 = (refreshByte q.defaultMode).toNat

theorem sourceCode_le (x : RowSource) : sourceCode x ≤ 22 := by
  cases x <;> simp [sourceCode] <;> omega

theorem sourceOf_sourceCode (x : RowSource) : sourceOf (sourceCode x) = x := by
  unfold sourceOf sourceCode
  cases x with
  | blank => rfl
  | banner => rfl
  | clock => rfl
  | lane lane =>
    dsimp only
    rw [if_neg (by omega), if_neg (by omega), if_neg (by omega), if_pos (by omega)]
    congr 1
    apply Fin.ext
    show (3 + lane.val - 3) % 10 = lane.val
    omega
  | order k =>
    dsimp only
    rw [if_neg (by omega), if_neg (by omega), if_neg (by omega), if_neg (by omega)]
    congr 1
    apply Fin.ext
    show (13 + k.val - 13) % 10 = k.val
    omega

theorem Profile.Fits.readsFrom {q : Profile} (hf : q.Fits) : q.ReadsFrom (profilePayload q) := by
  have hlatencies : (allPads.map fun pad => BitVec.ofNat 8 q.latencies[pad]).length = 20 := by
    rw [List.length_map]; rfl
  have hdead : (allPads.map fun pad => boolByte q.dead[pad]).length = 20 := by
    rw [List.length_map]; rfl
  have hrouting : ((allRows.map fun row =>
      [BitVec.ofNat 8 (sourceCode (q.routing[row]).1), boolByte (q.routing[row]).2]).flatten).length = 24 :=
    length_flatten_map (w := 2) (fun _ => rfl) _
  have hlanes : (lanesBytes q.installed).length = 2 := natBytes_length _ _
  have hlen : (profilePayload q).length = profilePayloadLength := by
    simp only [profilePayload, List.length_append, hlatencies, hdead, hrouting, hlanes, natBytes_length]
    rfl
  have s0 : StandsAt (profilePayload q) 0 ([courseByte q.course] ++ (lanesBytes q.installed ++
      ([timeSourceByte q.source] ++ (natBytes 2 q.recallWindow ++
      ((allPads.map fun pad => BitVec.ofNat 8 q.latencies[pad]) ++
      ((allPads.map fun pad => boolByte q.dead[pad]) ++ (natBytes 1 q.qualify ++
      (natBytes 1 q.platformLatency ++ (natBytes 2 q.loadedLimit ++ (natBytes 2 q.unloadedLimit ++
      ((allRows.map fun row =>
        [BitVec.ofNat 8 (sourceCode (q.routing[row]).1), boolByte (q.routing[row]).2]).flatten ++
      [refreshByte q.defaultMode]))))))))))) :=
    standsAt_of_eq (by simp only [profilePayload, List.append_assoc])
  generalize profilePayload q = p at hlen s0
  have s1 : StandsAt p 1 _ := s0.right rfl
  have s3 : StandsAt p 3 _ := s1.right (by rw [hlanes])
  have s4 : StandsAt p 4 _ := s3.right rfl
  have s6 : StandsAt p 6 _ := s4.right (by rw [natBytes_length])
  have s26 : StandsAt p 26 _ := s6.right (by rw [hlatencies])
  have s46 : StandsAt p 46 _ := s26.right (by rw [hdead])
  have s47 : StandsAt p 47 _ := s46.right (by rw [natBytes_length])
  have s48 : StandsAt p 48 _ := s47.right (by rw [natBytes_length])
  have s50 : StandsAt p 50 _ := s48.right (by rw [natBytes_length])
  have s52 : StandsAt p 52 _ := s50.right (by rw [natBytes_length])
  have s76 : StandsAt p 76 _ := s52.right (by rw [hrouting])
  have hr := hf.recallWindow; have hq := hf.qualify; have hp := hf.platformLatency
  have hl := hf.loadedLimit; have hu := hf.unloadedLimit
  exact
    { length := hlen
      course := s0.byteAt
      installed := s1.left.wordAt_lanes
      source := s3.byteAt
      recallWindow := s4.left.wordAt_natBytes (by omega)
      latencies := fun pad => by
        have hat := s6.left.member (k := pad.val) (by simp [allPads])
        rw [allPads_getElem, BitVec.toNat_ofNat] at hat
        have := hf.latencies pad
        omega
      dead := fun pad => by
        have hat := s26.left.member (k := pad.val) (by simp [allPads])
        rwa [allPads_getElem, boolByte_toNat] at hat
      qualify := s46.left.byteAt_natBytes (by omega)
      platformLatency := s47.left.byteAt_natBytes (by omega)
      loadedLimit := s48.left.wordAt_natBytes (by omega)
      unloadedLimit := s50.left.wordAt_natBytes (by omega)
      routing := fun row => by
        have hat := s52.left.field (w := 2) (fun _ => rfl) (k := row.val) (by simp [allRows])
        rw [allRows_getElem] at hat
        refine ⟨hat.byteAt.trans ?_, ?_⟩
        · rw [BitVec.toNat_ofNat]
          have := sourceCode_le (q.routing[row]).1
          omega
        · have := hat.tail.byteAt
          rw [boolByte_toNat] at this
          rw [← this, show 52 + 2 * row.val + 1 = 53 + 2 * row.val by omega]
      defaultMode := s76.byteAt }

theorem toNat_beq_one (b : Bool) : (b.toNat == 1) = b := by cases b <;> rfl

/-- A profile in range is read as it was written. -/
theorem Profile.ReadsFrom.profileOf {q : Profile} {p : List Byte} (hr : q.ReadsFrom p) :
    profileOf p = q := by
  have hcourse : (if byteAt p 0 = 25 then Course.m25 else .m50) = q.course := by
    rw [hr.course]; cases q.course <;> rfl
  have hsource : (if byteAt p 3 = 0 then TimeSource.internal else .external) = q.source := by
    rw [hr.source]; cases q.source <;> rfl
  have hmode : (if byteAt p 76 = 0 then RefreshMode.continuous else .onChange) = q.defaultMode := by
    rw [hr.defaultMode]; cases q.defaultMode <;> rfl
  unfold Machine.profileOf
  rw [hcourse, hsource, hmode, hr.installed, lanesOf_lanesWord, hr.recallWindow, hr.qualify,
    hr.platformLatency, hr.loadedLimit, hr.unloadedLimit]
  simp only [hr.latencies, hr.dead, hr.routing, sourceOf_sourceCode, toNat_beq_one, Prod.mk.eta, tab_self]

/-- A profile in range passes every check of PROFILE_WRITE. -/
theorem Profile.ReadsFrom.profileFault {q : Profile} {p : List Byte} (hr : q.ReadsFrom p)
    (hf : q.Fits) : profileFault p = none := by
  have hrw := hf.recallWindow; have hq := hf.qualify; have hp := hf.platformLatency
  have hl := hf.loadedLimit; have hu := hf.unloadedLimit
  have hword : lanesWord q.installed ≠ 0 := fun hz => by
    obtain ⟨lane, hlane⟩ := hf.some
    rw [lanesWord_eq_zero hz] at hlane
    cases hlane
  have hlt := lanesWord_lt q.installed
  have hcourse : ¬((courseByte q.course).toNat ≠ 25 ∧ (courseByte q.course).toNat ≠ 50) := by
    cases q.course <;> decide
  have hsource : ¬ 1 < (timeSourceByte q.source).toNat := by cases q.source <;> decide
  have hmode : ¬ 1 < (refreshByte q.defaultMode).toNat := by cases q.defaultMode <;> decide
  have hlatencies : (allPads.find? fun pad => decide (100 < byteAt p (6 + pad.val))) = none :=
    List.find?_eq_none.mpr fun pad _ => by
      rw [hr.latencies]; simpa using hf.latencies pad
  have hdead : (allPads.find? fun pad => decide (1 < byteAt p (26 + pad.val))) = none :=
    List.find?_eq_none.mpr fun pad _ => by
      rw [hr.dead]; cases q.dead[pad] <;> simp
  have hrouting : (allRows.find? fun row =>
      decide (22 < byteAt p (52 + 2 * row.val) ∨ 1 < byteAt p (53 + 2 * row.val))) = none :=
    List.find?_eq_none.mpr fun row _ => by
      rw [(hr.routing row).1, (hr.routing row).2]
      have := sourceCode_le (q.routing[row]).1
      have := Bool.toNat_le (q.routing[row]).2
      simp only [decide_eq_true_eq]
      omega
  unfold Machine.profileFault
  rw [hr.course, hr.installed, hr.source, hr.recallWindow, hlatencies, hdead, hr.qualify,
    hr.platformLatency, hr.loadedLimit, hr.unloadedLimit, hrouting, hr.defaultMode,
    if_neg (not_not_intro hr.length), if_neg hcourse, if_neg (by omega), if_neg hsource,
    if_neg (by omega)]
  dsimp only
  rw [if_neg (by omega), if_neg (by omega), if_neg (by omega), if_neg (by omega), if_neg hmode]

/-- Settles O56: every field stands at its offset and reads back. -/
theorem profilePayloadRoundTrip : Obligations.ProfilePayloadRoundTrip := fun _ hq =>
  have hf := Profile.fits_of_inRange hq
  ⟨hf.readsFrom.profileFault hf, hf.readsFrom.profileOf⟩

end Sys2Proof.Machine

/-!
PROOFS. What has been told at the end of an event: the notices that the event has made, completed, behind those
that were there; and what a request on a ready link, an edge and an event at its deadline leave.
-/

namespace Sys2Proof.Machine

/-! ### Notices of an event -/

/-- The notices with these contents are what stands between `s` and `u` of the link, replies apart. -/
def State.Emits (bodies : List NoticeBody) (s u : State) : Prop :=
  u.clock = s.clock ∧
    u.link = { s.link.noteAll (bodies.map (Notice.mk s.masterTime)) with replies := u.link.replies }

theorem State.makes_iff_emits {p : NoticeBody → Prop} {s u : State} :
    s.Makes p u ↔ ∃ bodies, (∀ b ∈ bodies, p b) ∧ State.Emits bodies s u := by
  constructor
  · rintro ⟨hc, bodies, hb, hl⟩
    exact ⟨bodies, hb, hc, hl⟩
  · rintro ⟨bodies, hb, hc, hl⟩
    exact ⟨hc, bodies, hb, hl⟩

theorem State.Emits.nothing {s u : State} (hc : u.clock = s.clock) (hl : u.link = s.link) :
    State.Emits [] s u := ⟨hc, by simp [hl]⟩

theorem State.Emits.notify (b : NoticeBody) (s : State) : State.Emits [b] s (s.notify b) :=
  ⟨by simp, by simp [State.notify_eq, Link.noteAll]⟩

theorem State.Emits.trans {bs cs : List NoticeBody} {s t u : State} (h : State.Emits bs s t)
    (h' : State.Emits cs t u) : State.Emits (bs ++ cs) s u := by
  obtain ⟨hc, hl⟩ := h
  obtain ⟨hc', hl'⟩ := h'
  have hm : t.masterTime = s.masterTime := by unfold State.masterTime; rw [hc]
  refine ⟨hc'.trans hc, ?_⟩
  rw [hl', hl, hm, Link.noteAll_replies, List.map_append, Link.noteAll_append]

/-- What changes neither the clock nor the link may come before. -/
theorem State.Emits.behind {bs : List NoticeBody} {s t u : State} (h : State.Emits bs t u)
    (hc : t.clock = s.clock) (hl : t.link = s.link) : State.Emits bs s u :=
  State.Emits.trans (.nothing hc hl) h

/-- What changes neither the clock nor the link may follow. -/
theorem State.Emits.then {bs : List NoticeBody} {s t u : State} (h : State.Emits bs s t)
    (hc : u.clock = t.clock) (hl : u.link = t.link) : State.Emits bs s u := by
  simpa using h.trans (.nothing hc hl)

theorem State.Emits.pushReply {bs : List NoticeBody} {s u : State} (h : State.Emits bs s u) (r : Reply) :
    State.Emits bs s (u.pushReply r) :=
  ⟨h.1, by conv_lhs => rw [State.pushReply]; dsimp only; rw [h.2]
           rfl⟩

theorem State.Emits.masterTime {bs : List NoticeBody} {s u : State} (h : State.Emits bs s u) :
    u.masterTime = s.masterTime := by unfold State.masterTime; rw [h.1]

/-! ### The notices in the queue -/

/-- The queue behind a number of new notices: of all of them some of the oldest may be gone, of the new ones
at least the last 64 are there (R180). -/
theorem Link.noteAll_notices (ns : List Notice) (l : Link) : ∃ k, k ≤ (l.notices ++ ns).length ∧
    (l.noteAll ns).notices = (l.notices ++ ns).drop k ∧ k - l.notices.length ≤ ns.length - 64 := by
  suffices h : ∃ k, k ≤ (l.notices ++ ns).length ∧ (l.noteAll ns).notices = (l.notices ++ ns).drop k ∧
      (k = 0 ∨ 64 ≤ (l.noteAll ns).notices.length) by
    obtain ⟨k, hk, hn, hg⟩ := h
    refine ⟨k, hk, hn, ?_⟩
    rcases hg with rfl | hg
    · omega
    · rw [hn, List.length_drop, List.length_append] at hg
      omega
  induction ns using List.reverseRecOn with
  | nil => exact ⟨0, Nat.zero_le _, by simp, .inl rfl⟩
  | append_singleton ns n ih =>
    obtain ⟨k, hk, hn, hg⟩ := ih
    rw [Link.noteAll_append, Link.noteAll_cons, Link.noteAll_nil]
    unfold Link.note Config.noticeMax
    rw [← List.append_assoc]
    have hlen : (l.noteAll ns).notices.length = (l.notices ++ ns).length - k := by
      rw [hn, List.length_drop]
    split
    · next hlt =>
      refine ⟨k, by rw [List.length_append]; omega, ?_, .inl (hg.resolve_right (by omega))⟩
      dsimp only
      rw [hn, List.drop_append_of_le_length hk]
    · next hge =>
      refine ⟨k + 1, by simp only [List.length_append, List.length_singleton] at *; omega, ?_, .inr ?_⟩
      · dsimp only
        rw [hn, List.drop_drop, List.drop_append_of_le_length (l₁ := l.notices ++ ns) (by omega)]
      · dsimp only
        rw [List.length_append, List.length_drop, List.length_singleton]
        omega

/-! ### What has been told -/

theorem State.tells_iff_mem_told {n : Notice} {s : State} : s.tells n ↔ n ∈ s.told := by
  unfold State.tells State.told
  split
  · next m gap began h =>
    rw [h]
    simp only [List.mem_cons, Option.some.injEq, TxFrame.mk.injEq, Message.notice.injEq]
    constructor
    · rintro (hm | ⟨_, _, ⟨rfl, -⟩, -⟩)
      · exact .inr hm
      · exact .inl rfl
    · rintro (rfl | hm)
      · exact .inr ⟨_, _, ⟨rfl, rfl⟩, rfl⟩
      · exact .inl hm
  · next h =>
    constructor
    · rintro (hm | ⟨_, _, hl⟩)
      · exact hm
      · exact absurd hl (h _ _ _)
    · exact .inl

/-- The line takes the oldest message: what has been told stays (R179). -/
theorem State.transmit_told (s : State) : s.transmit.told = s.told := by
  unfold State.transmit
  split
  · next hc =>
    have hl : s.link.line = none := by
      simp only [Link.canBegin, Bool.and_eq_true, Option.isNone_iff_eq_none] at hc
      exact hc.1
    cases hr : s.link.replies with
    | cons r rest => simp [State.told, Link.begin, hl, hr]
    | nil =>
      cases hn : s.link.notices with
      | nil => simp [Link.canBegin, hr, hn] at hc
      | cons n rest => simp [State.told, Link.begin, hl, hr, hn]
  · rfl

/-- At the end of an event the notices it has made stand behind the others, completed (R180). -/
def State.ToldBehind (s u : State) (bodies : List NoticeBody) (t : State) : Prop :=
  ∃ older k, t.told = older ++ (bodies.drop k).map (fun b => (Notice.mk s.masterTime b).completed u.lanes) ∧
    (s.link.fresh = 0 → older.Sublist s.told) ∧ k ≤ bodies.length - 64

theorem State.told_of_line {s t : State} (h : t.link.line = s.link.line)
    (hn : t.link.notices.Sublist s.link.notices) : t.told.Sublist s.told := by
  unfold State.told
  rw [h]
  split
  · exact hn.cons_cons _
  · exact hn

/-- The queue at the end of an event: the last notices, those of the event, are completed (R180). -/
theorem State.sealNotices_notices {bodies : List NoticeBody} {s u : State}
    (h : State.Emits bodies s u) : ∃ older k,
      u.sealNotices.link.notices =
        older ++ (bodies.drop k).map (fun b => (Notice.mk s.masterTime b).completed u.lanes) ∧
      (s.link.fresh = 0 → older.Sublist s.link.notices) ∧ k ≤ bodies.length - 64 := by
  obtain ⟨k, hk, hn, hall⟩ := s.link.noteAll_notices (bodies.map (Notice.mk s.masterTime))
  have hnotices : u.link.notices = s.link.notices.drop k ++
      (bodies.drop (k - s.link.notices.length)).map (Notice.mk s.masterTime) := by
    rw [h.2]
    show (s.link.noteAll _).notices = _
    rw [hn, List.drop_append, List.map_drop]
  have hfresh : u.link.fresh = s.link.fresh + bodies.length := by
    rw [h.2]
    show (s.link.noteAll _).fresh = _
    simp
  have hcount : u.link.notices.length - u.link.fresh ≤ (s.link.notices.drop k).length := by
    rw [hnotices, hfresh, List.length_append, List.length_map, List.length_drop, List.length_drop]
    omega
  refine ⟨(s.link.notices.drop k).take (u.link.notices.length - u.link.fresh) ++
    ((s.link.notices.drop k).drop (u.link.notices.length - u.link.fresh)).map
      (Notice.completed u.lanes), k - s.link.notices.length, ?_, fun hf => ?_, by simpa using hall⟩
  · unfold State.sealNotices Link.freshNotices
    dsimp only
    generalize u.link.notices.length - u.link.fresh = j at hcount
    rw [hnotices, List.take_append_of_le_length hcount, List.drop_append_of_le_length hcount,
      List.map_append, List.append_assoc, List.map_map]
    rfl
  · by_cases hb : k ≤ s.link.notices.length
    · have hj : u.link.notices.length - u.link.fresh = (s.link.notices.drop k).length := by
        rw [hnotices, hfresh, hf, List.length_append, List.length_map, List.length_drop,
          List.length_drop]
        omega
      rw [hj, List.take_length, List.drop_length, List.map_nil, List.append_nil]
      exact List.drop_sublist _ _
    · rw [List.drop_eq_nil_of_le (by omega)]
      simp

/-- What an event has told at its end. -/
theorem State.settle_told {bodies : List NoticeBody} {s u : State} (h : State.Emits bodies s u) :
    s.ToldBehind u bodies u.settle := by
  have hb : State.Emits bodies s u.boardSettle := h.then rfl rfl
  obtain ⟨older, k, hn, hs, hk⟩ := State.sealNotices_notices hb
  have hline : u.settle.told = u.eventEnd.told := State.transmit_told _
  have hl : u.eventEnd.link.line = s.link.line := by
    show u.link.line = _
    rw [h.2]
    show (s.link.noteAll _).line = _
    simp
  unfold State.ToldBehind
  rw [hline]
  unfold State.told
  rw [hl]
  split
  · next n gap began _ =>
    refine ⟨n :: older, k, ?_, fun hf => (hs hf).cons_cons _, hk⟩
    show n :: u.eventEnd.link.notices = _
    exact congrArg _ hn
  · exact ⟨older, k, hn, hs, hk⟩

namespace State.ToldBehind

variable {s u t : State} {bodies : List NoticeBody} (h : s.ToldBehind u bodies t)
include h

/-- The last 64 notices of the event, and all when they are not more, are the last that have been told. -/
theorem suffix {before last : List NoticeBody} (hb : bodies = before ++ last) (hlen : last.length ≤ 64) :
    last.map (fun b => (Notice.mk s.masterTime b).completed u.lanes) <:+ t.told := by
  obtain ⟨older, k, ht, -, hk⟩ := h
  rw [hb, List.length_append] at hk
  rw [hb, List.drop_append_of_le_length (by omega), List.map_append, ← List.append_assoc] at ht
  exact ⟨_, ht.symm⟩

theorem tells (hlen : bodies.length ≤ 64) {b : NoticeBody} (hb : b ∈ bodies) :
    t.tells ((Notice.mk s.masterTime b).completed u.lanes) :=
  State.tells_iff_mem_told.mpr ((h.suffix (before := []) rfl hlen).subset
    (List.mem_map_of_mem (f := fun b => (Notice.mk s.masterTime b).completed u.lanes) hb))

end State.ToldBehind

/-! ### What a command leaves -/

/-- An event at its deadline, before any limit: what it leaves, and what it has told. -/
theorem State.ifDue_does {d : Nat} {deadline : State → Option Nat} (f : State → State) {s : State}
    {c : Instr} (hr : s.isRunning = true) (hc : exec c s = .next (s.whenRunning fun s => s.ifDue deadline f))
    (hd : deadline s = some d) (hq : s.quietUntil d = true) (hd' : deadline (s.advance d) = some d) :
    exec c s = .next (f (s.advance d)).settle := by
  rw [hc, State.whenRunning_running _ hr, State.ifDue_quiet f hd hq hd']

/-- A request on a ready link in quiet time: the state after, what it leaves, and its answer. -/
theorem State.request_does {s : State} {kind : RequestKind} {m : Nat} {tag : Byte} {p : List Byte}
    {c : Instr} (hc : exec c s = .next (s.request kind m tag p)) {u : State} {a : Answer}
    (hr : s.isRunning = true) (h : s.linkReady) (hq : s.quietUntil m = true)
    (hh : (s.advance m).handle ⟨kind, tag, p⟩ = ⟨u, some a⟩) :
    ∃ t, exec c s = .next t ∧ t = (u.pushReply ⟨.execution, some kind, tag, a⟩).settle ∧ u.Leaves t ∧
      t.answers kind tag a := by
  have := State.request_leaves hr h hq hh
  exact ⟨_, hc, State.request_handled hr h hq hh, this.1, this.2⟩

/-- `t` is `u`, but for what the end of a command does to the board and to the console line. -/
def State.EndsAs (u t : State) : Prop :=
  t = { u with board := t.board, link := t.link } ∧ u.boardKept t ∧ u.linkKept t

theorem State.Leaves.endsAs {u t : State} (l : u.Leaves t) : u.EndsAs t := ⟨l.eq, l.board, l.link⟩

theorem State.Emits.linkKept {bodies : List NoticeBody} {s u : State} (h : State.Emits bodies s u) :
    s.linkKept u := by
  unfold State.linkKept
  rw [h.2]
  simp

/-- Notices change nothing of the state but the link. -/
theorem State.Leaves.behindNotices {bodies : List NoticeBody} {s u t : State} (l : u.Leaves t)
    (h : State.Emits bodies s u) (hu : u = { s with link := u.link }) : s.EndsAs t := by
  obtain ⟨k1, k2, k3, k4, k5⟩ := h.linkKept
  obtain ⟨l1, l2, l3, l4, l5⟩ := l.link
  have hb := l.board
  have he := l.eq
  rw [hu] at he hb
  exact ⟨he, hb, l1.trans k1, l2.trans k2, l3.trans k3, l4.trans k4, l5.trans k5⟩

theorem State.Leaves.behindNotice {b : NoticeBody} {s t : State} (l : (s.notify b).Leaves t) :
    s.EndsAs t :=
  l.behindNotices (.notify b s) (by rw [State.notify_eq])

/-- The one notice of an event has been told, completed. -/
theorem State.Leaves.tellsNotice {b : NoticeBody} {s t : State} (l : (s.notify b).Leaves t)
    (hb : b.withReasons s.lanes = b) : t.tells ⟨t.masterTime, b⟩ := by
  have hm : t.masterTime = s.masterTime := by rw [l.masterTime]; simp [State.masterTime]
  rw [hm]
  refine l.tells _ ?_ (State.notify_tells b s)
  unfold Notice.completed
  rw [show (s.notify b).lanes = s.lanes by simp]
  exact congrArg _ hb

/-! ### The console line at the end of an event -/

/-- An event that makes no notice leaves the link to the transmission. -/
theorem State.eventEnd_link_quiet {s : State} (h : s.link.fresh = 0) : s.eventEnd.link = s.link := by
  have hl : s.eventEnd.link = { s.link with
      fresh := 0
      notices := s.link.notices.take (s.link.notices.length - s.link.fresh) ++
        (s.link.notices.drop (s.link.notices.length - s.link.fresh)).map (Notice.completed s.lanes) } := rfl
  rw [hl, h, Nat.sub_zero, List.take_length, List.drop_length, List.map_nil, List.append_nil, ← h]

theorem State.transmit_taken {s : State} (h : s.link.line ≠ none) : s.transmit = s := by
  unfold State.transmit
  rw [if_neg]
  simp [Link.canBegin, h]

theorem State.transmit_reply {s : State} {r : Reply} {rest : List Reply} (hl : s.link.line = none)
    (h : s.link.replies = r :: rest) :
    s.transmit = { s with link := { s.link with replies := rest, line := some ⟨.reply r, s.clock⟩ } } := by
  unfold State.transmit
  rw [if_pos (by simp [Link.canBegin, hl, h])]
  unfold Link.begin
  rw [h]

theorem State.transmit_notice {s : State} {n : Notice} {rest : List Notice} (hl : s.link.line = none)
    (hr : s.link.replies = []) (h : s.link.notices = n :: rest) :
    s.transmit = { s with link := { s.link with
      notices := rest, gap := false, line := some ⟨.notice n s.link.gap, s.clock⟩ } } := by
  unfold State.transmit
  rw [if_pos (by simp [Link.canBegin, hl, h])]
  have hb : s.link.begin s.clock = { s.link with
      notices := rest, gap := false, line := some ⟨.notice n s.link.gap, s.clock⟩ } := by
    unfold Link.begin
    split <;> simp_all
  rw [hb]

theorem State.transmit_idle {s : State} (hr : s.link.replies = []) (h : s.link.notices = []) :
    s.transmit = s := by
  unfold State.transmit
  rw [if_neg]
  simp [Link.canBegin, hr, h]

/-- On a taken line an event without a notice leaves the link as it is. -/
theorem State.settle_link_taken {s : State} (hf : s.link.fresh = 0) (hl : s.link.line ≠ none) :
    s.settle.link = s.link := by
  unfold State.settle
  rw [State.transmit_taken (by rwa [State.eventEnd_link_quiet hf]), State.eventEnd_link_quiet hf]

/-- On a taken line no reply goes. -/
theorem State.settle_replies_taken {s : State} (hl : s.link.line ≠ none) :
    s.settle.link.replies = s.link.replies := by
  unfold State.settle
  rw [State.transmit_taken (s := s.eventEnd) hl]
  rfl

/-- A reply that begins on a free line leaves the notices where they are. -/
theorem State.transmit_notices_of_replies {s : State} (h : s.link.replies ≠ []) :
    s.transmit.link.notices = s.link.notices ∧ s.transmit.link.gap = s.link.gap := by
  by_cases hl : s.link.line = none
  · obtain ⟨r, rest, hr⟩ := List.exists_cons_of_ne_nil h
    rw [State.transmit_reply hl hr]
    exact ⟨rfl, rfl⟩
  · rw [State.transmit_taken hl]
    exact ⟨rfl, rfl⟩

/-- Transmission makes no message and drops none. -/
theorem State.transmit_tells_iff {n : Notice} {s : State} : s.transmit.tells n ↔ s.tells n := by
  rw [State.tells_iff_mem_told, State.tells_iff_mem_told, State.transmit_told]

theorem State.transmit_gives_iff {r : Reply} {s : State} (hl : s.link.line = none) :
    s.transmit.gives r ↔ s.gives r := by
  refine ⟨fun h => ?_, State.transmit_gives⟩
  unfold State.gives at h ⊢
  left
  cases hr : s.link.replies with
  | cons r' rest =>
    rw [State.transmit_reply hl hr] at h
    rcases h with h | ⟨_, h⟩
    · exact List.mem_cons_of_mem _ h
    · injection h with h; injection h with h _; injection h with h; rw [h]; exact List.mem_cons_self
  | nil =>
    cases hn : s.link.notices with
    | nil =>
      rw [State.transmit_idle hr hn, hl, hr] at h
      simp at h
    | cons n rest =>
      rw [State.transmit_notice hl hr hn] at h
      simp [hr] at h

end Sys2Proof.Machine

/-!
PROOFS. The board at the end of an event: which frame a free line begins, and what a full pass leaves.
-/

namespace Sys2Proof.Machine

theorem set_getElem_self {α : Type} {n : Nat} (v : Vector α n) (i : Fin n) (x : α) :
    (v.set i x)[i] = x := by simp

theorem set_getElem_ne {α : Type} {n : Nat} {v : Vector α n} {i j : Fin n} {x : α} (h : j ≠ i) :
    (v.set i x)[j] = v[j] := by
  have : i.val ≠ j.val := fun he => h (Fin.ext he.symm)
  simp [this]

/-! ### The line's next frame -/

theorem feedLine_taken {clock : Nat} {b : Board} (h : b.line.isSome = true) : feedLine clock b = b := by
  unfold feedLine; rw [if_pos h]

theorem feedLine_owed {clock : Nat} {b : Board} {row : RowIx} (hl : b.line = none) (h : b.owed = some row) :
    feedLine clock b = beginFrame clock row { b with owed := none } := by
  unfold feedLine; rw [if_neg (by simp [hl]), h]

theorem feedLine_pending {clock : Nat} {b : Board} {row : RowIx} (hl : b.line = none) (ho : b.owed = none)
    (h : lowestPending b = some row) :
    feedLine clock b = beginFrame clock row { b with pendingRows := b.pendingRows.set row false } := by
  unfold feedLine; rw [if_neg (by simp [hl]), ho]; dsimp only; rw [h]

theorem feedLine_idle {clock : Nat} {b : Board} (ho : b.owed = none) (h : lowestPending b = none) :
    feedLine clock b = b := by
  unfold feedLine
  split
  · rfl
  · rw [ho]; dsimp only; rw [h]

/-- The rows stand in their order in the list of rows. -/
theorem allRows_sorted : allRows.Pairwise (· < ·) := by decide

theorem lowestPending_eq_none {b : Board} : lowestPending b = none ↔ ∀ row : RowIx, b.pendingRows[row] = false := by
  unfold lowestPending
  rw [List.find?_eq_none]
  simp [mem_allRows]

theorem find?_lowest {l : List RowIx} (hl : l.Pairwise (· < ·)) {f : RowIx → Bool} {row : RowIx}
    (hm : row ∈ l) (h : f row = true) (hlow : ∀ q < row, f q = false) : l.find? f = some row := by
  induction l with
  | nil => cases hm
  | cons a rest ih =>
    rw [List.pairwise_cons] at hl
    rcases List.mem_cons.mp hm with rfl | hm
    · exact List.find?_cons_of_pos h
    · rw [List.find?_cons_of_neg (by simp [hlow a (hl.1 row hm)])]
      exact ih hl.2 hm

theorem lowestPending_eq_some {b : Board} {row : RowIx} (h : b.pendingRows[row] = true)
    (hlow : ∀ q < row, b.pendingRows[q] = false) : lowestPending b = some row :=
  find?_lowest (f := fun row => b.pendingRows[row]) allRows_sorted (mem_allRows row) h hlow

/-! ### The board at the end of an event -/

theorem boardAfter_unconfigured {clock : Nat} {image : Vector Row 12} {b : Board} :
    boardAfter clock false image b = { b with image := image, passDue := false } := rfl

theorem boardAfter_test {clock : Nat} {image : Vector Row 12} {b : Board} (h : b.test = true) :
    boardAfter clock true image b = feedLine clock { b with image := image, passDue := false } := by
  unfold boardAfter
  dsimp only
  rw [if_neg (by simp), if_pos h]

theorem boardAfter_pass {clock : Nat} {image : Vector Row 12} {b : Board} (ht : b.test = false)
    (h : b.passDue = true) : boardAfter clock true image b =
      feedLine clock (fullPass clock { b with image := image, passDue := false }) := by
  unfold boardAfter
  dsimp only
  rw [if_neg (by simp), if_neg (by simp [ht]), if_pos h]

theorem boardAfter_changes {clock : Nat} {image : Vector Row 12} {b : Board} (ht : b.test = false)
    (h : b.passDue = false) : boardAfter clock true image b =
      feedLine clock (joinChanged b.image { b with image := image, passDue := false }) := by
  unfold boardAfter
  dsimp only
  rw [if_neg (by simp), if_neg (by simp [ht]), if_neg (by simp [h])]

theorem State.settle_board (s : State) :
    s.settle.board = boardAfter s.clock s.configured s.imageNow s.board := by
  unfold State.settle
  simp [State.boardSettle]

/-- The rows do not depend on what the end of an event changes. -/
theorem State.settle_imageNow (s : State) : s.settle.imageNow = s.imageNow := by
  unfold State.imageNow State.rowOf State.bannerText State.clockText State.leadHundredths
    State.runningOrder State.raceTicks State.raceTime State.masterTime
  simp

theorem State.settle_configured (s : State) : s.settle.configured = s.configured := by
  simp [State.configured]

theorem State.imageNow_blank {s : State} (h : s.configured = false) (row : RowIx) :
    s.imageNow[row] = .blank := by
  have : s.store.inForce = none := by simpa [State.configured] using h
  unfold State.imageNow
  rw [this]
  simp

/-! ### The full pass -/

theorem fullPass_onChange {clock : Nat} {b : Board} (hm : b.mode = some .onChange) :
    fullPass clock b =
      { b with pendingRows := tab fun _ => true, periodic := some (clock + Config.passTicks) } := by
  unfold fullPass; rw [hm]

theorem fullPass_continuous {clock : Nat} {b : Board} (hm : b.mode = some .continuous) :
    fullPass clock b = takeSlot clock { b with cursor := 0 } := by
  unfold fullPass; rw [hm]

/-- The pass in ON_CHANGE: row 0 begins on a free line, the others are pending. -/
theorem feedLine_pass_onChange {clock : Nat} {b : Board} (hm : b.mode = some .onChange)
    (ht : b.test = false) (ho : b.owed = none) : feedLine clock (fullPass clock b) =
      { b with
        periodic := some (clock + Config.passTicks)
        line := some (b.line.getD ⟨0, b.image[(0 : RowIx)], clock⟩)
        pendingRows := (tab fun _ => true).set (0 : RowIx) b.line.isSome } := by
  rw [fullPass_onChange hm]
  cases hl : b.line with
  | some f =>
    rw [feedLine_taken (by simp)]
    congr 1
  | none =>
    rw [feedLine_pending (row := 0)
      (b := { b with
        pendingRows := tab fun _ => true, periodic := some (clock + Config.passTicks), line := none })
      rfl ho (lowestPending_eq_some (by simp) fun q hq => absurd hq (Fin.not_lt_zero q))]
    simp only [beginFrame, ht]
    rfl

/-- The pass in CONTINUOUS: row 0 begins on a free line, and is owed to a taken one. -/
theorem feedLine_pass_continuous {clock : Nat} {b : Board} (hm : b.mode = some .continuous)
    (ht : b.test = false) : feedLine clock (fullPass clock b) =
      { b with
        cursor := 1, nextSlot := some (clock + Config.slotTicks)
        line := some (b.line.getD ⟨0, b.image[(0 : RowIx)], clock⟩)
        owed := b.line.map fun _ => 0 } := by
  rw [fullPass_continuous hm]
  unfold takeSlot
  cases hl : b.line with
  | some f => rw [feedLine_taken (by simp)]; rfl
  | none =>
    rw [feedLine_owed (row := 0) (by rfl) (by rfl)]
    simp only [beginFrame, ht]
    rfl

/-- What the full pass makes of a board: in ON_CHANGE it is to owe no row (R165 to R167). -/
theorem State.passMade_settle {v : State} (hc : v.configured = true) (ht : v.board.test = false)
    (hp : v.board.passDue = true) (ho : v.board.mode = some .onChange → v.board.owed = none)
    (hm : v.board.mode.isSome = true) : v.settle.PassMade v.board.line := by
  have hb := v.settle_board
  rw [hc, boardAfter_pass ht hp] at hb
  unfold State.PassMade
  rw [State.settle_imageNow, show v.settle.clock = v.clock by simp, hb]
  obtain ⟨mode, hmode⟩ := Option.isSome_iff_exists.mp hm
  cases mode with
  | onChange =>
    rw [feedLine_pass_onChange (b := { v.board with image := v.imageNow, passDue := false }) hmode ht
      (ho hmode)]
    refine ⟨rfl, fun _ => ⟨rfl, fun row hrow => ?_, set_getElem_self _ _ _⟩, fun h => ?_⟩
    · show ((tab fun _ => true).set (0 : RowIx) _)[row] = _
      rw [set_getElem_ne hrow]
      simp
    · rw [hmode] at h; cases h
  | continuous =>
    rw [feedLine_pass_continuous (b := { v.board with image := v.imageNow, passDue := false }) hmode ht]
    refine ⟨rfl, fun h => ?_, fun _ => ⟨rfl, rfl, rfl⟩⟩
    rw [hmode] at h; cases h

/-- On a settled line nothing begins. -/
theorem feedLine_settled {clock : Nat} {b : Board}
    (h : b.line.isSome = true ∨ (b.owed = none ∧ ∀ row : RowIx, b.pendingRows[row] = false)) :
    feedLine clock b = b := by
  rcases h with h | ⟨ho, hrows⟩
  · exact feedLine_taken h
  · exact feedLine_idle ho (lowestPending_eq_none.mpr hrows)

theorem State.sendsKept_trans {s t u : State} (h : s.sendsKept t) (h' : t.sendsKept u) : s.sendsKept u := by
  obtain ⟨a1, a2, a3, a4, a5, a6⟩ := h
  obtain ⟨b1, b2, b3, b4, b5, b6⟩ := h'
  exact ⟨b1.trans a1, b2.trans a2, b3.trans a3, b4.trans a4, b5.trans a5, b6.trans a6⟩

theorem State.lineSettled_of_sendsKept {s t : State} (h : s.sendsKept t) (hl : s.lineSettled) :
    t.lineSettled := by
  obtain ⟨a1, a2, a3, -⟩ := h
  unfold State.lineSettled at *
  rwa [a1, a2, a3]

/-- While the test is on and the line settled, the end of an event sends nothing. -/
theorem State.settle_sendsKept_test {v : State} (hc : v.configured = true) (ht : v.board.test = true)
    (hl : v.lineSettled) : v.sendsKept v.settle := by
  have hb := v.settle_board
  rw [hc, boardAfter_test ht, feedLine_settled (b := { v.board with image := v.imageNow, passDue := false }) hl] at hb
  simp [State.sendsKept, hb]

theorem State.settle_sendsKept_unconfigured {v : State} (hc : v.configured = false) :
    v.sendsKept v.settle := by
  have hb := v.settle_board
  rw [hc, boardAfter_unconfigured] at hb
  simp [State.sendsKept, hb]

/-- What an event that asks for a full pass leaves of the board line. -/
theorem State.passTaken_settle {s v : State} (hp : v.board.passDue = true) (hk : s.sendsKept v)
    (ht : v.board.test = s.board.test) (hm : v.configured = true → v.board.mode.isSome = true) :
    s.PassTaken v.settle := by
  have ⟨hline, howed, _⟩ := hk
  refine ⟨fun hc htest ho => ?_, fun hc htest hset => ?_, fun hc => ⟨?_, fun row => ?_⟩⟩
  · rw [State.settle_configured] at hc
    rw [← hline]
    exact State.passMade_settle hc (ht.trans htest) hp (fun _ => howed.trans ho) (hm hc)
  · rw [State.settle_configured] at hc
    exact State.sendsKept_trans hk (State.settle_sendsKept_test hc (ht.trans htest)
      (State.lineSettled_of_sendsKept hk hset))
  · rw [State.settle_configured] at hc
    exact State.sendsKept_trans hk (State.settle_sendsKept_unconfigured hc)
  · rw [State.settle_image]
    exact State.imageNow_blank hc row

end Sys2Proof.Machine

/-!
PROOFS. Requests on a ready link: each computes what its handling makes, and the rest is what every request
leaves.
-/

namespace Sys2Proof.Machine

/-- Settles O47: both requests set fields of the place order's block. -/
theorem lockGuardsTheArchive : Obligations.LockGuardsTheArchive := by
  intro s m tag hr hl hq
  refine ⟨?_, fun hlock => ?_, fun hlock => ?_⟩
  · obtain ⟨t, ht, -, l, ha⟩ := State.request_does (c := .lockResults m tag []) rfl hr hl hq rfl
    exact ⟨t, ht, l.eq, l.board, l.link, ha⟩
  · have hh : (s.advance m).handle ⟨.archiveClear, tag, []⟩ =
        ((s.advance m).setArchive [] false).accept (.cleared s.placing.archive.length) := by
      show (if s.placing.locked = true then _ else _) = _
      rw [if_neg (by simp [hlock])]
      rfl
    obtain ⟨t, ht, -, l, ha⟩ := State.request_does (c := .archiveClear m tag []) rfl hr hl hq hh
    refine ⟨t, ht, ?_, l.board, l.link, ha⟩
    rw [show t.placing.archive = [] by rw [l.placing]; rfl]
    exact l.eq
  · have hh : (s.advance m).handle ⟨.archiveClear, tag, []⟩ = (s.advance m).deny .locked := by
      show (if s.placing.locked = true then _ else _) = _
      rw [if_pos hlock]
    obtain ⟨t, ht, -, l, ha⟩ := State.request_does (c := .archiveClear m tag []) rfl hr hl hq hh
    exact ⟨t, ht, l.eq, l.board, l.link, ha⟩

/-- Settles O7. -/
theorem timebaseRestartAcquiresAfresh : Obligations.TimebaseRestartAcquiresAfresh := by
  intro s m tag hr hl hq hrace hstate
  have hh : (s.advance m).handle ⟨.timebaseRestart, tag, []⟩ =
      ((s.advance m).enterAcquiring.notifyTimebase s.timebase.state .restartRequest).accept
        (.timebase .acquiring s.timebase.source (s.advance m).masterTime) := by
    show (if s.armedOrRunning = true then _ else if s.timebase.state = .unlocked then _ else _) = _
    rw [if_neg (by simp [hrace]), if_neg hstate]
    rfl
  obtain ⟨t, ht, -, l, ha⟩ := State.request_does (c := .timebaseRestart m tag []) rfl hr hl hq hh
  obtain ⟨he, hb, hk⟩ := State.Leaves.behindNotice l
  have hm : t.masterTime = (s.advance m).masterTime := by rw [he]; rfl
  rw [← hm] at ha
  exact ⟨t, ht, he, hb, hk, ha, State.Leaves.tellsNotice l rfl⟩

/-- Settles O51: the reply is made behind the request, which waits for nothing. -/
theorem restartStopsExecution : Obligations.RestartStopsExecution := by
  intro s m tag hr hl hq
  obtain ⟨t, ht, hset, l, ha⟩ := State.request_does (c := .restart m tag []) rfl hr hl hq rfl
  obtain ⟨k1, k2, k3, k4, k5⟩ := l.link
  refine ⟨t, ht, l.eq, k5, k4.trans hl.1, l.board, k1, k2, k3, fun hf hline => ?_, fun hf hline => ?_, ha⟩
  · rw [hset]
    exact State.settle_link_taken hf hline
  · rw [hset]
    unfold State.settle
    have hq := State.eventEnd_link_quiet (s := State.pushReply ⟨.execution, some .restart, tag,
      .accepted .empty⟩ { s.advance m with link := { s.link with restarting := true } }) hf
    obtain ⟨h1, h2⟩ := State.transmit_notices_of_replies (by rw [hq]; simp)
    rw [hq] at h1 h2
    exact ⟨h1, h2⟩

/-! ### The profile store and the service procedures -/

theorem guardedField_eq_none {a b : Profile} (h1 : a.course = b.course) (h2 : a.installed = b.installed)
    (h3 : a.source = b.source) : guardedField a b = none := by
  simp [guardedField, h1, h2, h3]

/-- Settles O49. -/
theorem profileWriteStartsOrIsProtected : Obligations.ProfileWriteStartsOrIsProtected := by
  have refusal : ∀ (s : State) (m : Nat) (tag : Byte) (payload : List Byte), profileFault payload = none →
      s.armedOrRunning = false → s.busy = false → (s.advance m).handle ⟨.profileWrite, tag, payload⟩ =
        match s.setupRefusal (profileOf payload) with
        | some field => (s.advance m).deny (.guarded (some field))
        | none => ((s.advance m).startWrite (profileOf payload) false).accept .empty := by
    intro s m tag payload hp hr hb
    show (s.advance m).handleProfileWrite payload = _
    unfold State.handleProfileWrite
    rw [hp]
    show (if s.armedOrRunning = true then _ else if s.busy = true then _ else _) = _
    rw [if_neg (by simp [hr]), if_neg (by simp [hb])]
    rfl
  refine ⟨fun s m tag payload hr hl hq hp hrace hb hfree => ?_,
    fun s p m tag payload hr hl hq hp hrace hb hmode hopen hforce hdiff => ?_⟩
  · have hh := refusal s m tag payload hp hrace hb
    have hnone : s.setupRefusal (profileOf payload) = none := by
      unfold State.setupRefusal
      split
      · next hc =>
        rcases hfree with hm | ho | hsame
        · rw [hm] at hc; cases hc.1
        · rw [ho] at hc; cases hc.2
        · split
          · rfl
          · next p hforce =>
            obtain ⟨h1, h2, h3⟩ := hsame p hforce
            exact guardedField_eq_none h1 h2 h3
      · rfl
    rw [hnone] at hh
    obtain ⟨t, ht, -, l, ha⟩ := State.request_does (c := .profileWrite m tag payload) rfl hr hl hq hh
    exact ⟨t, ht, l.eq, l.board, l.link, ha⟩
  · have hh := refusal s m tag payload hp hrace hb
    have hsome : s.setupRefusal (profileOf payload) = some
        (if p.course ≠ (profileOf payload).course then 1
          else if p.installed ≠ (profileOf payload).installed then 2 else 3) := by
      unfold State.setupRefusal
      rw [if_pos ⟨hmode, hopen⟩, hforce]
      dsimp only
      unfold guardedField
      split
      · rfl
      · next h1 =>
        split
        · rfl
        · next h2 => rw [if_pos ((hdiff.resolve_left h1).resolve_left h2)]
    rw [hsome] at hh
    obtain ⟨t, ht, -, l, ha⟩ := State.request_does (c := .profileWrite m tag payload) rfl hr hl hq hh
    exact ⟨t, ht, l.eq, l.board, l.link, ha⟩

/-- A request that is answered later: what it leaves. -/
theorem State.request_deferred {s : State} {kind : RequestKind} {m : Nat} {tag : Byte} {p : List Byte}
    {c : Instr} (hc : exec c s = .next (s.request kind m tag p)) {u : State} (hr : s.isRunning = true)
    (h : s.linkReady) (hq : s.quietUntil m = true)
    (hh : (s.advance m).handle ⟨kind, tag, p⟩ = ⟨u, none⟩) :
    ∃ t, exec c s = .next t ∧ t = u.settle ∧ u.Leaves t := by
  refine ⟨_, ?_, rfl, State.settle_leaves u⟩
  rw [hc, State.request_ready _ _ _ _ hr h hq]
  unfold State.executed
  rw [hh]
  rfl

/-- Settles O50. -/
theorem serviceProceduresBegin : Obligations.ServiceProceduresBegin := by
  intro s m tag hr hl hq hmode hrace hbusy hstate
  refine ⟨fun p pad rest hforce hpads => ?_, ?_⟩
  · have hh : (s.advance m).handle ⟨.levelPads, tag, []⟩ =
        (State.nextTurn (pad :: rest) { s.advance m with wall := { s.wall with results := [] } }).accept
          (.leveling (rest.length + 1)) := by
      show (s.advance m).handleLevelPads [] = _
      unfold State.handleLevelPads
      rw [if_neg (by simp), if_neg (by rw [show (s.advance m).store.mode = s.store.mode from rfl, hmode]; simp),
        show (s.advance m).store.inForce = some p from hforce]
      show (if ¬(s.heat.race = .idle ∨ s.heat.race = .loaded) then _ else if s.busy = true then _
        else if s.timebase.state = .unlocked then _ else _) = _
      rw [if_neg (not_not_intro hrace), if_neg (by simp [hbusy]), if_neg hstate, hpads]
      rfl
    obtain ⟨t, ht, -, l, ha⟩ := State.request_does (c := .levelPads m tag []) rfl hr hl hq hh
    exact ⟨t, ht, l.eq, l.board, l.link, ha⟩
  · have hh : (s.advance m).handle ⟨.probeBlocks, tag, []⟩ =
        ⟨{ (s.advance m).powerScanner with scanner :=
            { (s.advance m).powerScanner.scanner with
              probe := some tag, probeTest := none, probeReadings := tab fun _ => none } }, none⟩ := by
      show (s.advance m).handleProbeBlocks tag [] = _
      unfold State.handleProbeBlocks
      rw [if_neg (by simp), if_neg (by rw [show (s.advance m).store.mode = s.store.mode from rfl, hmode]; simp)]
      show (if ¬(s.heat.race = .idle ∨ s.heat.race = .loaded) then _ else if s.busy = true then _
        else if s.timebase.state = .unlocked then _ else _) = _
      rw [if_neg (not_not_intro hrace), if_neg (by simp [hbusy]), if_neg hstate]
    obtain ⟨t, ht, hset, l⟩ := State.request_deferred (c := .probeBlocks m tag []) rfl hr hl hq hh
    refine ⟨t, ht, ?_, ?_, ?_, ?_, ?_, l.board, l.link, fun hline => ?_⟩
    · rw [l.scanner]; exact l.eq
    · rw [l.scanner]; rfl
    · rw [l.scanner]; rfl
    · rw [l.scanner]
    · rw [l.scanner]; rfl
    · rw [hset]
      exact State.settle_replies_taken hline

/-! ### The end of the heat's cycle -/

theorem State.lanesUnderReview_nil {h : HeatRecord} {s : State} (hc : ∀ lane : Lane, h.enters lane = true →
    (s.lanes[lane]).disqualified = false → (s.lanes[lane]).reasons.any = false) :
    s.lanesUnderReview h = [] := by
  unfold State.lanesUnderReview
  rw [List.map_eq_nil_iff, List.filter_eq_nil_iff]
  intro lane _
  simp only [Bool.and_eq_true, Bool.not_eq_true', not_and, Bool.not_eq_true, and_imp]
  exact hc lane

/-- Settles O46. -/
theorem officialiseArchivesTheHeat : Obligations.OfficialiseArchivesTheHeat := by
  intro s h m tag hr hl hq hrace hcur hreview
  have hh : (s.advance m).handle ⟨.officialise, tag, []⟩ =
      (State.notifyHeat .judging .officialise
        { (s.advance m).appendEntry h with heat := { s.heat with race := .official } }).accept
        (.officialised ((s.advance m).appendEntry h).placing.archive.length
          (decide (24 ≤ s.placing.archive.length))) := by
    show (s.advance m).handleOfficialise [] = _
    unfold State.handleOfficialise
    rw [if_neg (by simp), if_neg (by simpa [State.advance] using hrace),
      show (s.advance m).heat.current = some h from hcur]
    dsimp only
    rw [State.lanesUnderReview_nil (s := s.advance m) hreview]
    rfl
  obtain ⟨t, ht, -, l, ha⟩ := State.request_does (c := .officialise m tag []) rfl hr hl hq hh
  obtain ⟨he, hb, hk⟩ := State.Leaves.behindNotice l
  have harchive : t.placing.archive = ((s.advance m).appendEntry h).placing.archive := by rw [he]
  refine ⟨t, ht, ?_, hb, hk, ?_, ?_⟩
  · rw [harchive]; exact he
  · rw [harchive]; exact ha
  · have := State.Leaves.tellsNotice l rfl
    simpa [State.numbers, hcur, State.appendEntry, State.setArchive, State.advance] using this

end Sys2Proof.Machine

/-!
PROOFS. The queries, and the requests that make a heat current, arm it and put it away.
-/

namespace Sys2Proof.Machine

/-! ### Queries -/

theorem lockedOut_eq_any (lockout : Option Nat) (stamp : Nat) :
    lockedOut lockout stamp = lockout.any fun e => decide (stamp < e) := by
  cases lockout <;> rfl

theorem State.statusReport_reports (s : State) : s.Reports s.statusReport where
  timebase := ⟨rfl, rfl, rfl, rfl, rfl, rfl⟩
  heat := ⟨rfl, rfl, rfl, rfl⟩
  cycle := by
    refine ⟨rfl, rfl, ?_, rfl, rfl⟩
    show s.heat.startMark.map _ = _
    cases s.heat.startMark <;> rfl
  wall := by
    refine ⟨rfl, fun ix => ?_, rfl, rfl⟩
    unfold State.statusReport
    simp [lockedOut_eq_any]
  lanes := rfl
  scanner := ⟨rfl, rfl, rfl, rfl, rfl⟩
  placing := ⟨rfl, rfl, rfl, rfl⟩
  board := by
    refine ⟨?_, rfl, rfl, rfl, rfl, rfl, rfl, rfl, rfl, rfl⟩
    show (!s.store.inForce.isSome) = _
    cases s.store.inForce <;> rfl
  store := ⟨rfl, rfl, rfl, rfl, rfl⟩
  link := ⟨rfl, rfl, rfl, rfl, rfl, rfl⟩

/-- A request that leaves the state alone: only its reply is made. -/
theorem State.request_answers {s : State} {kind : RequestKind} {m : Nat} {tag : Byte} {p : List Byte}
    {c : Instr} (hc : exec c s = .next (s.request kind m tag p)) {a : Answer}
    (hr : s.isRunning = true) (h : s.linkReady) (hq : s.quietUntil m = true)
    (hh : (s.advance m).handle ⟨kind, tag, p⟩ = ⟨s.advance m, some a⟩) :
    ∃ t, exec c s = .next t ∧
      t = { s with clock := max s.clock m, board := t.board, link := t.link } ∧
      s.boardKept t ∧ s.linkKept t ∧ t.answers kind tag a := by
  obtain ⟨t, ht, -, l, ha⟩ := State.request_does hc hr h hq hh
  exact ⟨t, ht, l.eq, l.board, l.link, ha⟩

/-- Settles O40: each query answers from the records and leaves them. -/
theorem queriesChangeNothing : Obligations.QueriesChangeNothing := by
  intro s m tag hr hl hq
  refine ⟨?_, ?_, fun i => ?_, fun lane n hlane hn hn' => ?_, fun i => ?_, fun p hp => ?_⟩
  · obtain ⟨t, ht, he, hb, hk, ha⟩ := State.request_answers (c := .status m tag []) rfl hr hl hq rfl
    exact ⟨t, ht, he, hb, hk, State.statusReport_reports _, ha⟩
  · exact State.request_answers (c := .queryQueue m tag []) rfl hr hl hq rfl
  · refine State.request_answers (c := .queryQueue m tag [i]) rfl hr hl hq ?_
    show (if i = 0#8 then _ else _) = _
    rw [show (s.advance m).heat = s.heat from rfl]
    rcases eq_or_ne i 0 with rfl | hi
    · cases s.heat.current <;> rfl
    · rw [if_neg hi, if_neg hi, if_neg (show ¬ i = 0#8 from hi)]
      cases s.heat.queue[i.toNat - 1]? <;> rfl
  · refine State.request_answers (c := .queryLane m tag [lane, n]) rfl hr hl hq ?_
    show (if 9 < lane.toNat then _ else if n = 0#8 ∨ 60 < n.toNat then _ else _) = _
    have hz : n ≠ 0#8 := by rintro rfl; simp at hn
    rw [if_neg (by omega), if_neg (by rintro (h | h); exacts [hz h, by omega])]
    rw [show (s.advance m).heat = s.heat from rfl]
    cases s.heat.current <;> rfl
  · refine State.request_answers (c := .queryArchive m tag [i]) rfl hr hl hq ?_
    show (match s.placing.archive.reverse[i.toNat]? with | none => _ | some e => _) = _
    cases s.placing.archive.reverse[i.toNat]? <;> rfl
  · refine State.request_answers (c := .profileRead m tag []) rfl hr hl hq ?_
    show (s.advance m).handleProfileRead [] = _
    unfold State.handleProfileRead
    rw [if_neg (by simp), show (s.advance m).store.inForce = some p from hp]
    rfl

/-! ### The current heat -/

/-- The state in which a heat, or none, has become current (R27, R29). -/
def State.withCurrent (current : Option HeatRecord) (s : State) : State :=
  { s with
    heat :=
      { s.heat with
        race := if current.isSome then .loaded else .idle
        current := current, flags := .clear, setMark := none, startMark := none, guardEnd := none }
    lanes := tab fun lane => { s.lanes[lane] with label := labelFrom current lane }
    board := { s.board with override := none, passDue := true } }

/-- The HEAT_STATE notice of a heat that has become current. -/
def currentNotice (previous : RaceState) (cause : HeatCause) (current : Option HeatRecord) : NoticeBody :=
  .heatState (if current.isSome then .loaded else .idle) previous cause
    (current.map fun h => (h.event, h.heat)) .clear none none

theorem State.setCurrent_eq (current : Option HeatRecord) (cause : HeatCause) (s : State) :
    s.setCurrent current cause = (s.withCurrent current).notify (currentNotice s.heat.race cause current) := by
  unfold State.setCurrent State.notifyHeat currentNotice
  cases current <;> cases cause <;> rfl

theorem State.promote_eq (cause : HeatCause) (s : State) : s.promote cause =
    State.setCurrent s.heat.queue.head? cause
      { s with heat := { s.heat with queue := s.heat.queue.tail } } := by
  unfold State.promote
  cases hq : s.heat.queue with
  | nil =>
    have : ({ s with heat := { s.heat with queue := [].tail } } : State) = s := by
      rw [List.tail_nil, ← hq]
    rw [this]
    rfl
  | cons h rest => rfl

/-- What a request leaves that makes a heat current: the record, its notice, and the board's full pass. -/
theorem State.withCurrent_does {s t : State} {current : Option HeatRecord} {cause : HeatCause} {r : Reply}
    (hset : t = ((s.setCurrent current cause).pushReply r).settle) (l : (s.setCurrent current cause).Leaves t) :
    (s.withCurrent current).EndsAs t ∧ t.tells ⟨t.masterTime, currentNotice s.heat.race cause current⟩ ∧
      (s.board.mode.isSome = true → s.PassTaken t) := by
  rw [State.setCurrent_eq] at l
  refine ⟨l.behindNotice, l.tellsNotice rfl, fun hm => ?_⟩
  rw [hset, State.setCurrent_eq]
  have hb : (((s.withCurrent current).notify (currentNotice s.heat.race cause current)).pushReply r).board =
      { s.board with override := none, passDue := true } := by simp [State.withCurrent]
  refine State.passTaken_settle (by rw [hb]) ?_ (by rw [hb]) (fun _ => by rw [hb]; exact hm)
  unfold State.sendsKept
  rw [hb]
  exact ⟨rfl, rfl, rfl, rfl, rfl, rfl⟩

theorem labelFrom_some (h : HeatRecord) (lane : Lane) :
    labelFrom (some h) lane = if h.enters lane then h.labels[lane] else [] := rfl

theorem State.withCurrent_lane (current : Option HeatRecord) (s : State) (lane : Lane) :
    (s.withCurrent current).lanes[lane] = { s.lanes[lane] with label := labelFrom current lane } := by
  simp [State.withCurrent]

theorem any_sameNumbers_eq_false {l : List HeatRecord} {event heat : Nat}
    (h : ∀ q ∈ l, ¬(q.event = event ∧ q.heat = heat)) : l.any (sameNumbers event heat) = false := by
  rw [List.any_eq_false]
  intro q hq
  simpa [sameNumbers] using h q hq

theorem option_any_sameNumbers {current : Option HeatRecord} {event heat : Nat} :
    current.any (sameNumbers event heat) = current.toList.any (sameNumbers event heat) := by
  cases current <;> simp

/-- Settles O38. -/
theorem loadHeatMakesCurrentOrQueues : Obligations.LoadHeatMakesCurrentOrQueues := by
  refine ⟨fun s p m tag payload hr hl hq hforce hfault hrace hcur hqueue => ?_,
    fun s p h m tag payload hr hl hq hforce hfault hrace hroom hh hnew => ?_⟩
  · have hh : (s.advance m).handle ⟨.loadHeat, tag, payload⟩ =
        ((s.advance m).setCurrent (some (heatOf p.course payload)) .load).accept .placedCurrent := by
      show (s.advance m).handleLoadHeat payload = _
      unfold State.handleLoadHeat
      rw [show (s.advance m).store = s.store from rfl, show (s.advance m).heat = s.heat from rfl, hforce]
      dsimp only
      rw [hfault, hcur, hqueue]
      dsimp only
      rw [if_neg (by simp), if_pos hrace]
    obtain ⟨t, ht, hset, l, ha⟩ := State.request_does (c := .loadHeat m tag payload) rfl hr hl hq hh
    obtain ⟨⟨he, hb, hk⟩, htells, hpass⟩ := State.withCurrent_does hset l
    obtain ⟨b1, b2, b3, b4, b5⟩ := hb
    refine ⟨t, ht, ?_, fun lane => ?_, b3, b1, b2, b4, b5, hpass, hk, ha, ?_⟩
    · have hlanes : t.lanes = ((s.advance m).withCurrent (some (heatOf p.course payload))).lanes := by
        rw [he]
      rw [hlanes]
      exact he
    · rw [he]
      exact State.withCurrent_lane _ _ _
    · rw [show (s.advance m).heat.race = .idle from hrace] at htells
      exact htells
  · have hnone : (s.heat.current.any (sameNumbers h.event h.heat) ||
        s.heat.queue.any (sameNumbers h.event h.heat)) = false := by
      rw [option_any_sameNumbers, ← List.any_append]
      exact any_sameNumbers_eq_false hnew
    have hh' : (s.advance m).handle ⟨.loadHeat, tag, payload⟩ =
        State.accept (.placedQueued (s.heat.queue.length + 1) (s.heat.queue.length + 1))
          { s.advance m with heat := { s.heat with queue := s.heat.queue ++ [h] } } := by
      show (s.advance m).handleLoadHeat payload = _
      unfold State.handleLoadHeat
      rw [show (s.advance m).store = s.store from rfl, show (s.advance m).heat = s.heat from rfl, hforce]
      dsimp only
      rw [hfault, ← hh]
      dsimp only
      rw [hnone, if_neg (by simp), if_neg hrace, if_neg (by simp [Config.queueMax]; omega)]
      rfl
    obtain ⟨t, ht, -, l, ha⟩ := State.request_does (c := .loadHeat m tag payload) rfl hr hl hq hh'
    exact ⟨t, ht, l.eq, l.board, l.link, ha⟩

theorem head?_isSome_race (queue : List HeatRecord) :
    (if queue.head?.isSome then RaceState.loaded else .idle) = if queue = [] then .idle else .loaded := by
  cases queue <;> rfl

theorem State.setCurrent_numbers (current : Option HeatRecord) (cause : HeatCause) (s : State) :
    (s.setCurrent current cause).numbers = current.map fun h => (h.event, h.heat) := by
  rw [State.setCurrent_eq, State.notify_eq]
  rfl

/-- The state whose queue has given up its head. -/
def State.popQueue (s : State) : State := { s with heat := { s.heat with queue := s.heat.queue.tail } }

/-- What a request leaves that takes the head of the queue. -/
theorem State.promote_does {s0 : State} {kind : RequestKind} {m : Nat} {tag : Byte} {p : List Byte}
    {c : Instr} {s : State} {cause : HeatCause} (hc : exec c s = .next (s.request kind m tag p))
    (hr : s.isRunning = true) (h : s.linkReady) (hq : s.quietUntil m = true)
    (hh : (s.advance m).handle ⟨kind, tag, p⟩ =
      (s0.promote cause).accept (.newCurrent (s0.promote cause).numbers)) :
    ∃ t, exec c s = .next t ∧ (s0.popQueue.withCurrent s0.heat.queue.head?).EndsAs t ∧
      t.tells ⟨t.masterTime, currentNotice s0.heat.race cause s0.heat.queue.head?⟩ ∧
      (s0.board.mode.isSome = true → s0.PassTaken t) ∧
      t.answers kind tag (.accepted (.newCurrent (s0.heat.queue.head?.map fun h => (h.event, h.heat)))) := by
  rw [State.promote_eq, State.setCurrent_numbers] at hh
  obtain ⟨t, ht, hset, l, ha⟩ := State.request_does hc hr h hq hh
  obtain ⟨he, htells, hpass⟩ := State.withCurrent_does hset l
  exact ⟨t, ht, he, htells, hpass, ha⟩

/-- Settles O44. -/
theorem nextHeatMovesOn : Obligations.NextHeatMovesOn := by
  intro s m tag hr hl hq hrace
  have hh : (s.advance m).handle ⟨.nextHeat, tag, []⟩ =
      State.accept (.newCurrent (State.promote .nextHeat { s.advance m with
          lanes := tab fun lane => .cleared .idle (s.lanes[lane]).label
          placing := { s.placing with order := [], linked := false }
          board := { s.board with hold := .none, frozen := none } }).numbers)
        (State.promote .nextHeat { s.advance m with
          lanes := tab fun lane => .cleared .idle (s.lanes[lane]).label
          placing := { s.placing with order := [], linked := false }
          board := { s.board with hold := .none, frozen := none } }) := by
    show (s.advance m).handleNextHeat [] = _
    unfold State.handleNextHeat
    rw [if_neg (by simp), if_neg (not_not_intro (show (s.advance m).heat.race = .official from hrace))]
    rfl
  obtain ⟨t, ht, ⟨he, hb, hk⟩, htells, hpass, ha⟩ := State.promote_does (c := .nextHeat m tag []) rfl hr hl hq hh
  obtain ⟨b1, b2, b3, b4, b5⟩ := hb
  have hlanes : ∀ lane : Lane, t.lanes[lane] = .cleared .idle (labelFrom s.heat.queue.head? lane) := by
    intro lane
    rw [he]
    simp [State.withCurrent, State.popQueue, LaneRecord.cleared]
  refine ⟨t, ht, ?_, hlanes, b4, b5, b3, b1, b2, hpass, hk, ha, ?_⟩
  · rw [← head?_isSome_race]
    have : t.lanes = _ := congrArg State.lanes he
    rw [this]
    exact he
  · rw [show (s.advance m).heat.race = .official from hrace] at htells
    rw [← head?_isSome_race]
    exact htells

theorem findIdx?_before {α : Type} {p : α → Bool} {before after : List α} {x : α}
    (hb : ∀ q ∈ before, p q = false) (hx : p x = true) :
    (before ++ x :: after).findIdx? p = some before.length := by
  induction before with
  | nil => simp [List.findIdx?_cons, hx]
  | cons a rest ih =>
    rw [List.cons_append, List.findIdx?_cons, hb a List.mem_cons_self,
      ih fun q hq => hb q (List.mem_cons_of_mem _ hq)]
    simp

theorem findIdx?_sameNumbers_none {l : List HeatRecord} {event heat : Nat}
    (h : ∀ q ∈ l, ¬(q.event = event ∧ q.heat = heat)) : l.findIdx? (sameNumbers event heat) = none := by
  rw [List.findIdx?_eq_none_iff]
  intro q hq
  simpa [sameNumbers] using h q hq

/-- WITHDRAW_HEAT's numbers (R28). -/
theorem State.handleWithdrawHeat_eq (e1 e0 n : Byte) (s : State) :
    s.handleWithdrawHeat [e1, e0, n] =
      match s.heat.queue.findIdx? (sameNumbers (e1.toNat * 256 + e0.toNat) n.toNat) with
      | some i =>
        State.accept (.withdrawn (i + 1) (s.heat.queue.eraseIdx i).length)
          { s with heat := { s.heat with queue := s.heat.queue.eraseIdx i } }
      | none =>
        if s.heat.current.any (sameNumbers (e1.toNat * 256 + e0.toNat) n.toNat) then
          if s.heat.race = .loaded then
            (s.promote .withdraw).accept (.newCurrent (s.promote .withdraw).numbers)
          else s.deny .wrongState
        else s.deny .notFound := by
  unfold State.handleWithdrawHeat
  rw [if_neg (by simp)]
  rfl

/-- Settles O39. -/
theorem withdrawTakesFromTheQueue : Obligations.WithdrawTakesFromTheQueue := by
  refine ⟨fun s m tag e1 e0 n before after h hr hl hq hqueue hevent hheat hbefore => ?_,
    fun s m tag e1 e0 n h hr hl hq hrace hcur hevent hheat hqueue => ?_,
    fun s m tag e1 e0 n hr hl hq hother hqueue => ?_⟩
  · have hh : (s.advance m).handle ⟨.withdrawHeat, tag, [e1, e0, n]⟩ =
        State.accept (.withdrawn (before.length + 1) (before.length + after.length))
          { s.advance m with heat := { s.heat with queue := before ++ after } } := by
      refine (State.handleWithdrawHeat_eq ..).trans ?_
      rw [show (s.advance m).heat = s.heat from rfl, hqueue, findIdx?_before]
      · dsimp only
        rw [List.eraseIdx_append_of_length_le le_rfl, Nat.sub_self, List.eraseIdx_cons_zero,
          List.length_append]
      · intro q hq
        rw [← hevent, ← hheat]
        simpa [sameNumbers] using hbefore q hq
      · simp [sameNumbers, hevent, hheat]
    obtain ⟨t, ht, -, l, ha⟩ := State.request_does (c := .withdrawHeat m tag [e1, e0, n]) rfl hr hl hq hh
    exact ⟨t, ht, l.eq, l.board, l.link, ha⟩
  · have hh : (s.advance m).handle ⟨.withdrawHeat, tag, [e1, e0, n]⟩ =
        ((s.advance m).promote .withdraw).accept (.newCurrent ((s.advance m).promote .withdraw).numbers) := by
      refine (State.handleWithdrawHeat_eq ..).trans ?_
      rw [show (s.advance m).heat = s.heat from rfl, ← hevent, ← hheat, findIdx?_sameNumbers_none hqueue,
        hcur]
      dsimp only
      rw [if_pos (by simp [sameNumbers]), if_pos hrace]
    obtain ⟨t, ht, ⟨he, hb, hk⟩, htells, hpass, ha⟩ :=
      State.promote_does (c := .withdrawHeat m tag [e1, e0, n]) rfl hr hl hq hh
    obtain ⟨b1, b2, b3, b4, b5⟩ := hb
    refine ⟨t, ht, ?_, fun lane => ?_, b1, b2, b3, b4, b5, hpass, hk, ha, ?_⟩
    · rw [← head?_isSome_race]
      have : t.lanes = _ := congrArg State.lanes he
      rw [this]
      exact he
    · rw [he]
      exact State.withCurrent_lane _ _ _
    · rw [show (s.advance m).heat.race = .loaded from hrace] at htells
      rw [← head?_isSome_race]
      exact htells
  · have hh : (s.advance m).handle ⟨.withdrawHeat, tag, [e1, e0, n]⟩ =
        (s.advance m).deny (if (s.heat.current.any fun h =>
            h.event == e1.toNat * 256 + e0.toNat && h.heat == n.toNat) = true then .wrongState
          else .notFound) := by
      refine (State.handleWithdrawHeat_eq ..).trans ?_
      rw [show (s.advance m).heat = s.heat from rfl, findIdx?_sameNumbers_none hqueue]
      dsimp only
      have hsame : s.heat.current.any (sameNumbers (e1.toNat * 256 + e0.toNat) n.toNat) =
          s.heat.current.any fun h => h.event == e1.toNat * 256 + e0.toNat && h.heat == n.toNat := rfl
      rw [hsame]
      split
      · next hany =>
        rw [if_neg]
        intro hrace
        rcases hother with h | h
        · exact h hrace
        · cases hc : s.heat.current with
          | none => rw [hc] at hany; cases hany
          | some x => rw [hc] at hany h; simp_all
      · rfl
    exact State.request_answers (c := .withdrawHeat m tag [e1, e0, n]) rfl hr hl hq hh

end Sys2Proof.Machine

/-!
PROOFS. ARM and DISARM, and the requests of the board.
-/

namespace Sys2Proof.Machine

/-- A HEAT_STATE notice that is no recall's carries no guard end (R51). -/
theorem State.notifyHeat_eq {previous : RaceState} {cause : HeatCause} {h : HeatRecord} {s : State}
    (hcur : s.heat.current = some h) (h1 : cause ≠ .recallLine) (h2 : cause ≠ .recallRequest) :
    s.notifyHeat previous cause =
      s.notify (.heatState s.heat.race previous cause (some (h.event, h.heat)) s.heat.flags
        (if s.heat.race = .running then s.heat.startMark else none) none) := by
  have hguard : (match cause with
      | .recallLine | .recallRequest => s.heat.guardEnd
      | _ => none) = none := by
    split
    · exact absurd rfl h1
    · exact absurd rfl h2
    · rfl
  unfold State.notifyHeat State.numbers
  rw [hcur]
  exact congrArg (fun g => s.notify (.heatState s.heat.race previous cause (some (h.event, h.heat))
    s.heat.flags (if s.heat.race = .running then s.heat.startMark else none) g)) hguard

/-! ### ARM -/

theorem State.handleArm_eq {s : State} {p : Profile} {h : HeatRecord} (hforce : s.store.inForce = some p)
    (hcur : s.heat.current = some h) (hrace : s.heat.race = .loaded)
    (hlanes : ∀ lane : Lane, h.enters lane = true → p.installed[lane] = true) :
    s.handleArm [] =
      if s.timebase.state ≠ .locked then s.deny .notReady
      else if s.busy then s.deny .busy
      else if s.board.test then s.deny .testActive
      else (s.armHeat h).accept (.armed (decide (h.lengths % 2 = 0))) := by
  have hmissing : missingLane p h = none := by
    unfold missingLane
    rw [List.find?_eq_none]
    intro lane _
    simpa using hlanes lane
  have hwall : decide (startWall h = .a) = decide (h.lengths % 2 = 0) := by
    unfold startWall
    by_cases hN : h.lengths % 2 = 0 <;> simp [hN]
  unfold State.handleArm
  rw [if_neg (by simp), hforce]
  dsimp only
  rw [hcur]
  dsimp only
  rw [if_neg (not_not_intro hrace), hmissing, hwall]

/-- The state in which a heat is ARMED (R36, R112). -/
def State.inArmed (h : HeatRecord) (s : State) : State :=
  { s with
    heat := { s.heat with race := .armed, setMark := none, startMark := none, guardEnd := none }
    lanes := tab fun lane =>
      if h.enters lane then .cleared .entered (s.lanes[lane]).label else s.lanes[lane]
    scanner :=
      if h.lengths % 2 = 0 then
        { s.scanner with state := .settling, settlingEnd := some (s.clock + 200) }
      else s.scanner
    store := { s.store with setupOpen := false } }

theorem State.armHeat_eq {h : HeatRecord} {s : State} (hcur : s.heat.current = some h) :
    s.armHeat h = (s.inArmed h).notify
      (.heatState .armed .loaded .arm (some (h.event, h.heat)) s.heat.flags none none) := by
  have hbase : (if startWall h = .a then
      State.powerScanner (State.clearEntered h .entered { s with
        heat := { s.heat with race := .armed, setMark := none, startMark := none, guardEnd := none }
        store := { s.store with setupOpen := false } })
      else State.clearEntered h .entered { s with
        heat := { s.heat with race := .armed, setMark := none, startMark := none, guardEnd := none }
        store := { s.store with setupOpen := false } }) = s.inArmed h := by
    unfold State.inArmed startWall
    by_cases hN : h.lengths % 2 = 0
    · simp only [hN, if_true]; rfl
    · simp only [hN, if_false, reduceCtorEq]; rfl
  unfold State.armHeat
  dsimp only
  rw [hbase, State.notifyHeat_eq (s := s.inArmed h) hcur (by decide) (by decide)]
  rfl

/-- Settles O41. -/
theorem armMakesTheHeatReady : Obligations.ArmMakesTheHeatReady := by
  refine ⟨fun s p h m tag hr hl hq hforce hcur hrace hlanes hlock hbusy htest => ?_,
    fun s p h m tag hr hl hq hforce hcur hrace hlanes hnot => ?_⟩
  · have hh : (s.advance m).handle ⟨.arm, tag, []⟩ =
        ((s.advance m).armHeat h).accept (.armed (decide (h.lengths % 2 = 0))) := by
      refine (State.handleArm_eq (s := s.advance m) hforce hcur hrace hlanes).trans ?_
      show (if s.timebase.state ≠ .locked then _ else if s.busy = true then _
        else if s.board.test = true then _ else _) = _
      rw [if_neg (not_not_intro hlock), if_neg (by simp [hbusy]), if_neg (by simp [htest])]
    obtain ⟨t, ht, -, l, ha⟩ := State.request_does (c := .arm m tag []) rfl hr hl hq hh
    rw [State.armHeat_eq (s := s.advance m) hcur] at l
    obtain ⟨he, hb, hk⟩ := l.behindNotice
    refine ⟨t, ht, ?_, fun lane => ?_, hb, hk, ha, l.tellsNotice rfl⟩
    · have : t.lanes = _ := congrArg State.lanes he
      rw [this]
      exact he
    · rw [he]
      simp [State.inArmed, State.advance]
  · have hh : (s.advance m).handle ⟨.arm, tag, []⟩ =
        (s.advance m).deny (if s.timebase.state ≠ .locked then .notReady else .busy) := by
      refine (State.handleArm_eq (s := s.advance m) hforce hcur hrace hlanes).trans ?_
      show (if s.timebase.state ≠ .locked then _ else if s.busy = true then _ else _) = _
      split
      · rfl
      · next hlock => rw [if_pos (hnot.resolve_left hlock)]
    exact State.request_answers (c := .arm m tag []) rfl hr hl hq hh

/-! ### The return from HOLDOVER -/

/-- The timebase behind the return: a HOLDOVER with a full count is LOCKED again (R6). -/
def State.returned (s : State) : Timebase :=
  if s.timebase.state = .holdover ∧ s.timebase.goodCount = 20000 then
    { s.timebase with state := .locked, steering := decide (s.timebase.source = .external) }
  else s.timebase

/-- The notice of the return. -/
def State.returnNotices (s : State) : List NoticeBody :=
  if s.timebase.state = .holdover ∧ s.timebase.goodCount = 20000 then
    [.timebase .locked .holdover s.timebase.source .referenceRestored]
  else []

/-- No heat holds the timebase: the return changes it and makes its notice, and nothing else. -/
theorem State.holdoverReturn_does {s : State} (hr : s.armedOrRunning = false) :
    s.holdoverReturn = { s with timebase := s.returned, link := s.holdoverReturn.link } ∧
      State.Emits s.returnNotices s s.holdoverReturn := by
  unfold State.holdoverReturn State.returned State.returnNotices Config.goodWindows
  by_cases hret : s.timebase.state = .holdover ∧ s.timebase.goodCount = 20000
  · rw [if_pos ⟨hret.1, hret.2, hr⟩, if_pos hret, if_pos hret]
    unfold State.enterLocked State.notifyTimebase
    dsimp only
    rw [hret.1]
    exact ⟨by rw [State.notify_eq]; rfl, (State.Emits.notify _ _).behind rfl rfl⟩
  · rw [if_neg fun h => hret ⟨h.1, h.2.1⟩, if_neg hret, if_neg hret]
    exact ⟨rfl, .nothing rfl rfl⟩

theorem State.returnNotices_length (s : State) : s.returnNotices.length ≤ 1 := by
  unfold State.returnNotices
  split <;> simp

/-- The state in which a heat is LOADED again (R39). -/
def State.inDisarmed (h : HeatRecord) (s : State) : State :=
  { s.scannerOff with
    heat := { s.heat with race := .loaded, setMark := none, guardEnd := none }
    lanes := tab fun lane =>
      if h.enters lane then .cleared .idle (s.lanes[lane]).label else s.lanes[lane] }

/-- The HEAT_STATE notice of a heat that is LOADED again. -/
def disarmedNotice (h : HeatRecord) (flags : HeatFlags) (cause : HeatCause) : NoticeBody :=
  .heatState .loaded .armed cause (some (h.event, h.heat)) flags none none

theorem State.disarmHeat_eq {h : HeatRecord} {cause : HeatCause} {s : State}
    (hcur : s.heat.current = some h) (h1 : cause ≠ .recallLine) (h2 : cause ≠ .recallRequest) :
    s.disarmHeat cause =
      State.holdoverReturn ((s.inDisarmed h).notify (disarmedNotice h s.heat.flags cause)) := by
  have hclear : ∀ (o : Option HeatRecord) (x : State), o = some h →
      (match o with
        | none => x
        | some h => x.clearEntered h .idle) = x.clearEntered h .idle := by rintro _ _ rfl; rfl
  refine (congrArg (fun x => State.holdoverReturn (State.notifyHeat .armed cause (State.scannerOff x)))
    (hclear s.heat.current _ hcur)).trans (congrArg State.holdoverReturn ?_)
  exact State.notifyHeat_eq (s := s.inDisarmed h) hcur h1 h2

/-- What DISARM and the limit leave of an ARMED heat, with their notices. -/
theorem State.disarmHeat_does {h : HeatRecord} {cause : HeatCause} {s : State}
    (hcur : s.heat.current = some h) (h1 : cause ≠ .recallLine) (h2 : cause ≠ .recallRequest) :
    s.disarmHeat cause =
        { s.inDisarmed h with timebase := s.returned, link := (s.disarmHeat cause).link } ∧
      State.Emits (disarmedNotice h s.heat.flags cause :: s.returnNotices) s (s.disarmHeat cause) := by
  rw [State.disarmHeat_eq hcur h1 h2]
  have e := State.Emits.notify (disarmedNotice h s.heat.flags cause) (s.inDisarmed h)
  have hn := State.notify_eq (disarmedNotice h s.heat.flags cause) (s.inDisarmed h)
  rw [hn] at e ⊢
  obtain ⟨hv, er⟩ := State.holdoverReturn_does (s := { s.inDisarmed h with
    link := (s.inDisarmed h).link.note ⟨(s.inDisarmed h).masterTime, disarmedNotice h s.heat.flags cause⟩ })
    rfl
  exact ⟨hv, (e.behind rfl rfl).trans er⟩

/-- Settles O42. -/
theorem disarmReturnsToLoaded : Obligations.DisarmReturnsToLoaded := by
  intro s h m tag hr hl hq hrace hcur
  have hh : (s.advance m).handle ⟨.disarm, tag, []⟩ = ((s.advance m).disarmHeat .disarm).accept .empty := by
    show (s.advance m).handleDisarm [] = _
    unfold State.handleDisarm
    rw [if_neg (by simp), if_neg (not_not_intro (show (s.advance m).heat.race = .armed from hrace))]
  obtain ⟨t, ht, hset, l, ha⟩ := State.request_does (c := .disarm m tag []) rfl hr hl hq hh
  obtain ⟨hv, em⟩ := State.disarmHeat_does (s := s.advance m) (h := h) (cause := .disarm) hcur (by decide)
    (by decide)
  have told := State.settle_told (em.pushReply ⟨.execution, some .disarm, tag, .accepted .empty⟩)
  rw [← hset] at told
  obtain ⟨he, hb, hk⟩ := l.behindNotices
    (s := { (s.advance m).inDisarmed h with timebase := (s.advance m).returned }) (em.behind rfl rfl) hv
  have hm : t.masterTime = (s.advance m).masterTime := by rw [he]; rfl
  have hcount : (disarmedNotice h s.heat.flags .disarm :: (s.advance m).returnNotices).length ≤ 64 := by
    have := (s.advance m).returnNotices_length
    rw [List.length_cons]
    omega
  refine ⟨t, ht, ?_, fun lane => ?_, ?_, ?_, fun lane => ?_, hb, hk, ha, ?_, fun hold hfull => ?_⟩
  · have hlanes : t.lanes = _ := congrArg State.lanes he
    have hscanner : t.scanner = _ := congrArg State.scanner he
    rw [hlanes, hscanner]
    exact he
  · rw [he]
    simp [State.inDisarmed, State.advance]
  · rw [he]; rfl
  · rw [he]; rfl
  · rw [he]
    simp [State.inDisarmed]
  · rw [hm]
    exact told.tells hcount (b := disarmedNotice h s.heat.flags .disarm) List.mem_cons_self
  · have hnotices : (s.advance m).returnNotices =
        [.timebase .locked .holdover s.timebase.source .referenceRestored] := if_pos ⟨hold, hfull⟩
    have hlast := told.suffix (before := []) rfl hcount
    rw [hnotices] at hlast
    rw [hm]
    exact hlast

/-! ### The requests of the board -/

/-- What a board request leaves: it sets the board's block and waits for nothing. -/
theorem State.boardRequest_does {s : State} {kind : RequestKind} {m : Nat} {tag : Byte} {p : List Byte}
    {c : Instr} (hc : exec c s = .next (s.request kind m tag p)) {b : Board} {x : Content}
    (hr : s.isRunning = true) (h : s.linkReady) (hq : s.quietUntil m = true)
    (hh : (s.advance m).handle ⟨kind, tag, p⟩ = State.accept x { s.advance m with board := b }) :
    ∃ v t : State, exec c s = .next t ∧ t = v.settle ∧ v.board = b ∧ v.configured = s.configured ∧
      v.clock = max s.clock m ∧
      t = { s with clock := max s.clock m, board := t.board, link := t.link } ∧
      (t.board.mode = b.mode ∧ t.board.test = b.test ∧ t.board.override = b.override ∧
        t.board.hold = b.hold ∧ t.board.frozen = b.frozen) ∧ s.linkKept t ∧
      t.answers kind tag (.accepted x) := by
  obtain ⟨t, ht, hset, l, ha⟩ := State.request_does hc hr h hq hh
  exact ⟨_, t, ht, hset, rfl, rfl, rfl, l.eq, l.board, l.link, ha⟩

/-- With the rows as they were, and nothing to send, the end of an event sends nothing. -/
theorem State.settle_sendsKept_same {v : State} (hp : v.board.passDue = false)
    (hi : v.board.image = v.imageNow) (hl : v.lineSettled) (hc : v.configured = true) :
    v.sendsKept v.settle := by
  cases ht : v.board.test with
  | true => exact State.settle_sendsKept_test hc ht hl
  | false =>
    have hb := v.settle_board
    have hjoin : joinChanged v.board.image { v.board with image := v.imageNow, passDue := false } =
        { v.board with image := v.imageNow, passDue := false } := by
      unfold joinChanged
      rw [hi]
      simp only [ne_eq, not_true_eq_false, decide_false, Bool.or_false, tab_self, ite_self]
    rw [hc, boardAfter_changes ht hp, hjoin,
      feedLine_settled (b := { v.board with image := v.imageNow, passDue := false }) hl] at hb
    simp [State.sendsKept, hb]

/-- A pass in CONTINUOUS leaves what ON_CHANGE uses. -/
theorem State.settle_pass_continuous {v : State} (hc : v.configured = true) (ht : v.board.test = false)
    (hp : v.board.passDue = true) (hm : v.board.mode = some .continuous) :
    v.settle.board.periodic = v.board.periodic ∧ v.settle.board.pendingRows = v.board.pendingRows := by
  have hb := v.settle_board
  rw [hc, boardAfter_pass ht hp,
    feedLine_pass_continuous (b := { v.board with image := v.imageNow, passDue := false }) hm ht] at hb
  rw [hb]
  exact ⟨rfl, rfl⟩

/-- A pass in ON_CHANGE leaves what CONTINUOUS uses. -/
theorem State.settle_pass_onChange {v : State} (hc : v.configured = true) (ht : v.board.test = false)
    (hp : v.board.passDue = true) (hm : v.board.mode = some .onChange) (ho : v.board.owed = none) :
    v.settle.board.cursor = v.board.cursor ∧ v.settle.board.nextSlot = v.board.nextSlot ∧
      v.settle.board.owed = v.board.owed := by
  have hb := v.settle_board
  rw [hc, boardAfter_pass ht hp,
    feedLine_pass_onChange (b := { v.board with image := v.imageNow, passDue := false }) hm ht ho] at hb
  rw [hb]
  exact ⟨rfl, rfl, rfl⟩

/-- The board in another mode (R164). -/
def Board.inMode (mode : RefreshMode) (b : Board) : Board :=
  if b.test then { b with mode := some mode }
  else
    { b with
      mode := some mode, pendingRows := tab fun _ => false, periodic := none
      nextSlot := none, owed := none, cursor := 0, passDue := true }

theorem State.handleBoardMode_eq {s : State} {mode : RefreshMode} (hc : s.configured = true) :
    s.handleBoardMode [refreshByte mode] =
      if s.board.mode = some mode then s.accept (.boardMode (some mode))
      else State.accept (.boardMode (some mode)) { s with board := s.board.inMode mode } := by
  have : State.accept (.boardMode (some mode)) { s with board := s.board.inMode mode } =
      State.accept (.boardMode (some mode))
        (if s.board.test then { s with board := { s.board with mode := some mode } }
          else s.changeMode mode) := by
    unfold Board.inMode
    split <;> rfl
  rw [this]
  unfold State.handleBoardMode
  dsimp only
  rw [hc]
  cases mode <;> rfl

/-- The board in test (R168). -/
def Board.inTest (clock : Nat) (b : Board) : Board :=
  if b.test then b
  else
    { b with
      test := true, pendingRows := tab fun _ => false, periodic := none
      owed := some 0, cursor := 1, nextSlot := some (clock + 250) }

/-- The board behind its test. -/
def Board.outOfTest (b : Board) : Board :=
  if b.test then { b with test := false, owed := none, nextSlot := none, cursor := 0, passDue := true }
  else b

theorem State.handleBoardTest_on_eq {s : State} (hc : s.configured = true) :
    s.handleBoardTest [0x01#8] = if s.armedOrRunning then s.deny .wrongState
      else State.accept (.boardTest true) { s with board := s.board.inTest s.clock } := by
  have : State.accept (.boardTest true) { s with board := s.board.inTest s.clock } =
      State.accept (.boardTest true) (if s.board.test then s else s.testOn) := by
    unfold Board.inTest
    split <;> rfl
  rw [this]
  show (if s.configured = false then _ else _) = _
  rw [if_neg (by simp [hc])]

theorem State.handleBoardTest_off_eq {s : State} (hc : s.configured = true) :
    s.handleBoardTest [0x00#8] =
      State.accept (.boardTest false) { s with board := s.board.outOfTest } := by
  have : State.accept (.boardTest false) { s with board := s.board.outOfTest } =
      State.accept (.boardTest false) (if s.board.test then s.testOff else s) := by
    unfold Board.outOfTest
    split <;> rfl
  rw [this]
  show (if s.configured = false then _ else _) = _
  rw [if_neg (by simp [hc])]

/-- What test on leaves of the board: a test frame of row 0 begins on a free line. -/
theorem State.settle_inTest {v : State} {b : Board} (hc : v.configured = true)
    (hb : v.board = b.inTest v.clock) (ht : b.test = false) :
    v.settle.board.periodic = none ∧ (∀ row : RowIx, v.settle.board.pendingRows[row] = false) ∧
      v.settle.board.cursor = 1 ∧ v.settle.board.nextSlot = some (v.settle.clock + 250) ∧
      (b.line = none →
        v.settle.board.line = some ⟨0, testRow, v.settle.clock⟩ ∧ v.settle.board.owed = none) ∧
      ∀ f, b.line = some f → v.settle.board.line = some f ∧ v.settle.board.owed = some 0 := by
  have hboard : v.board = { b with
      test := true, pendingRows := tab fun _ => false, periodic := none
      owed := some 0, cursor := 1, nextSlot := some (v.clock + 250) } := by
    rw [hb, Board.inTest, if_neg (by simp [ht])]
  have hs := v.settle_board
  rw [hc, boardAfter_test (by rw [hboard])] at hs
  rw [hs, show v.settle.clock = v.clock by simp]
  cases hl : b.line with
  | none =>
    rw [feedLine_owed (row := 0) (b := { v.board with image := v.imageNow, passDue := false })
      (by rw [hboard]; exact hl) (by rw [hboard])]
    rw [hboard]
    exact ⟨rfl, fun row => by simp [beginFrame], rfl, rfl, fun _ => ⟨rfl, rfl⟩, nofun⟩
  | some f =>
    rw [feedLine_taken (b := { v.board with image := v.imageNow, passDue := false })
      (by rw [hboard]; simp [hl])]
    rw [hboard]
    exact ⟨rfl, fun row => by simp, rfl, rfl, nofun, fun g hg => ⟨hl.trans hg, rfl⟩⟩

theorem Board.inMode_of_not_test {mode : RefreshMode} {b : Board} (h : b.test = false) :
    b.inMode mode = { b with
      mode := some mode, pendingRows := tab fun _ => false, periodic := none
      nextSlot := none, owed := none, cursor := 0, passDue := true } := if_neg (by simp [h])

theorem Board.inMode_of_test {mode : RefreshMode} {b : Board} (h : b.test = true) :
    b.inMode mode = { b with mode := some mode } := if_pos h

theorem Board.inMode_kept (mode : RefreshMode) (b : Board) : (b.inMode mode).mode = some mode ∧
    (b.inMode mode).test = b.test ∧ (b.inMode mode).override = b.override ∧
    (b.inMode mode).hold = b.hold ∧ (b.inMode mode).frozen = b.frozen := by
  unfold Board.inMode
  split <;> exact ⟨rfl, rfl, rfl, rfl, rfl⟩

theorem Board.inTest_kept (clock : Nat) (b : Board) : (b.inTest clock).mode = b.mode ∧
    (b.inTest clock).test = true ∧ (b.inTest clock).override = b.override ∧
    (b.inTest clock).hold = b.hold ∧ (b.inTest clock).frozen = b.frozen := by
  unfold Board.inTest
  split
  · next h => exact ⟨rfl, h, rfl, rfl, rfl⟩
  · exact ⟨rfl, rfl, rfl, rfl, rfl⟩

theorem Board.outOfTest_kept (b : Board) : b.outOfTest.mode = b.mode ∧ b.outOfTest.test = false ∧
    b.outOfTest.override = b.override ∧ b.outOfTest.hold = b.hold ∧ b.outOfTest.frozen = b.frozen := by
  unfold Board.outOfTest
  split
  · exact ⟨rfl, rfl, rfl, rfl, rfl⟩
  · next h => exact ⟨rfl, by simpa using h, rfl, rfl, rfl⟩

/-- The rows on the line do not depend on the board's own fields that an event's end keeps. -/
theorem State.sendsKept_of_board {s v t : State} (hb : v.board = s.board) (h : v.sendsKept t) :
    s.sendsKept t := by
  unfold State.sendsKept at *
  rwa [hb] at h

/-- BOARD_MODE's part of O48. -/
theorem State.boardMode_does {s : State} {m : Nat} {tag : Byte} (hr : s.isRunning = true)
    (hl : s.linkReady) (hq : s.quietUntil m = true) (hconf : s.configured = true) (mode : RefreshMode) :
    ∃ t, exec (.boardMode m tag [refreshByte mode]) s = .next t ∧
      t = { s with clock := max s.clock m, board := t.board, link := t.link } ∧
      t.board.mode = some mode ∧ t.board.test = s.board.test ∧
      t.board.override = s.board.override ∧ t.board.hold = s.board.hold ∧
      t.board.frozen = s.board.frozen ∧ s.linkKept t ∧
      (s.board.mode ≠ some mode → s.board.test = false →
        t.PassMade s.board.line ∧
        (mode = .continuous → t.board.periodic = none ∧
          ∀ row : RowIx, t.board.pendingRows[row] = false) ∧
        (mode = .onChange →
          t.board.cursor = 0 ∧ t.board.nextSlot = none ∧ t.board.owed = none)) ∧
      (s.board.mode ≠ some mode → s.board.test = true → s.lineSettled → s.sendsKept t) ∧
      (s.board.mode = some mode → s.board.passDue = false → s.board.image = t.imageNow →
        s.lineSettled → s.sendsKept t) ∧
      t.answers .boardMode tag (.accepted (.boardMode (some mode))) := by
  have hh := State.handleBoardMode_eq (s := s.advance m) (mode := mode) hconf
  by_cases hsame : s.board.mode = some mode
  · rw [if_pos (show (s.advance m).board.mode = some mode from hsame)] at hh
    obtain ⟨v, t, ht, hset, hv, hvc, -, he, ⟨b1, b2, b3, b4, b5⟩, hk, ha⟩ :=
      State.boardRequest_does (b := s.board) (c := .boardMode m tag [refreshByte mode]) rfl hr hl hq hh
    refine ⟨t, ht, he, b1.trans hsame, b2, b3, b4, b5, hk, fun h => absurd hsame h,
      fun h => absurd hsame h, fun _ hp hi hsettled => ?_, ha⟩
    refine State.sendsKept_of_board hv (hset ▸ State.settle_sendsKept_same (hv ▸ hp) ?_ ?_ (hvc.trans hconf))
    · rw [hv, hi, hset, State.settle_imageNow]
    · unfold State.lineSettled at *
      rwa [hv]
  · rw [if_neg (show ¬(s.advance m).board.mode = some mode from hsame)] at hh
    obtain ⟨v, t, ht, hset, hv, hvc, -, he, hb, hk, ha⟩ :=
      State.boardRequest_does (b := s.board.inMode mode) (c := .boardMode m tag [refreshByte mode])
        rfl hr hl hq hh
    obtain ⟨b1, b2, b3, b4, b5⟩ := s.board.inMode_kept mode
    rw [b1, b2, b3, b4, b5] at hb
    obtain ⟨b1, b2, b3, b4, b5⟩ := hb
    refine ⟨t, ht, he, b1, b2, b3, b4, b5, hk, fun _ htest => ?_, fun _ htest hsettled => ?_,
      fun h => absurd h hsame, ha⟩
    · rw [Board.inMode_of_not_test htest] at hv
      have hc := hvc.trans hconf
      have hvt : v.board.test = false := by rw [hv]; exact htest
      have hvp : v.board.passDue = true := by rw [hv]
      rw [hset]
      refine ⟨?_, fun hmode => ?_, fun hmode => ?_⟩
      · have := State.passMade_settle hc hvt hvp (fun _ => by rw [hv]) (by rw [hv]; rfl)
        rwa [show v.board.line = s.board.line by rw [hv]] at this
      · obtain ⟨h1, h2⟩ := State.settle_pass_continuous hc hvt hvp (by rw [hv, hmode])
        rw [h1, h2, hv]
        exact ⟨rfl, fun row => by simp⟩
      · obtain ⟨h1, h2, h3⟩ := State.settle_pass_onChange hc hvt hvp (by rw [hv, hmode]) (by rw [hv])
        rw [h1, h2, h3, hv]
        exact ⟨rfl, rfl, rfl⟩
    · rw [Board.inMode_of_test htest] at hv
      have hsv : s.sendsKept v := by
        unfold State.sendsKept
        rw [hv]
        exact ⟨rfl, rfl, rfl, rfl, rfl, rfl⟩
      rw [hset]
      exact State.sendsKept_trans hsv (State.settle_sendsKept_test (hvc.trans hconf) (by rw [hv]; exact htest)
        (State.lineSettled_of_sendsKept hsv hsettled))

/-- Settles O48. -/
theorem boardRequestsSetTheBoard : Obligations.BoardRequestsSetTheBoard := by
  intro s m tag hr hl hq
  refine ⟨fun hconf mode => State.boardMode_does hr hl hq hconf mode, fun hconf hrace => ?_,
    fun hconf hrace => ?_, fun hconf => ?_, fun n text hlen hall => ?_, fun n text hlen hall => ?_⟩
  · have hh := State.handleBoardTest_on_eq (s := s.advance m) hconf
    rw [if_neg (by rw [show (s.advance m).armedOrRunning = s.armedOrRunning from rfl, hrace]; simp)] at hh
    obtain ⟨v, t, ht, hset, hv, hvc, hclock, he, hb, hk, ha⟩ :=
      State.boardRequest_does (b := s.board.inTest (max s.clock m)) (c := .boardTestOn m tag) rfl hr hl hq hh
    obtain ⟨b1, b2, b3, b4, b5⟩ := s.board.inTest_kept (max s.clock m)
    rw [b1, b2, b3, b4, b5] at hb
    obtain ⟨b1, b2, b3, b4, b5⟩ := hb
    refine ⟨t, ht, he, b2, b1, b3, b4, b5, hk, fun htest => ?_, fun htest hsettled => ?_, ha⟩
    · rw [hset]
      exact State.settle_inTest (hvc.trans hconf) (by rw [hv, hclock]) htest
    · rw [Board.inTest, if_pos htest] at hv
      rw [hset]
      refine State.sendsKept_of_board hv (State.settle_sendsKept_test (hvc.trans hconf) (hv ▸ htest) ?_)
      unfold State.lineSettled at *
      rwa [hv]
  · have hh := State.handleBoardTest_on_eq (s := s.advance m) hconf
    rw [if_pos (show (s.advance m).armedOrRunning = true from hrace)] at hh
    exact State.request_answers (c := .boardTestOn m tag) rfl hr hl hq hh
  · have hh := State.handleBoardTest_off_eq (s := s.advance m) hconf
    obtain ⟨v, t, ht, hset, hv, hvc, -, he, hb, hk, ha⟩ :=
      State.boardRequest_does (b := s.board.outOfTest) (c := .boardTestOff m tag) rfl hr hl hq hh
    obtain ⟨b1, b2, b3, b4, b5⟩ := s.board.outOfTest_kept
    rw [b1, b2, b3, b4, b5] at hb
    obtain ⟨b1, b2, b3, b4, b5⟩ := hb
    have hc := hvc.trans hconf
    refine ⟨t, ht, he, b2, b1, b3, b4, b5, hk, fun htest hmode => ?_, fun htest hp hi hsettled => ?_, ha⟩
    · rw [Board.outOfTest, if_pos htest] at hv
      have hvt : v.board.test = false := by rw [hv]
      have hvp : v.board.passDue = true := by rw [hv]
      rw [hset]
      refine ⟨?_, fun hon => ?_⟩
      · have := State.passMade_settle hc hvt hvp (fun _ => by rw [hv]) (by rw [hv]; exact hmode)
        rwa [show v.board.line = s.board.line by rw [hv]] at this
      · obtain ⟨h1, h2, h3⟩ := State.settle_pass_onChange hc hvt hvp (by rw [hv]; exact hon) (by rw [hv])
        rw [h1, h2, h3, hv]
        exact ⟨rfl, rfl, rfl⟩
    · rw [Board.outOfTest, if_neg (by simp [htest])] at hv
      refine State.sendsKept_of_board hv (hset ▸ State.settle_sendsKept_same (hv ▸ hp) ?_ ?_ hc)
      · rw [hv, hi, hset, State.settle_imageNow]
      · unfold State.lineSettled at *
        rwa [hv]
  · have hh : (s.advance m).handle ⟨.boardText, tag, n :: text⟩ =
        State.accept (.boardText (if text = [] then none else some (text.take 32)) (decide (32 < text.length)))
          { s.advance m with board :=
            { s.board with override := if text = [] then none else some (text.take 32) } } := by
      show (if text.length ≠ n.toNat then _ else if (text.all isPrintable) = false then _ else _) = _
      rw [if_neg (not_not_intro hlen), if_neg (by simp [hall])]
      rfl
    obtain ⟨-, t, ht, -, -, -, -, he, ⟨b1, b2, b3, b4, b5⟩, hk, ha⟩ :=
      State.boardRequest_does (c := .boardText m tag (n :: text)) rfl hr hl hq hh
    rw [show (if text = [] then none else some (text.take 32)) = t.board.override from b3.symm] at ha
    refine ⟨t, ht, he, fun h => ?_, fun h1 h2 => ?_, fun h => ?_, b1, b2, b4, b5, hk, ha⟩
    · rw [b3]
      exact if_pos h
    · rw [b3]
      exact (if_neg (by rintro rfl; simp at h1)).trans (by rw [List.take_of_length_le h2])
    · rw [b3]
      exact if_neg (by rintro rfl; simp at h)
  · have hh : (s.advance m).handle ⟨.boardText, tag, n :: text⟩ = (s.advance m).deny (.badField 1 none) := by
      show (if text.length ≠ n.toNat then _ else if (text.all isPrintable) = false then _ else _) = _
      rw [if_neg (not_not_intro hlen), if_pos hall]
    exact State.request_answers (c := .boardText m tag (n :: text)) rfl hr hl hq hh

end Sys2Proof.Machine

/-!
PROOFS. The edges of the start lines, the resets, the start-up and the hold.
-/

namespace Sys2Proof.Machine

theorem stampOf_of_le {stamp : Nat} (h : stamp ≤ Config.masterLimit) : stampOf stamp = stamp :=
  Nat.min_eq_left h

/-! ### The SET, START and RECALL lines -/

/-- An edge of the SET line in quiet time. -/
theorem State.setLineEdge_does {s : State} {level : Level} {stamp : Nat} (hr : s.isRunning = true)
    (hl : s.heat.setLine ≠ level) (hq : s.quietUntil stamp = true) :
    exec (.setLineEdge level stamp) s =
      .next (if level = .closed then ((s.advance stamp).putSetLine level).setEdge stamp
        else (s.advance stamp).putSetLine level).settle := by
  show execSetLineEdge level stamp s = _
  unfold execSetLineEdge
  rw [if_neg hl, if_neg (by simp [hr]), State.pass_quiet hq]

theorem State.startLineEdge_does {s : State} {level : Level} {stamp : Nat} (hr : s.isRunning = true)
    (hl : s.heat.startLine ≠ level) (hq : s.quietUntil stamp = true) :
    exec (.startLineEdge level stamp) s =
      .next (if level = .closed then ((s.advance stamp).putStartLine level).startEdge stamp
        else (s.advance stamp).putStartLine level).settle := by
  show execStartLineEdge level stamp s = _
  unfold execStartLineEdge
  rw [if_neg hl, if_neg (by simp [hr]), State.pass_quiet hq]

theorem State.recallLineEdge_does {s : State} {level : Level} {stamp : Nat} (hr : s.isRunning = true)
    (hl : s.heat.recallLine ≠ level) (hq : s.quietUntil stamp = true) :
    exec (.recallLineEdge level stamp) s =
      .next (if level = .closed then ((s.advance stamp).putRecallLine level).recallEdge stamp
        else (s.advance stamp).putRecallLine level).settle := by
  show execRecallLineEdge level stamp s = _
  unfold execRecallLineEdge
  rw [if_neg hl, if_neg (by simp [hr]), State.pass_quiet hq]

/-- The state behind an edge of the SET line (R35). -/
def State.setMarked (level : Level) (stamp : Nat) (s : State) : State :=
  { s with heat :=
      { s.heat with
        setLine := level
        setMark := if level = .closed ∧ s.heat.race = .armed then some stamp else s.heat.setMark } }

theorem State.setEdge_eq {level : Level} {stamp : Nat} {s : State} (h : stamp ≤ Config.masterLimit) :
    (if level = .closed then (s.putSetLine level).setEdge stamp else s.putSetLine level) =
      s.setMarked level stamp := by
  unfold State.setMarked State.setEdge
  rw [stampOf_of_le h]
  cases level with
  | opened => rfl
  | closed =>
    rw [if_pos rfl]
    by_cases hrace : s.heat.race = .armed
    · rw [if_pos (show (s.putSetLine .closed).heat.race = .armed from hrace), if_pos ⟨rfl, hrace⟩]
      rfl
    · rw [if_neg (show ¬(s.putSetLine .closed).heat.race = .armed from hrace), if_neg fun h => hrace h.2]
      rfl

/-- Settles O10. -/
theorem setEdgeMarksInArmed : Obligations.SetEdgeMarksInArmed := by
  intro s level stamp hr hl hstamp hq
  have l := State.settle_leaves ((s.advance stamp).setMarked level stamp)
  refine ⟨_, (State.setLineEdge_does hr hl hq).trans (by rw [State.setEdge_eq hstamp]), l.eq, l.board,
    l.link, fun hf hline => State.settle_link_taken hf hline, fun hf hline => ?_⟩
  have hlink : State.eventEnd ((s.advance stamp).setMarked level stamp) = { State.eventEnd
      ((s.advance stamp).setMarked level stamp) with link := s.link } := by
    apply State.ext_fields <;> try rfl
    exact State.eventEnd_link_quiet hf
  refine ⟨fun n => State.transmit_tells_iff.trans ?_, fun r => (State.transmit_gives_iff ?_).trans ?_⟩
  · rw [hlink]
    exact Iff.rfl
  · rw [hlink]
    exact hline
  · rw [hlink]
    exact Iff.rfl

/-- A START edge that starts nothing (R40, R42). -/
theorem State.startEdge_idle {s : State} {stamp : Nat} (h : stamp ≤ Config.masterLimit)
    (hno : s.heat.race ≠ .armed ∨ ∃ g, s.heat.guardEnd = some g ∧ stamp < g) : s.startEdge stamp = s := by
  unfold State.startEdge
  rw [stampOf_of_le h]
  split
  · next hrace hcur =>
    obtain hrace' | ⟨g, hg, hlt⟩ := hno
    · exact absurd hrace hrace'
    · exact if_pos (by simp [State.withinGuard, hg, hlt])
  · rfl

/-- Settles O12. -/
theorem startSignalsNotTaken : Obligations.StartSignalsNotTaken := by
  refine ⟨fun s stamp hr hl hstamp hq hno => ?_, fun s stamp hr hl hstamp hq => ?_,
    fun s m tag hr hl hq hno => ?_⟩
  · have l := State.settle_leaves ((s.advance stamp).putStartLine .closed)
    refine ⟨_, (State.startLineEdge_does hr (by simp [hl]) hq).trans ?_, l.eq, l.board, l.link⟩
    rw [if_pos rfl, State.startEdge_idle (s := (s.advance stamp).putStartLine .closed) hstamp hno]
  · have l := State.settle_leaves ((s.advance stamp).putStartLine .opened)
    exact ⟨_, (State.startLineEdge_does hr (by simp [hl]) hq).trans rfl, l.eq, l.board, l.link⟩
  · have hh : (s.advance m).handle ⟨.start, tag, []⟩ =
        (s.advance m).deny (if s.heat.race = .armed then .busy else .wrongState) := by
      show (if s.heat.race ≠ .armed then _ else _) = _
      by_cases hrace : s.heat.race = .armed
      · obtain ⟨g, hg, hlt⟩ := hno.resolve_left (not_not_intro hrace)
        rw [if_neg (not_not_intro hrace), if_pos hrace, if_pos (by simp [State.withinGuard, hg, hlt])]
      · rw [if_pos hrace, if_neg hrace]
    exact State.request_answers (c := .start m tag []) rfl hr hl hq hh

/-! ### Recall -/

/-- The state of a recalled heat (R44). -/
def State.recalled (h : HeatRecord) (stamp : Nat) (s : State) : State :=
  { s with
    heat := { s.heat with
      race := .armed, startMark := none, setMark := none, guardEnd := some (stamp + Config.guardTicks) }
    board := { s.board with hold := .none }
    placing := { s.placing with order := [] }
    wall := { s.wall with
      armed := false, pads := tab fun pad => { s.wall.pads[pad] with capture := .unarmed } }
    lanes := tab fun lane =>
      if h.enters lane then .cleared .entered (s.lanes[lane]).label else s.lanes[lane] }

theorem State.recallHeat_eq (h : HeatRecord) (stamp : Nat) (cause : HeatCause) (s : State) :
    s.recallHeat h stamp cause =
      ((s.recalled h stamp).notifyPlaces .recall s.lanes).notifyHeat .running cause := rfl

/-- The notices of a PLACES change: one, or none when no place has changed (R141). -/
theorem State.notifyPlaces_emits (cause : PlacesCause) (before : Vector LaneRecord 10) (s : State) :
    ∃ bodies, bodies.length ≤ 1 ∧ (∀ b ∈ bodies, ∃ changes count, b = .places cause changes count) ∧
      State.Emits bodies s (s.notifyPlaces cause before) ∧
      s.notifyPlaces cause before = { s with link := (s.notifyPlaces cause before).link } := by
  unfold State.notifyPlaces
  split
  · exact ⟨[], by simp, by simp, .nothing rfl rfl, rfl⟩
  · refine ⟨[_], by simp, ?_, .notify _ _, by rw [State.notify_eq]⟩
    simp

/-- The HEAT_STATE notice of a recall carries the guard end (R51). -/
theorem State.notifyHeat_recall {cause : HeatCause} {h : HeatRecord} {s : State}
    (hcur : s.heat.current = some h) (hrace : s.heat.race = .armed)
    (hc : cause = .recallLine ∨ cause = .recallRequest) :
    s.notifyHeat .running cause =
      s.notify (.heatState .armed .running cause (some (h.event, h.heat)) s.heat.flags none
        s.heat.guardEnd) := by
  unfold State.notifyHeat State.numbers
  rw [hcur, hrace]
  obtain rfl | rfl := hc <;> rfl

/-- A recalled heat at the end of the event. -/
theorem State.recallHeat_leaves {s t : State} {h : HeatRecord} {stamp : Nat} {cause : HeatCause}
    (hcur : s.heat.current = some h) (hc : cause = .recallLine ∨ cause = .recallRequest)
    (l : (s.recallHeat h stamp cause).Leaves t) :
    (s.recalled h stamp).EndsAs t ∧ t.tells ⟨t.masterTime, .heatState .armed .running cause
      (some (h.event, h.heat)) s.heat.flags none (some (stamp + 10000))⟩ := by
  rw [State.recallHeat_eq] at l
  obtain ⟨bodies, -, -, em, hp⟩ := State.notifyPlaces_emits .recall s.lanes (s.recalled h stamp)
  have hn := State.notifyHeat_recall (s := (s.recalled h stamp).notifyPlaces .recall s.lanes)
    (by rw [hp]; exact hcur) (by rw [hp]; rfl) hc
  rw [hn] at l
  refine ⟨l.behindNotices (em.trans (.notify _ _)) ?_, ?_⟩
  · rw [State.notify_eq, hp]
  · have := l.tellsNotice rfl
    rwa [hp] at this

theorem State.recalledFrom_of_ends {s s' t : State} {h : HeatRecord} {stamp m : Nat}
    (hcur : s.heat.current = some h)
    (hs : s' = { s.advance m with heat := { s.heat with recallLine := s'.heat.recallLine } })
    (e : (s'.recalled h stamp).EndsAs t) :
    s.RecalledFrom h stamp t ∧ t.clock = max s.clock m ∧ s.linkKept t := by
  obtain ⟨he, hb, hk⟩ := e
  obtain ⟨-, -, -, b4, -⟩ := hb
  rw [hs] at he hk b4
  refine ⟨⟨?_, ?_, ?_, ?_, ?_, ?_, ?_, fun lane => ?_, ?_, fun pad => ?_, ?_, ?_, ?_, ?_, ?_, b4⟩, ?_, hk⟩
  case refine_8 => rw [he]; simp [State.recalled]
  case refine_10 => rw [he]; simp [State.recalled]
  case refine_5 => rw [he]; exact hcur
  all_goals rw [he]; rfl

theorem State.withinRecall_eq_true {s : State} {p : Profile} {start stamp : Nat}
    (hmark : s.heat.startMark = some start) (hforce : s.store.inForce = some p) :
    s.withinRecall stamp = true ↔ 0 < p.recallWindow ∧ stamp < start + p.recallWindow * 100 := by
  unfold State.withinRecall State.recallTicks raceTimeOf limitTicks
  rw [hmark, hforce]
  simp
  omega

/-- A RECALL edge that recalls nothing (R43). -/
theorem State.recallEdge_idle {s : State} {stamp : Nat} (h : stamp ≤ Config.masterLimit)
    (hno : s.heat.race ≠ .running ∨ s.withinRecall stamp = false) : s.recallEdge stamp = s := by
  unfold State.recallEdge
  rw [stampOf_of_le h]
  split
  · next hrace hcur =>
    rw [hno.resolve_left (not_not_intro hrace)]
    rfl
  · rfl

theorem State.withinRecall_eq_false {s : State} {stamp : Nat}
    (h : ∃ p start, s.store.inForce = some p ∧ s.heat.startMark = some start ∧
      (p.recallWindow = 0 ∨ start + p.recallWindow * 100 ≤ stamp)) : s.withinRecall stamp = false := by
  obtain ⟨p, start, hforce, hmark, hpast⟩ := h
  rw [← Bool.not_eq_true, State.withinRecall_eq_true hmark hforce]
  omega

/-- Settles O13. -/
theorem recallReturnsToArmed : Obligations.RecallReturnsToArmed := by
  refine ⟨fun s h p start stamp hr hrace hcur hmark hforce hl hstamp hq hpos hin => ?_,
    fun s h p start m tag hr hl hq hrace hcur hmark hforce hpos hin => ?_,
    fun s level stamp hr hl hstamp hq hno => ?_, fun s m tag hr hl hq hno => ?_⟩
  · have hedge : ((s.advance stamp).putRecallLine .closed).recallEdge stamp =
        ((s.advance stamp).putRecallLine .closed).recallHeat h stamp .recallLine := by
      unfold State.recallEdge
      rw [stampOf_of_le hstamp, show ((s.advance stamp).putRecallLine .closed).heat.race = .running from hrace,
        show ((s.advance stamp).putRecallLine .closed).heat.current = some h from hcur]
      exact if_pos ((State.withinRecall_eq_true (s := (s.advance stamp).putRecallLine .closed)
        hmark hforce).mpr ⟨hpos, hin⟩)
    have hx := State.recallLineEdge_does (level := .closed) hr (by simp [hl]) hq
    rw [if_pos rfl, hedge] at hx
    obtain ⟨e, htells⟩ := State.recallHeat_leaves (s := (s.advance stamp).putRecallLine .closed) hcur (.inl rfl)
      (State.settle_leaves _)
    obtain ⟨h1, h2, h3⟩ := State.recalledFrom_of_ends (s := s) (m := stamp) hcur rfl e
    exact ⟨_, hx, h1, h2, h3, htells⟩
  · have hh : (s.advance m).handle ⟨.recall, tag, []⟩ =
        ((s.advance m).recallHeat h (s.advance m).masterTime .recallRequest).accept .empty := by
      show (if s.heat.race ≠ .running then _ else _) = _
      rw [if_neg (not_not_intro hrace), (State.withinRecall_eq_true (s := s.advance m)
        hmark hforce).mpr ⟨hpos, hin⟩, if_neg (by simp)]
      rw [show (s.advance m).heat.current = some h from hcur]
    obtain ⟨t, ht, -, l, ha⟩ := State.request_does (c := .recall m tag []) rfl hr hl hq hh
    obtain ⟨e, htells⟩ := State.recallHeat_leaves (s := s.advance m) hcur (.inr rfl) l
    obtain ⟨h1, h2, h3⟩ := State.recalledFrom_of_ends (s := s) (m := m) hcur rfl e
    exact ⟨_, ht, h1, h2, h3, ha, htells⟩
  · have l := State.settle_leaves ((s.advance stamp).putRecallLine level)
    refine ⟨_, (State.recallLineEdge_does hr hl hq).trans ?_, l.eq, l.board, l.link⟩
    split
    · next hlevel =>
      rw [State.recallEdge_idle hstamp]
      obtain h | h | h := hno
      · rw [h] at hlevel; cases hlevel
      · exact .inl h
      · exact .inr (State.withinRecall_eq_false (s := (s.advance stamp).putRecallLine level) h)
    · rfl
  · have hh : (s.advance m).handle ⟨.recall, tag, []⟩ =
        (s.advance m).deny (if s.heat.race = .running then .tooLate else .wrongState) := by
      show (if s.heat.race ≠ .running then _ else _) = _
      by_cases hrace : s.heat.race = .running
      · rw [if_neg (not_not_intro hrace), if_pos hrace, State.withinRecall_eq_false (s := s.advance m)
          (hno.resolve_left (not_not_intro hrace)), if_pos rfl]
      · rw [if_pos hrace, if_neg hrace]
    exact State.request_answers (c := .recall m tag []) rfl hr hl hq hh

/-! ### The first-finish hold -/

/-- Settles O32. -/
theorem holdRunsOut : Obligations.HoldRunsOut := by
  intro s ends hr hrace hhold hq
  have hd : s.holdDeadline = some ends := by unfold State.holdDeadline; rw [hrace, hhold]
  have ht := State.ifDue_does (c := .firstFinishHoldEnd) State.holdEnds hr rfl hd hq hd
  have l := State.settle_leaves (s.advance ends).holdEnds
  obtain ⟨b1, b2, b3, b4, b5⟩ := l.board
  exact ⟨_, ht, l.eq, b4, b1, b2, b3, b5, State.settle_image _, l.link⟩

/-! ### Resets -/

/-- What every reset leaves of the part (R187). -/
theorem State.cutShort_resetOf (power : Power) (s : State) : s.ResetOf (s.cutShort power) where
  clock := rfl
  counting := ⟨rfl, rfl⟩
  heat := rfl
  pads := fun pad => by simp [State.cutShort, resetPad]
  buttons := fun ix => by simp [State.cutShort, resetButton]
  wall := ⟨rfl, rfl, rfl⟩
  lanes := fun lane => by simp [State.cutShort, State.reset]
  scanner := ⟨rfl, rfl, rfl, rfl, fun lane => by simp [State.cutShort, State.reset]⟩
  placing := rfl
  board := ⟨rfl, rfl, rfl, rfl, rfl, rfl, rfl, fun row => by simp [State.cutShort, State.reset]⟩
  store := ⟨rfl, rfl, rfl⟩
  link := rfl
  pending := rfl

/-- The standby latch is no part of what a reset leaves. -/
theorem State.ResetOf.withLatch {s t : State} (h : s.ResetOf t) (latch : Bool) :
    s.ResetOf { t with standbyLatch := latch } :=
  ⟨h.clock, h.counting, h.heat, h.pads, h.buttons, h.wall, h.lanes, h.scanner, h.placing, h.board, h.store,
    h.link, h.pending⟩

theorem State.noLimitBy_mono {s : State} {m n : Nat} (hmn : m ≤ n) (h : s.noLimitBy n = true) :
    s.noLimitBy m = true := by
  unfold State.noLimitBy State.raceLimitBy State.masterLimitBy at *
  simp only [Bool.and_eq_true, Bool.not_eq_true', Bool.and_eq_false_iff, decide_eq_false_iff_not,
    Option.any_eq_false] at h ⊢
  obtain ⟨hrace, hmaster⟩ := h
  exact ⟨fun t ht => by have := hrace t ht; omega, hmaster.imp_right (by omega)⟩

/-- A time that is quiet up to a moment is quiet up to every earlier one. -/
theorem State.quietUntil_mono {s : State} {m n : Nat} (hmn : m ≤ n) (h : s.quietUntil n = true) :
    s.quietUntil m = true := by
  unfold State.quietUntil at *
  rw [Bool.and_eq_true] at h ⊢
  refine ⟨State.noLimitBy_mono hmn h.1, ?_⟩
  have := h.2
  simp only [Bool.not_eq_true', Bool.and_eq_false_iff, decide_eq_false_iff_not] at this ⊢
  exact this.imp_right (by omega)

/-- A frame is its payload and seven bytes more (R184). -/
theorem consoleFrame_length (kind tag : Byte) (payload : List Byte) :
    (consoleFrame kind tag payload).length = payload.length + 7 := by
  unfold consoleFrame
  simp only [List.length_cons, List.length_append, natBytes_two, List.length_cons, List.length_nil]
  omega

/-- Settles O2. -/
theorem resetsEmptyTheWorkingState : Obligations.ResetsEmptyTheWorkingState := by
  refine ⟨fun s h => ?_, fun s h => ?_, fun s h => ?_, fun s tag began h hline hq => ?_, fun s h => ?_,
    fun s h => ?_⟩
  · refine ⟨{ s.cutShort (.held .power s.standbyLatch) with standbyLatch := false }, ?_,
      (State.cutShort_resetOf _ s).withLatch false, rfl, rfl⟩
    show Host.Outcome.next s.applyPower = _
    unfold State.applyPower
    rw [h]
  · refine ⟨s.cutShort (.held .resetPin false), ?_, State.cutShort_resetOf _ s, rfl, rfl⟩
    show Host.Outcome.next s.assertReset = _
    unfold State.assertReset
    rw [h]
  · refine ⟨s.cutShort .off, ?_, State.cutShort_resetOf _ s, rfl, rfl⟩
    show Host.Outcome.next s.removePower = _
    unfold State.removePower
    split
    · next hp => exact absurd hp h
    · rfl
  · have hr : s.isRunning = true := by unfold State.isRunning; rw [h]; rfl
    have hd : s.restartDeadline = some (began + 3) := by
      have hlen : (messageFrame (.reply ⟨.execution, some .restart, tag, .accepted .empty⟩)).length = 8 :=
        consoleFrame_length ..
      unfold State.restartDeadline State.transmitDeadline Link.sendsRestart
      rw [hline]
      exact congrArg some (congrArg (began + consoleTicks ·) hlen)
    refine ⟨_, congrArg Host.Outcome.next ?_, State.cutShort_resetOf (.held .restartRequest false) s, rfl, rfl⟩
    rw [State.whenRunning_running _ hr, State.atDeadline_quiet _ hd (State.quietUntil_mono (by omega) hq) hd]
    rfl
  · show Host.Outcome.next s.setLatch = _
    unfold State.setLatch
    rw [h]
  · show Host.Outcome.next s.setLatch = _
    unfold State.setLatch
    split
    · next hp => exact absurd hp h
    · rfl

end Sys2Proof.Machine

/-!
PROOFS. The timebase: start-up, the events that lock it, the windows that count or lose the reference, the
tick, and the events that the tick makes due.
-/

namespace Sys2Proof.Machine

/-! ### Start-up -/

theorem readMemory_length (held : Bool) (p : Placing) :
    (readMemory held p).1.length ≤ max 24 p.archive.length := by
  unfold readMemory Config.archiveMax
  split
  · exact Nat.le_max_right _ _
  · exact (List.length_take_le _ _).trans (Nat.le_max_left _ _)

theorem resetKind_eq (cause : ResetCause) (latch sound : Bool) : resetKind cause latch sound =
    if cause ≠ .power then .warmReset
    else if latch = true ∨ sound = false then .coldStart else .standbyRestart := by
  cases cause <;> cases latch <;> cases sound <;> rfl

theorem resetKind_cold (cause : ResetCause) (latch sound : Bool) :
    (resetKind cause latch sound = .coldStart ∨ sound = false) ↔
      (sound = false ∨ (cause = .power ∧ latch = true)) := by
  cases cause <;> cases latch <;> cases sound <;> simp [resetKind]

/-- Settles O3. -/
theorem startUpFixesModeProfileAndArchive : Obligations.StartUpFixesModeProfileAndArchive := by
  intro s cause latch strapHigh held hp
  have l := State.settle_leaves (s.startUp cause latch strapHigh held)
  have he := l.eq
  have hforce : (s.startUp cause latch strapHigh held).settle.store.inForce =
      s.store.stored.filter Profile.inRange := by rw [he]; rfl
  have harchive : (s.startUp cause latch strapHigh held).settle.placing.archive =
      if passesCheck (readMemory held s.placing) = false ∨ (cause = .power ∧ latch = true) then []
      else (readMemory held s.placing).1 := by
    rw [he]
    exact if_congr (resetKind_cold ..) rfl rfl
  refine ⟨_, (readMemory held s.placing).1, (readMemory held s.placing).2,
    passesCheck (readMemory held s.placing), ?_, fun h => ?_, readMemory_length held s.placing,
    decide_eq_true_iff, ?_, ?_, ?_, l.link⟩
  · show Host.Outcome.next (s.beginRunning strapHigh held) = _
    unfold State.beginRunning
    rw [hp]
  · rw [h]
    exact ⟨rfl, rfl⟩
  · rw [harchive, hforce, ← resetKind_eq]
    refine he.trans ?_
    unfold State.startUp
    simp only [State.setArchive, resetKind_cold]
    rfl
  · rw [hforce]
    exact l.board.1
  · refine State.passTaken_settle rfl ⟨rfl, rfl, rfl, rfl, rfl, rfl⟩ rfl fun hc => ?_
    unfold State.configured at hc
    exact (Option.isSome_map ..).trans hc

/-! ### The events that lock the timebase -/

/-- The timebase locks, with its notice (R3, R4, R6). -/
theorem State.enterLocked_eq (cause : TimebaseCause) (s : State) : s.enterLocked cause =
    State.notify (.timebase .locked s.timebase.state s.timebase.source cause)
      { s with timebase :=
        { s.timebase with state := .locked, steering := s.timebase.source == .external } } := rfl

/-- The end of the INTERNAL acquisition (R4). -/
theorem State.enterLocked_internal {s : State} (ha : s.timebase.state = .acquiring)
    (hs : s.timebase.source = .internal) : s.enterLocked .acquired =
      State.notify (.timebase .locked .acquiring .internal .acquired)
        { s with timebase := { s.timebase with state := .locked, steering := false } } := by
  rw [State.enterLocked_eq]
  dsimp only
  rw [ha, hs]
  rfl

/-- A good window behind which the count is full locks what acquires. -/
theorem State.goodWindowEnd_acquires {s : State} (hs : s.timebase.source = .external)
    (ha : s.timebase.state = .acquiring) (hc : 19999 ≤ s.timebase.goodCount) :
    s.goodWindowEnd = State.notify (.timebase .locked .acquiring .external .acquired)
      { s with timebase := { s.timebase with
        state := .locked, goodCount := 20000, lastWindow := some true, steering := true } } := by
  have hcount : min Config.goodWindows (s.timebase.goodCount + 1) = 20000 := by
    unfold Config.goodWindows; omega
  unfold State.goodWindowEnd
  dsimp only
  rw [hcount, if_pos ⟨rfl, ha⟩, State.enterLocked_eq]
  dsimp only
  rw [ha, hs]
  rfl

/-- A good window behind which the count is full ends a HOLDOVER that no heat holds. -/
theorem State.goodWindowEnd_restores {s : State} (hs : s.timebase.source = .external)
    (hh : s.timebase.state = .holdover) (hc : 19999 ≤ s.timebase.goodCount)
    (hr : s.armedOrRunning = false) :
    s.goodWindowEnd = State.notify (.timebase .locked .holdover .external .referenceRestored)
      { s with timebase := { s.timebase with
        state := .locked, goodCount := 20000, lastWindow := some true, steering := true } } := by
  have hcount : min Config.goodWindows (s.timebase.goodCount + 1) = 20000 := by
    unfold Config.goodWindows; omega
  unfold State.goodWindowEnd State.holdoverReturn
  dsimp only
  rw [hcount, if_neg (by simp [hh]), if_pos ⟨hh, rfl, hr⟩, State.enterLocked_eq]
  dsimp only
  rw [hh, hs]
  rfl

/-- Any other good window only counts. -/
theorem State.goodWindowEnd_counts {s : State}
    (h : s.timebase.state = .locked ∨ s.timebase.goodCount + 1 < 20000 ∨
      (s.timebase.state = .holdover ∧ s.armedOrRunning = true)) :
    s.goodWindowEnd = { s with timebase := { s.timebase with
      goodCount := min 20000 (s.timebase.goodCount + 1), lastWindow := some true } } := by
  unfold State.goodWindowEnd State.holdoverReturn Config.goodWindows
  dsimp only
  rw [if_neg, if_neg]
  · rintro ⟨h1, h2, h3⟩
    rcases h with h | h | ⟨-, h⟩
    · rw [h] at h1; cases h1
    · omega
    · exact absurd (h.symm.trans h3) (by simp)
  · rintro ⟨h1, h2⟩
    rcases h with h | h | ⟨h, -⟩
    · rw [h] at h2; cases h2
    · omega
    · rw [h] at h2; cases h2

/-- A window event in its tick: before any limit the next tick judges it. -/
theorem State.windowEnds_does {applies : State → Bool} {f : State → State} {s : State} {c : Instr}
    (hr : s.isRunning = true) (hc : exec c s = .next (s.whenRunning fun s => s.windowEnds applies f))
    (h : applies s = true) (hq : s.noLimitBy (s.clock + 1) = true)
    (h' : applies (s.advance (s.clock + 1)) = true) :
    exec c s = .next (f (s.advance (s.clock + 1))).settle := by
  rw [hc, State.whenRunning_running _ hr, State.windowEnds_quiet f h hq h']

theorem State.monitoring_eq_true {s : State} : s.monitoring = true ↔
    s.timebase.source = .external ∧ s.timebase.state ≠ .unlocked := by
  simp [State.monitoring]

theorem goodWindow_eq_true {cycles : Nat} : goodWindow cycles = true ↔ 999 ≤ cycles ∧ cycles ≤ 1001 :=
  decide_eq_true_iff

/-- REFERENCE_WINDOW_END in its tick. -/
theorem State.referenceWindowEnd_does {s : State} (cycles : Nat) (hr : s.isRunning = true)
    (hm : s.monitoring = true) (hq : s.noLimitBy (s.clock + 1) = true) :
    exec (.referenceWindowEnd cycles) s =
      .next ((s.advance (s.clock + 1)).judgeWindow cycles).settle :=
  State.windowEnds_does (c := .referenceWindowEnd cycles) hr rfl hm hq hm

theorem State.judgeWindow_good {cycles : Nat} (s : State) (h1 : 999 ≤ cycles) (h2 : cycles ≤ 1001) :
    s.judgeWindow cycles = s.goodWindowEnd := if_pos (goodWindow_eq_true.mpr ⟨h1, h2⟩)

theorem State.judgeWindow_bad {cycles : Nat} (s : State) (h : cycles < 999 ∨ 1001 < cycles) :
    s.judgeWindow cycles = s.badWindowEnd :=
  if_neg fun hg => by have := goodWindow_eq_true.mp hg; omega

theorem State.advance_succ (s : State) : s.advance (s.clock + 1) = { s with clock := s.clock + 1 } := by
  unfold State.advance
  rw [Nat.max_eq_right (Nat.le_succ _)]

/-- A window event that locks the timebase, by either of its commands. -/
theorem State.locks_does {applies : State → Bool} {s : State} {c : Instr} {previous : TimebaseState}
    {cause : TimebaseCause} (hr : s.isRunning = true) (hsource : s.timebase.source = .external)
    (hstate : s.timebase.state ≠ .unlocked) (hq : s.noLimitBy (s.clock + 1) = true)
    (hc : exec c s = .next (s.whenRunning fun s => s.windowEnds applies State.goodWindowEnd))
    (h : applies s = true) (h' : applies (s.advance (s.clock + 1)) = true)
    (hgood : (s.advance (s.clock + 1)).goodWindowEnd =
      State.notify (.timebase .locked previous .external cause)
        { s.advance (s.clock + 1) with timebase := { s.timebase with
          state := .locked, goodCount := 20000, lastWindow := some true, steering := true } }) :
    ∃ t, exec c s = .next t ∧
      t = { s with
        clock := s.clock + 1
        timebase :=
          { s.timebase with
            state := .locked, goodCount := 20000, lastWindow := some true, steering := true }
        board := t.board, link := t.link } ∧
      s.boardKept t ∧ s.linkKept t ∧
      t.tells ⟨t.masterTime, .timebase .locked previous .external cause⟩ ∧
      ∀ cycles, 999 ≤ cycles → cycles ≤ 1001 → exec (.referenceWindowEnd cycles) s = .next t := by
  have hx := State.windowEnds_does hr hc h hq h'
  have l := State.settle_leaves (s.advance (s.clock + 1)).goodWindowEnd
  refine ⟨_, hx, ?_⟩
  have hw : ∀ cycles, 999 ≤ cycles → cycles ≤ 1001 → exec (.referenceWindowEnd cycles) s =
      .next (s.advance (s.clock + 1)).goodWindowEnd.settle := fun cycles h1 h2 => by
    rw [State.referenceWindowEnd_does cycles hr (State.monitoring_eq_true.mpr ⟨hsource, hstate⟩) hq,
      State.judgeWindow_good _ h1 h2]
  generalize (s.advance (s.clock + 1)).goodWindowEnd.settle = t at l hw
  rw [hgood, State.advance_succ] at l
  obtain ⟨he, hb, hk⟩ := l.behindNotice
  exact ⟨he, hb, hk, l.tellsNotice rfl, hw⟩

/-- Settles O4. -/
theorem acquisitionsLock : Obligations.AcquisitionsLock := by
  refine ⟨fun s hr hstate hsource hq => ?_, fun s hr hsource hstate hcount hq => ?_,
    fun s hr hsource hstate hcount hrace hq => ?_⟩
  · have hd : s.acquiringDeadline = some s.timebase.acquiringEnd := if_pos ⟨hstate, hsource⟩
    have ht := State.ifDue_does (c := .acquiringIntervalEnd) (State.enterLocked .acquired) hr rfl hd hq hd
    have l := State.settle_leaves ((s.advance s.timebase.acquiringEnd).enterLocked .acquired)
    rw [State.enterLocked_internal (s := s.advance s.timebase.acquiringEnd) hstate hsource] at l ht
    obtain ⟨he, hb, hk⟩ := l.behindNotice
    exact ⟨_, ht, he, hb, hk, l.tellsNotice rfl⟩
  · have happ : s.acquires = true := by
      unfold State.acquires State.lastGoodWindow Config.goodWindows
      rw [hsource, hstate]
      simp
      omega
    exact State.locks_does (c := .referenceAcquired) hr hsource (by simp [hstate]) hq rfl happ happ
      (State.goodWindowEnd_acquires hsource hstate hcount)
  · have happ : s.restores = true := by
      unfold State.restores State.lastGoodWindow Config.goodWindows
      rw [hsource, hstate, hrace]
      simp
      omega
    exact State.locks_does (c := .referenceRestored) hr hsource (by simp [hstate]) hq rfl happ happ
      (State.goodWindowEnd_restores hsource hstate hcount hrace)

/-! ### A bad window -/

/-- The state that a bad window leaves, its notice apart (R5, R7). -/
def State.windowLost (s : State) : State :=
  { s with
    timebase :=
      if s.timebase.state = .locked then
        { s.timebase with state := .holdover, steering := false, goodCount := 0, lastWindow := some false }
      else { s.timebase with goodCount := 0, lastWindow := some false }
    heat :=
      if s.timebase.state = .locked ∧ s.armedOrRunning = true then
        { s.heat with flags := { s.heat.flags with holdover := true } }
      else s.heat }

theorem State.badWindowEnd_locked {s : State} (h : s.timebase.state = .locked) :
    s.badWindowEnd = s.windowLost.notify (.timebase .holdover .locked s.timebase.source .referenceLost) := by
  unfold State.badWindowEnd State.windowLost State.notifyTimebase
  dsimp only
  rw [if_pos h, if_pos h]
  cases hr : s.armedOrRunning with
  | true => rw [if_pos ⟨h, rfl⟩]; simp
  | false => rw [if_neg (by simp)]; simp

theorem State.badWindowEnd_not_locked {s : State} (h : s.timebase.state ≠ .locked) :
    s.badWindowEnd = s.windowLost := by
  unfold State.badWindowEnd State.windowLost
  dsimp only
  rw [if_neg h, if_neg h, if_neg fun hc => h hc.1]

/-! ### What arrives at a moment -/

/-- What the lines and the power were: the fields that say whether an arrival is an edge. -/
structure State.LinesKept (s t : State) : Prop where
  power : t.power = s.power
  setLine : t.heat.setLine = s.heat.setLine
  startLine : t.heat.startLine = s.heat.startLine
  recallLine : t.heat.recallLine = s.heat.recallLine
  pads : ∀ pad : PadIx, (t.wall.pads[pad]).level = (s.wall.pads[pad]).level
  buttons : t.wall.buttons = s.wall.buttons

theorem State.LinesKept.trans {s t u : State} (h : s.LinesKept t) (h' : t.LinesKept u) : s.LinesKept u :=
  ⟨h'.power.trans h.power, h'.setLine.trans h.setLine, h'.startLine.trans h.startLine,
    h'.recallLine.trans h.recallLine, fun pad => (h'.pads pad).trans (h.pads pad),
    h'.buttons.trans h.buttons⟩

/-- What changes neither the power nor the wall nor the heat's lines keeps the lines. -/
theorem State.LinesKept.of_frame {s t : State} (hp : t.power = s.power) (hw : t.wall = s.wall)
    (hset : t.heat.setLine = s.heat.setLine) (hstart : t.heat.startLine = s.heat.startLine)
    (hrecall : t.heat.recallLine = s.heat.recallLine) : s.LinesKept t :=
  ⟨hp, hset, hstart, hrecall, fun _ => by rw [hw], by rw [hw]⟩

theorem State.endHeat_linesKept (h : HeatRecord) (cause : HeatCause) (s : State) :
    s.LinesKept (s.endHeat h cause) where
  power := by simp [State.endHeat_eq, State.enterJudging, State.freezeBoard]
  setLine := by simp
  startLine := by simp
  recallLine := by simp
  pads := fun pad => by simp [State.endHeat_eq, State.enterJudging, State.freezeBoard]
  buttons := by simp [State.endHeat_eq, State.enterJudging, State.freezeBoard]

theorem State.overtime_linesKept (s : State) : s.LinesKept s.overtime := by
  unfold State.overtime
  split
  · exact .of_frame rfl rfl rfl rfl rfl
  · exact .trans (t := { s with heat := { s.heat with flags := { s.heat.flags with overtime := true } } })
      (.of_frame rfl rfl rfl rfl rfl) (State.endHeat_linesKept ..)

theorem State.limitHeat_linesKept (s : State) : s.LinesKept s.limitHeat := by
  unfold State.limitHeat
  split
  · exact .of_frame (by simp) (by simp) (by simp) (by simp) (by simp)
  · exact State.endHeat_linesKept ..
  · exact .of_frame rfl rfl rfl rfl rfl

theorem State.settle_linesKept (s : State) : s.LinesKept s.settle :=
  .of_frame (by simp) (by simp) (by simp) (by simp) (by simp)

theorem State.reachLimit_linesKept (s : State) : s.LinesKept s.reachLimit := by
  have h := s.stopTimebase.limitHeat_linesKept
  have ha : s.stopTimebase.limitHeat.LinesKept s.stopTimebase.limitHeat.abandonLeveling := by
    unfold State.abandonLeveling
    split
    · exact ⟨by simp, by simp, by simp, by simp, fun pad => by simp, by simp⟩
    · exact .of_frame rfl rfl rfl rfl rfl
  have hr : s.stopTimebase.limitHeat.abandonLeveling.LinesKept s.reachLimit :=
    .of_frame (by simp [State.reachLimit]) (by simp [State.reachLimit]) (by simp [State.reachLimit])
      (by simp [State.reachLimit]) (by simp [State.reachLimit])
  exact ((State.LinesKept.of_frame rfl rfl rfl rfl rfl : s.LinesKept s.stopTimebase).trans h).trans
    (ha.trans hr)

theorem State.takeRaceLimit_linesKept (s : State) : s.LinesKept s.takeRaceLimit := by
  unfold State.takeRaceLimit
  split
  · exact .of_frame rfl rfl rfl rfl rfl
  · exact .trans (t := s.advance _) (.of_frame rfl rfl rfl rfl rfl)
      ((State.overtime_linesKept (s.advance _)).trans (State.settle_linesKept _))

theorem State.reach_linesKept (m : Nat) (s : State) : s.LinesKept (s.reach m) := by
  have race : s.LinesKept (if s.raceLimitBy m then s.takeRaceLimit else s) := by
    split
    · exact s.takeRaceLimit_linesKept
    · exact .of_frame rfl rfl rfl rfl rfl
  refine race.trans ?_
  unfold State.reach
  dsimp only
  generalize (if s.raceLimitBy m then s.takeRaceLimit else s) = u
  split
  · exact ((State.reachLimit_linesKept u).trans (State.settle_linesKept _)).trans
      (.of_frame rfl rfl rfl rfl rfl)
  · exact .of_frame rfl rfl rfl rfl rfl

theorem State.badWindowEnd_linesKept (s : State) : s.LinesKept s.badWindowEnd :=
  .of_frame (by simp) (by simp) (by rw [State.badWindowEnd_heat]) (by rw [State.badWindowEnd_heat])
    (by rw [State.badWindowEnd_heat])

theorem State.missWindow_linesKept (s : State) : s.LinesKept s.missWindow := by
  unfold State.missWindow State.windowEnds
  dsimp only
  split
  · split
    · rw [State.judgeWindow_bad _ (.inl (by omega))]
      exact (s.reach_linesKept _).trans
        ((State.badWindowEnd_linesKept _).trans (State.settle_linesKept _))
    · exact s.reach_linesKept _
  · exact .of_frame rfl rfl rfl rfl rfl

/-- What arrives beyond an event finds the state that the event leaves, when the time that passes until then
leads both to the same state. -/
theorem State.sameAt_of_pass {s u : State} {m : Nat} (hr : s.isRunning = true) (hu : s.LinesKept u)
    (h : s.pass m = u.pass m) : s.sameAt m u := by
  have hr' : u.isRunning = true := by unfold State.isRunning at *; rwa [hu.power]
  refine ⟨fun kind tag payload => ?_, fun level hl => ?_, fun level hl => ?_, fun level hl => ?_,
    fun lane wall level hl => ?_, fun lane button level hl => ?_⟩
  · unfold State.request
    rw [State.whenRunning_running _ hr, State.whenRunning_running _ hr', h]
  · show execSetLineEdge level m s = execSetLineEdge level m u
    unfold execSetLineEdge
    rw [hu.setLine, if_neg hl, if_neg hl, if_neg (by simp [hr]), if_neg (by simp [hr']), h]
  · show execStartLineEdge level m s = execStartLineEdge level m u
    unfold execStartLineEdge
    rw [hu.startLine, if_neg hl, if_neg hl, if_neg (by simp [hr]), if_neg (by simp [hr']), h]
  · show execRecallLineEdge level m s = execRecallLineEdge level m u
    unfold execRecallLineEdge
    rw [hu.recallLine, if_neg hl, if_neg hl, if_neg (by simp [hr]), if_neg (by simp [hr']), h]
  · show execPadEdge lane wall level m s = execPadEdge lane wall level m u
    unfold execPadEdge
    dsimp only
    rw [hu.pads, if_neg hl, if_neg hl, if_neg (by simp [hr]), if_neg (by simp [hr']), h]
  · show execButtonEdge lane button level m s = execButtonEdge lane button level m u
    unfold execButtonEdge
    dsimp only
    rw [hu.buttons, if_neg hl, if_neg hl, if_neg (by simp [hr]), if_neg (by simp [hr']), h]

/-! ### The events that a tick makes due -/

theorem State.comes_eq_true {s : State} {d : Option Nat} :
    s.comes d = true ↔ ∃ t, d = some t ∧ t ≤ s.clock := by
  unfold State.comes
  rw [Option.any_eq_true]
  simp

theorem State.mem_whenComes {s : State} {d : Option Nat} {c i : Instr} :
    i ∈ s.whenComes d c ↔ i = c ∧ ∃ t, d = some t ∧ t ≤ s.clock := by
  unfold State.whenComes
  rw [← State.comes_eq_true]
  split <;> simp_all

theorem padOf_parts (pad : PadIx) : padIx (padLane pad) (padWall pad) = pad := by revert pad; decide

theorem padIx_injective : ∀ (l k : Lane) (v w : Wall), padIx l v = padIx k w → l = k ∧ v = w := by
  intro l k v w h
  cases v <;> cases w <;> simp only [padIx, reduceCtorEq, and_true, and_false, Fin.ext_iff] at h ⊢ <;> omega

theorem State.mem_duePads {s : State} {i : Instr} : i ∈ s.duePads ↔
    ∃ lane wall, i = .padQualifyTime lane wall ∧
      ∃ t, s.qualifyDeadline (padIx lane wall) = some t ∧ t ≤ s.clock := by
  unfold State.duePads
  rw [List.mem_flatten]
  constructor
  · rintro ⟨l, hl, hi⟩
    obtain ⟨pad, -, rfl⟩ := List.mem_map.mp hl
    obtain ⟨rfl, t, ht, hle⟩ := State.mem_whenComes.mp hi
    exact ⟨_, _, rfl, t, by rwa [padOf_parts], hle⟩
  · rintro ⟨lane, wall, rfl, t, ht, hle⟩
    refine ⟨_, List.mem_map.mpr ⟨padIx lane wall, mem_allPads _, rfl⟩, State.mem_whenComes.mpr ⟨?_, t, ht, hle⟩⟩
    obtain ⟨h1, h2⟩ := padIx_injective _ _ _ _ (padOf_parts (padIx lane wall))
    rw [h1, h2]

theorem State.mem_dueWindows {s : State} {i : Instr} : i ∈ s.dueWindows ↔
    ∃ lane, i = .finishWindowClose lane ∧ ∃ t, s.windowDeadline lane = some t ∧ t ≤ s.clock := by
  unfold State.dueWindows
  rw [List.mem_flatten]
  constructor
  · rintro ⟨l, hl, hi⟩
    obtain ⟨lane, -, rfl⟩ := List.mem_map.mp hl
    exact ⟨lane, State.mem_whenComes.mp hi⟩
  · rintro ⟨lane, hi⟩
    exact ⟨_, List.mem_map.mpr ⟨lane, mem_allLanes _, rfl⟩, State.mem_whenComes.mpr hi⟩

theorem State.mem_dueEvents {s : State} {i : Instr} : i ∈ s.dueEvents ↔
    (i = .acquiringIntervalEnd ∧ ∃ t, s.acquiringDeadline = some t ∧ t ≤ s.clock) ∨
    (∃ lane wall, i = .padQualifyTime lane wall ∧
      ∃ t, s.qualifyDeadline (padIx lane wall) = some t ∧ t ≤ s.clock) ∨
    (∃ lane, i = .finishWindowClose lane ∧ ∃ t, s.windowDeadline lane = some t ∧ t ≤ s.clock) ∨
    (i = .tenthBoundary s.clock ∧ ∃ t, s.tenthDeadline s.clock = some t ∧ t ≤ s.clock) ∨
    (i = .firstFinishHoldEnd ∧ ∃ t, s.holdDeadline = some t ∧ t ≤ s.clock) ∨
    (i = .levelWaitExpiry ∧ ∃ t, s.levelWaitDeadline = some t ∧ t ≤ s.clock) ∨
    (i = .levelDriveEnd ∧ ∃ t, s.levelDriveDeadline = some t ∧ t ≤ s.clock) ∨
    (i = .profileWriteComplete ∧ ∃ t, s.writeDeadline = some t ∧ t ≤ s.clock) ∨
    (i = .boardSlot ∧ ∃ t, s.slotDeadline = some t ∧ t ≤ s.clock) ∨
    (i = .boardPeriodicPass ∧ ∃ t, s.passDeadline = some t ∧ t ≤ s.clock) ∨
    (i = .boardFrameEnd s.clock ∧ ∃ t, s.boardDeadline = some t ∧ t ≤ s.clock) ∨
    (i = .receiverSilence ∧ ∃ t, s.silenceDeadline = some t ∧ t ≤ s.clock) ∨
    (i = .transmitFrameEnd s.clock ∧ ∃ t, s.transmitDeadline = some t ∧ t ≤ s.clock) := by
  unfold State.dueEvents
  simp only [List.mem_append, State.mem_whenComes, State.mem_duePads, State.mem_dueWindows, or_assoc]

/-! When each deadline has come. -/

theorem State.acquiring_comes {s : State} : (∃ t, s.acquiringDeadline = some t ∧ t ≤ s.clock) ↔
    s.timebase.state = .acquiring ∧ s.timebase.source = .internal ∧ s.timebase.acquiringEnd ≤ s.clock := by
  unfold State.acquiringDeadline
  split <;> simp_all

theorem State.qualify_comes {s : State} {pad : PadIx} :
    (∃ t, s.qualifyDeadline pad = some t ∧ t ≤ s.clock) ↔
      ∃ lead, (s.wall.pads[pad]).capture = .qualifying lead ∧ lead + s.qualifyTicks ≤ s.clock := by
  unfold State.qualifyDeadline
  split <;> simp_all

theorem State.window_comes {s : State} {lane : Lane} :
    (∃ t, s.windowDeadline lane = some t ∧ t ≤ s.clock) ↔ s.heat.race = .running ∧
      ∃ start w, s.heat.startMark = some start ∧ (s.lanes[lane]).window = some w ∧
        start + w.closesAt ≤ s.clock := by
  unfold State.windowDeadline
  split
  · simp_all
  · next h =>
    simp only [reduceCtorEq, false_and, exists_false, false_iff]
    rintro ⟨hrace, start, w, hmark, hw, -⟩
    exact h start w hrace hmark hw

/-- The tenth that has come is a whole number of tenths from the start mark. -/
theorem State.tenth_comes {s : State} : (∃ t, s.tenthDeadline s.clock = some t ∧ t ≤ s.clock) ↔
    s.heat.race = .running ∧ ∃ start, s.heat.startMark = some start ∧ start ≤ s.clock ∧
      (s.clock - start) % 1000 = 0 ∧ s.clock - start < 36000000 := by
  unfold State.tenthDeadline Config.raceLimit
  split
  · next start hrace hmark =>
    rw [Nat.max_self]
    simp only [hrace, hmark, Option.some.injEq, true_and]
    constructor
    · rintro ⟨t, ht, hle⟩
      refine ⟨start, rfl, ?_⟩
      split at ht
      · injection ht with ht; omega
      · cases ht
    · rintro ⟨_, rfl, h1, h2, h3⟩
      refine ⟨s.clock, ?_, le_rfl⟩
      rw [if_pos (by omega)]
      congr 1
      omega
  · next h =>
    simp only [reduceCtorEq, false_and, exists_false, false_iff]
    rintro ⟨hrace, start, hmark, -⟩
    exact h start hrace hmark

theorem State.hold_comes {s : State} : (∃ t, s.holdDeadline = some t ∧ t ≤ s.clock) ↔
    s.heat.race = .running ∧ ∃ ends, s.board.hold = .holding ends ∧ ends ≤ s.clock := by
  unfold State.holdDeadline
  split
  · simp_all
  · next h =>
    simp only [reduceCtorEq, false_and, exists_false, false_iff]
    rintro ⟨hrace, ends, hhold, -⟩
    exact h ends hrace hhold

theorem State.levelWait_comes {s : State} : (∃ t, s.levelWaitDeadline = some t ∧ t ≤ s.clock) ↔
    ∃ pad began rest, s.wall.level = .measuring pad (.waiting began) rest ∧ began + 5000 ≤ s.clock := by
  unfold State.levelWaitDeadline Config.levelWaitTicks
  split
  · next hl => simp [hl]
  · next h =>
    simp only [reduceCtorEq, false_and, exists_false, false_iff]
    rintro ⟨pad, began, rest, hl, -⟩
    exact h pad began rest hl

theorem State.levelDrive_comes {s : State} : (∃ t, s.levelDriveDeadline = some t ∧ t ≤ s.clock) ↔
    ∃ pad start answer rest, s.wall.level = .measuring pad (.driving start answer) rest ∧
      start + 101 ≤ s.clock := by
  unfold State.levelDriveDeadline Config.levelDriveTicks
  split
  · next hl => simp [hl]
  · next h =>
    simp only [reduceCtorEq, false_and, exists_false, false_iff]
    rintro ⟨pad, start, answer, rest, hl, -⟩
    exact h pad start answer rest hl

/-- The queue of a tick holds the commands of the events that are due, and no others. -/
theorem State.queues_dueEvents (s : State) : s.Queues s.dueEvents where
  acquisition := .trans (by simp [State.mem_dueEvents]) State.acquiring_comes
  pads := fun lane wall => .trans (by simp [State.mem_dueEvents]) State.qualify_comes
  windows := fun lane => .trans (by simp [State.mem_dueEvents]) State.window_comes
  tenth := fun m => by simp [State.mem_dueEvents, ← State.tenth_comes]
  hold := .trans (by simp [State.mem_dueEvents]) State.hold_comes
  levelWait := .trans (by simp [State.mem_dueEvents]) State.levelWait_comes
  levelDrive := .trans (by simp [State.mem_dueEvents]) State.levelDrive_comes
  write := by simp [State.mem_dueEvents, State.writeDeadline]
  slot := by
    simp only [State.mem_dueEvents, reduceCtorEq, false_and, exists_false, false_or, or_false, true_and]
    unfold State.slotDeadline
    split <;> simp_all
  pass := by
    simp only [State.mem_dueEvents, reduceCtorEq, false_and, exists_false, false_or, or_false, true_and]
    unfold State.passDeadline
    split <;> simp_all
  boardEnd := fun m => by simp [State.mem_dueEvents, State.boardDeadline]
  silence := by
    simp only [State.mem_dueEvents, reduceCtorEq, false_and, exists_false, false_or, or_false, true_and]
    unfold State.silenceDeadline Config.silenceTicks
    split <;> simp_all
  transmitEnd := fun m => by simp [State.mem_dueEvents, State.transmitDeadline]

/-! ### The windows and the tick -/

theorem State.watches_monitoring {s : State} (h : s.watches = true) : s.monitoring = true := by
  unfold State.watches at h
  exact (Bool.and_eq_true_iff.mp h).1

/-- The tick's own window is a window of 0 cycles. -/
theorem State.missed_window {s : State} (hr : s.isRunning = true) :
    exec (.referenceWindowEnd 0) s = .next s.missWindow :=
  congrArg Host.Outcome.next (State.whenRunning_running _ hr)

/-- What arrives beyond the tick finds its window judged. -/
theorem State.pass_watches {s : State} {m : Nat} (hw : s.watches = true) (hm : s.clock < m) :
    s.pass m = s.missWindow.reach m := by
  unfold State.pass
  rw [if_pos (by simp [hw, hm])]

theorem State.pass_not_watches {s : State} {m : Nat} (h : s.watches = false ∨ m ≤ s.clock) :
    s.pass m = s.reach m := by
  unfold State.pass
  rw [if_neg]
  simp only [Bool.and_eq_true, decide_eq_true_eq, not_and, not_lt]
  exact fun hw => h.resolve_left (by simp [hw])

/-- The window that a tick judges, before any limit. -/
theorem State.missWindow_eq {s : State} (hm : s.monitoring = true) (hq : s.noLimitBy (s.clock + 1) = true) :
    s.missWindow = (s.advance (s.clock + 1)).badWindowEnd.settle := by
  unfold State.missWindow
  rw [State.windowEnds_quiet _ hm hq hm, State.judgeWindow_bad _ (.inl (by omega))]

/-- What the limits look at is not the timebase's count nor the flags. -/
theorem State.noLimitBy_congr {s t : State} {m : Nat} (hrace : t.heat.race = s.heat.race)
    (hmark : t.heat.startMark = s.heat.startMark)
    (hstate : t.timebase.state = .unlocked ↔ s.timebase.state = .unlocked)
    (hclock : max t.clock m = max s.clock m) : t.noLimitBy m = s.noLimitBy m := by
  unfold State.noLimitBy State.raceLimitBy State.raceLimitDeadline State.masterLimitBy
  have hb : (t.timebase.state != .unlocked) = (s.timebase.state != .unlocked) := by
    rw [Bool.eq_iff_iff]
    simp [hstate]
  rw [hrace, hmark, hclock, hb]

theorem State.advance_of_le {m : Nat} {s : State} (h : m ≤ s.clock) : s.advance m = s := by
  unfold State.advance
  rw [Nat.max_eq_left h]

/-- A missed window leaves the clock at the next tick, which no limit reaches either. -/
theorem State.missWindow_quiet {s : State} (hw : s.watches = true)
    (hq : s.noLimitBy (s.clock + 1) = true) :
    s.missWindow.clock = s.clock + 1 ∧ s.missWindow.noLimitBy (s.clock + 1) = true := by
  have hm := State.watches_monitoring hw
  rw [State.missWindow_eq hm hq]
  have hclock : (s.advance (s.clock + 1)).badWindowEnd.settle.clock = s.clock + 1 := by
    simp [State.advance]
  have hheat : (s.advance (s.clock + 1)).badWindowEnd.settle.heat = _ :=
    (by simp : _ = (s.advance (s.clock + 1)).badWindowEnd.heat).trans (State.badWindowEnd_heat _)
  refine ⟨hclock, ?_⟩
  rw [State.noLimitBy_congr (s := s) (by rw [hheat]; rfl) (by rw [hheat]; rfl) ?_ (by rw [hclock]; omega), hq]
  have hstate := (State.monitoring_eq_true.mp hm).2
  simp only [State.settle_frame, State.badWindowEnd_state, State.advance_frame]
  split <;> simp [hstate]

/-- The state of a tick, with the commands of the due events in its queue. -/
def State.queueDue (s : State) : State := { s with pending := s.dueEvents }

/-- The state with another queue. -/
def State.withPending (l : List Instr) (s : State) : State := { s with pending := l }

/-- What is due does not depend on what waits in the queue. -/
theorem State.dueEvents_withPending (l : List Instr) (s : State) :
    (s.withPending l).dueEvents = s.dueEvents := rfl

theorem State.queueDue_eq (s : State) : s.queueDue = { s with pending := s.queueDue.dueEvents } := by
  rw [show s.queueDue = s.withPending s.dueEvents from rfl, State.dueEvents_withPending]
  rfl

theorem State.queues_queueDue (s : State) : s.queueDue.Queues s.queueDue.pending := by
  have h := (s.withPending s.dueEvents).queues_dueEvents
  rw [State.dueEvents_withPending] at h
  exact h

/-- With no command waiting a step is a tick. -/
theorem State.step_tick {s : State} (hr : s.isRunning = true) (h : s.pending = []) :
    step s = .next (s.pass (s.clock + 1)).queueDue := by
  unfold step
  rw [h]
  show Host.Outcome.next s.tick = _
  unfold State.tick
  rw [if_neg (by simp [hr])]
  rfl

/-- Settles O5. -/
theorem windowsCountOrLoseTheReference : Obligations.WindowsCountOrLoseTheReference := by
  refine ⟨fun s cycles hr hsource hstate h1 h2 hq hcase => ?_, fun s cycles hr hsource hstate hbad hq => ?_,
    fun s hr hw hq hpending => ?_, fun s hr hq hpending => ?_, fun s u m hr hw hm hu => ?_⟩
  · have hx := State.referenceWindowEnd_does cycles hr (State.monitoring_eq_true.mpr ⟨hsource, hstate⟩) hq
    rw [State.judgeWindow_good _ h1 h2, State.goodWindowEnd_counts (s := s.advance (s.clock + 1)) hcase] at hx
    have l := State.settle_leaves { s.advance (s.clock + 1) with timebase := { s.timebase with
      goodCount := min 20000 (s.timebase.goodCount + 1), lastWindow := some true } }
    have he := l.eq
    refine ⟨_, hx, ?_, l.board, l.link⟩
    rw [State.advance_succ]
    rw [State.advance_succ] at he
    exact he
  · have hx := State.referenceWindowEnd_does cycles hr (State.monitoring_eq_true.mpr ⟨hsource, hstate⟩) hq
    rw [State.judgeWindow_bad _ hbad] at hx
    have l := State.settle_leaves (s.advance (s.clock + 1)).badWindowEnd
    refine ⟨_, hx, ?_⟩
    generalize (s.advance (s.clock + 1)).badWindowEnd.settle = t at l
    rw [State.advance_succ] at l
    by_cases hl : s.timebase.state = .locked
    · rw [State.badWindowEnd_locked (s := { s with clock := s.clock + 1 }) hl] at l
      obtain ⟨he, hb, hk⟩ := l.behindNotice
      have htells := l.tellsNotice rfl
      rw [show ({ s with clock := s.clock + 1 } : State).timebase.source = .external from hsource] at htells
      exact ⟨he, hb, hk, fun _ => htells⟩
    · rw [State.badWindowEnd_not_locked (s := { s with clock := s.clock + 1 }) hl] at l
      exact ⟨l.eq, l.board, l.link, fun h => absurd h hl⟩
  · obtain ⟨hclock, hquiet⟩ := State.missWindow_quiet hw hq
    refine ⟨s.missWindow.queueDue, s.missWindow, ?_, State.missed_window hr, State.queueDue_eq _,
      State.queues_queueDue _⟩
    rw [State.step_tick hr hpending, State.pass_watches hw (Nat.lt_succ_self _), State.reach_quiet hquiet,
      State.advance_of_le hclock.ge]
  · refine ⟨(s.advance (s.clock + 1)).queueDue, ?_, ?_, State.queues_queueDue _⟩
    · rw [State.step_tick hr hpending, State.pass_quiet hq]
    · rw [State.advance_succ]
      exact State.queueDue_eq _
  · rw [State.missed_window hr] at hu
    injection hu with hu
    refine State.sameAt_of_pass hr (hu ▸ State.missWindow_linesKept s) ?_
    rw [State.pass_watches hw hm, ← hu, State.pass_not_watches (.inl (State.missWindow_watches s))]

end Sys2Proof.Machine

/-!
PROOFS. What the board shows: numbers and times as text, the rows, the clock row, and the tenths.
-/

namespace Sys2Proof.Machine

/-! ### Numbers as text -/

theorem digitChar_eq (n : Nat) : digitChar n = digit (n % 10) := BitVec.ofNat_add 48 (n % 10)

theorem digitChar_of_lt {n : Nat} (h : n < 10) : digitChar n = digit n := by
  rw [digitChar_eq, Nat.mod_eq_of_lt h]

theorem twoDigits_eq (n : Nat) : twoDigits n = [digit (n / 10 % 10), digit (n % 10)] := by
  unfold twoDigits
  rw [digitChar_eq, digitChar_eq]

theorem decimalDigits_last {fuel n : Nat} (h : n < 10) : decimalDigits (fuel + 1) n = [digit n] := by
  unfold decimalDigits
  rw [if_pos h, digitChar_of_lt h, List.nil_append]

theorem decimalDigits_more {fuel n : Nat} (h : 10 ≤ n) :
    decimalDigits (fuel + 1) n = decimalDigits fuel (n / 10) ++ [digit (n % 10)] := by
  rw [decimalDigits, if_neg (by omega), digitChar_eq]

/-- A decimal number of at most four figures. -/
theorem decimal_eq {n : Nat} (h : n < 10000) : decimal n = shownNumber n := by
  have e1 : n / 10 / 10 = n / 100 := Nat.div_div_eq_div_mul n 10 10
  have e2 : n / 100 / 10 = n / 1000 := Nat.div_div_eq_div_mul n 100 10
  unfold decimal shownNumber shortNumber
  by_cases h1 : n < 10
  · rw [decimalDigits_last h1, if_pos (by omega), if_pos h1]
  rw [decimalDigits_more (by omega)]
  by_cases h2 : n < 100
  · rw [decimalDigits_last (by omega), if_pos h2, if_neg h1]
    rfl
  rw [decimalDigits_more (by omega), if_neg h2, e1]
  by_cases h3 : n < 1000
  · rw [decimalDigits_last (by omega), if_pos h3]
    rfl
  rw [decimalDigits_more (by omega), e2, decimalDigits_last (by omega), if_neg h3]
  rfl

theorem decimal_short {n : Nat} (h : n < 100) : decimal n = shortNumber n := by
  rw [decimal_eq (by omega), shownNumber, if_pos h]

theorem minutesText_eq {n : Nat} (h : n < 6000) : minutesText n =
    shortNumber (n / 60) ++ [0x3A#8, digit (n % 60 / 10 % 10), digit (n % 60 % 10)] := by
  unfold minutesText
  rw [decimal_short (by omega), twoDigits_eq, List.append_assoc]
  rfl

/-- A time in hundredths, with minutes. -/
theorem clockHundredthsText_eq {n : Nat} (h : n < 600000) : clockHundredthsText n = shownHundredths n := by
  unfold clockHundredthsText shownHundredths
  rw [minutesText_eq (by omega), twoDigits_eq]
  have e1 : n / 100 / 60 = n / 6000 := Nat.div_div_eq_div_mul n 100 60
  have e2 : n / 100 % 60 / 10 % 10 = n / 1000 % 6 := by omega
  have e3 : n / 100 % 60 % 10 = n / 100 % 10 := by omega
  have e4 : n % 100 / 10 % 10 = n / 10 % 10 := by omega
  have e5 : n % 100 % 10 = n % 10 := by omega
  rw [e1, e2, e3, e4, e5]
  simp

/-- A time in tenths. -/
theorem clockTenthsText_eq {n : Nat} (h : n < 60000) : clockTenthsText n = shownTenths n := by
  unfold clockTenthsText shownTenths
  rw [minutesText_eq (by omega), digitChar_eq]
  have e1 : n / 10 / 60 = n / 600 := Nat.div_div_eq_div_mul n 10 60
  have e2 : n / 10 % 60 / 10 % 10 = n / 100 % 6 := by omega
  have e3 : n / 10 % 60 % 10 = n / 10 % 10 := by omega
  rw [e1, e2, e3]
  simp

/-- A lane's time: below 60 s without minutes. -/
theorem laneTimeText_eq {n : Nat} (h : n < 600000) : laneTimeText n = shownLaneTime n := by
  unfold laneTimeText shownLaneTime
  by_cases h1 : n < 6000
  · have e1 : n % 100 / 10 % 10 = n / 10 % 10 := by omega
    have e2 : n % 100 % 10 = n % 10 := by omega
    rw [if_pos h1, if_pos h1, decimal_short (by omega), twoDigits_eq, e1, e2, List.append_assoc]
    rfl
  · rw [if_neg h1, if_neg h1]
    exact clockHundredthsText_eq h

/-! ### The clock row -/

theorem State.rowOf_clock (s : State) : s.rowOf .clock = clockRow s.clockText := rfl

theorem State.raceTicks_eq {s : State} {start : Nat} (h : s.heat.startMark = some start) :
    s.raceTicks = s.masterTime - start := by
  unfold State.raceTicks State.raceTime raceTimeOf
  rw [h]
  simp

/-- The race time in tenths, as a RUNNING clock shows it. -/
theorem State.clockTenths_running {s : State} {start : Nat} (hmark : s.heat.startMark = some start)
    (h : s.masterTime < start + 60000000) :
    clockTenthsText (tenths s.raceTicks) = shownTenths ((s.masterTime - start) / 1000) := by
  rw [State.raceTicks_eq hmark]
  exact clockTenthsText_eq (by unfold tenths; omega)

theorem State.clockText_running {s : State} (h : s.heat.race = .running)
    (hshow : (∀ ends, s.board.hold ≠ .holding ends) ∨ s.leadHundredths = none) :
    s.clockText = clockTenthsText (tenths s.raceTicks) := by
  unfold State.clockText
  rw [h]
  dsimp only
  split
  · next ends n hhold hlead =>
    rcases hshow with hs | hs
    · exact absurd hhold (hs ends)
    · rw [hs] at hlead; cases hlead
  · rfl

theorem State.clockText_holding {s : State} {ends n : Nat} (h : s.heat.race = .running)
    (hhold : s.board.hold = .holding ends) (hlead : s.leadHundredths = some n) :
    s.clockText = clockHundredthsText n := by
  unfold State.clockText
  rw [h, hhold, hlead]

theorem State.clockText_ended {s : State} (h : s.heat.race = .judging ∨ s.heat.race = .official) :
    s.clockText = clockHundredthsText (s.leadHundredths.getD (s.board.frozen.getD 0)) := by
  unfold State.clockText
  rcases h with h | h <;> rw [h] <;> cases s.leadHundredths <;> rfl

theorem State.clockText_before {s : State}
    (h : s.heat.race = .idle ∨ s.heat.race = .loaded ∨ s.heat.race = .armed) :
    s.clockText = clockTenthsText 0 := by
  unfold State.clockText
  rcases h with h | h | h <;> rw [h]

/-- A row shows what its source gives when its route is enabled (R157). -/
theorem State.imageNow_getElem {s : State} {p : Profile} {row : RowIx} (h : s.store.inForce = some p) :
    s.imageNow[row] = if (p.routing[row]).2 then s.rowOf (p.routing[row]).1 else .blank := by
  unfold State.imageNow
  rw [h]
  simp

/-- The tenth that comes next is the first not before the present. -/
theorem State.tenthDeadline_eq {s : State} {m start k : Nat} (hrace : s.heat.race = .running)
    (hmark : s.heat.startMark = some start) (hk : k < 36000) (hc : s.clock ≤ start + 1000 * k)
    (hm : m ≤ start + 1000 * k) (hnext : start + 1000 * k < max m s.clock + 1000) :
    s.tenthDeadline m = some (start + 1000 * k) := by
  unfold State.tenthDeadline Config.raceLimit
  rw [hrace, hmark]
  dsimp only
  have hcount : (max m s.clock - start + 999) / 1000 = k := by omega
  rw [hcount, if_pos (by omega), Nat.mul_comm]

/-- Settles O8. -/
theorem tenthBoundaryMovesTheClock : Obligations.TenthBoundaryMovesTheClock := by
  refine ⟨fun s m start k hr hrace hmark hk hq hc hm hnext => ?_, fun s row => ⟨fun h => ?_, fun p hp => ?_⟩,
    fun s start lead hlead hlt => ⟨fun h => ?_, fun hrace hhold hmark htime => ?_⟩,
    fun s start ended horder hlt => ⟨fun hrace hfrozen => ?_, fun hrace hmark htime => ?_⟩, fun s h => ?_⟩
  · have hd := State.tenthDeadline_eq hrace hmark hk hc hm hnext
    have hd' : (s.advance (start + 1000 * k)).tenthDeadline m = some (start + 1000 * k) :=
      State.tenthDeadline_eq (s := s.advance (start + 1000 * k)) hrace hmark hk
        (by simp only [State.advance]; omega) hm (by simp only [State.advance]; omega)
    have ht := State.ifDue_does (c := .tenthBoundary m) id hr rfl hd hq hd'
    have l := State.settle_leaves (s.advance (start + 1000 * k))
    have he := l.eq
    have hclock : s.advance (start + 1000 * k) = { s with clock := start + 1000 * k } := by
      unfold State.advance
      rw [Nat.max_eq_right hc]
    refine ⟨_, ht, ?_, l.board, l.link, State.settle_image _⟩
    rw [hclock]
    rw [hclock] at he
    exact he
  · unfold State.imageNow
    rw [h]
    simp
  · rw [State.imageNow_getElem hp]
    exact ⟨fun h => by rw [h]; rfl, fun h => if_pos h⟩
  · have hl : s.leadHundredths = some lead.2 := by
      unfold State.leadHundredths
      rw [Option.mem_def.mp hlead]
      rfl
    rw [State.rowOf_clock, ← clockHundredthsText_eq hlt]
    rcases h with h | h | ⟨h, ends, hhold⟩
    · rw [State.clockText_ended (.inl h), hl]
      rfl
    · rw [State.clockText_ended (.inr h), hl]
      rfl
    · rw [State.clockText_holding h hhold hl]
  · rw [State.rowOf_clock, State.clockText_running hrace (.inl hhold), State.clockTenths_running hmark htime]
  · have hl : s.leadHundredths = none := by
      unfold State.leadHundredths
      rw [horder]
      rfl
    rw [State.rowOf_clock, State.clockText_ended hrace, hl, hfrozen, ← clockHundredthsText_eq hlt]
    rfl
  · have hl : s.leadHundredths = none := by
      unfold State.leadHundredths
      rw [horder]
      rfl
    rw [State.rowOf_clock, State.clockText_running hrace (.inr hl), State.clockTenths_running hmark htime]
  · rw [State.rowOf_clock, State.clockText_before h, clockTenthsText_eq (by omega)]

/-! ### The rows of lanes -/

theorem shortNumber_length {n : Nat} (h : 10 ≤ n) : (shortNumber n).length = 2 := by
  rw [shortNumber, if_neg (by omega)]
  rfl

theorem padLeft_short {n : Nat} (h : n < 100) : padLeft 2 (decimal n) =
    if n < 10 then [0x20#8, digit n] else shortNumber n := by
  unfold padLeft
  rw [decimal_short h]
  by_cases h1 : n < 10
  · rw [if_pos h1, shortNumber, if_pos h1]
    rfl
  · rw [if_neg h1, shortNumber_length (by omega)]
    rfl

theorem laneRowWith_eq {lane : Lane} {place : Option Nat} (marker time label : Text)
    (h : (place.all fun n => decide (n ≤ 10)) = true) :
    laneRowWith lane (placeText place) marker time label = shownLane lane place marker time label := by
  unfold laneRowWith shownLane
  rw [digitChar_of_lt lane.isLt]
  cases place with
  | none => rfl
  | some n =>
    rw [placeText, padLeft_short (by simp at h; omega)]
    rfl

theorem laneRowWith_none (lane : Lane) (marker time label : Text) :
    laneRowWith lane (placeText none) marker time label = shownLane lane none marker time label :=
  laneRowWith_eq _ _ _ rfl

theorem ReviewReasons.any_eq_false {r : ReviewReasons} :
    r.any = false ↔ r = ⟨false, false, false, false, false, false⟩ := by
  obtain ⟨a, b, c, d, e, f⟩ := r
  simp [ReviewReasons.any, and_assoc]

theorem finishedMarker_eq (race : RaceState) (r : LaneRecord) :
    finishedMarker race r = shownMarker race r := by
  unfold finishedMarker shownMarker
  by_cases h : r.reasons = ⟨false, false, false, false, false, false⟩
  · rw [ReviewReasons.any_eq_false.mpr h, if_pos h]
    rfl
  · rw [Bool.of_not_eq_false (mt ReviewReasons.any_eq_false.mp h), if_neg h]
    rfl

theorem State.rowOf_lane (lane : Lane) (s : State) :
    s.rowOf (.lane lane) = laneRow s.heat.race s.heat.current lane s.lanes[lane] := rfl

/-- The row of an entered lane that has no DQ. -/
theorem laneRow_entered {race : RaceState} {h : HeatRecord} {lane : Lane} {r : LaneRecord}
    (he : h.enters lane = true)
    (hdq : r.disqualified = false ∨ (r.status ≠ .finished ∧ r.status ≠ .closed)) :
    laneRow race (some h) lane r =
      match r.status with
      | .closed => laneRowWith lane (placeText none) markerNT [] r.label
      | .finished =>
        laneRowWith lane (placeText r.place) (finishedMarker race r)
          ((r.finalTime.map fun t => laneTimeText (hundredths t)).getD []) r.label
      | .racing =>
        match latestSplit r with
        | some x =>
          laneRowWith lane (placeText none) (lengthMarker x.number)
            (laneTimeText (hundredths (splitTicks x))) r.label
        | none => laneRowWith lane (placeText none) markerNone [] r.label
      | _ => laneRowWith lane (placeText none) markerNone [] r.label := by
  unfold laneRow
  dsimp only
  have hno : ¬(r.disqualified = true ∧ (r.status = .finished ∨ r.status = .closed)) := by
    rintro ⟨h1, h2⟩
    rcases hdq with h | ⟨h3, h4⟩
    · simp [h] at h1
    · exact h2.elim h3 h4
  exact (if_neg (by simp [he])).trans (if_neg hno)

theorem latestSplit_eq {r : LaneRecord} {before after : List LengthRecord} {x : LengthRecord}
    (hl : r.lengths = before ++ x :: after)
    (hafter : ∀ y ∈ after, y.outcome ≠ .touched ∧ y.outcome ≠ .timed)
    (hx : x.outcome = .touched ∨ x.outcome = .timed) : latestSplit r = some x := by
  unfold latestSplit
  rw [hl, List.reverse_append, List.reverse_cons, List.append_assoc, List.find?_append,
    List.find?_eq_none.mpr, Option.none_or]
  · exact List.find?_cons_of_pos (by rcases hx with h | h <;> simp [h])
  · intro y hy
    obtain ⟨h1, h2⟩ := hafter y (List.mem_reverse.mp hy)
    simp [h1, h2]

theorem latestSplit_none {r : LaneRecord}
    (h : ∀ y ∈ r.lengths, y.outcome ≠ .touched ∧ y.outcome ≠ .timed) : latestSplit r = none := by
  unfold latestSplit
  rw [List.find?_eq_none]
  intro y hy
  obtain ⟨h1, h2⟩ := h y (List.mem_reverse.mp hy)
  simp [h1, h2]

theorem lengthMarker_eq {n : Nat} (h : n < 100) : lengthMarker n =
    if n < 10 then [0x4C#8, 0x20#8, digit n] else 0x4C#8 :: shortNumber n := by
  unfold lengthMarker
  rw [padLeft_short h]
  split <;> rfl

/-! ### The ORDER rows -/

theorem State.runningOrder_eq {s : State} {h : HeatRecord} (hcur : s.heat.current = some h) :
    s.runningOrder = s.shownOrder h := by
  have hplaced : ∀ lane : Lane, (s.placing.order.map (·.1)).contains lane =
      s.placing.order.any (·.1 == lane) := by
    intro lane
    rw [Bool.eq_iff_iff]
    simp
  unfold State.runningOrder State.shownOrder
  rw [hcur]
  dsimp only
  cases s.heat.race with
  | idle => rfl
  | loaded => rfl
  | armed => rfl
  | running => rfl
  | judging => simp only [hplaced, List.filter_filter, Bool.and_comm]
  | official => simp only [hplaced, List.filter_filter, Bool.and_comm]

theorem State.rowOf_order_of_some {s : State} {h : HeatRecord} {k : Fin 10} {lane : Lane}
    (hcur : s.heat.current = some h) (hk : (s.shownOrder h)[k.val]? = some lane) :
    s.rowOf (.order k) = s.rowOf (.lane lane) := by
  show (match s.runningOrder[k.val]? with
    | none => Row.blank
    | some lane => laneRow s.heat.race s.heat.current lane s.lanes[lane]) = _
  rw [State.runningOrder_eq hcur, hk]
  rfl

theorem State.rowOf_order_of_none {s : State} {k : Fin 10} (hk : s.runningOrder[k.val]? = none) :
    s.rowOf (.order k) = .blank := by
  show (match s.runningOrder[k.val]? with
    | none => Row.blank
    | some lane => laneRow s.heat.race s.heat.current lane s.lanes[lane]) = _
  rw [hk]

/-! ### Row frames -/

/-- The bytes of a row frame: four and the row's own (R185). -/
theorem rowFrame_length (f : BoardFrame) : (rowFrame f).length = 5 + f.content.place.length +
    f.content.marker.length + f.content.time.length + f.content.text.length := by
  unfold rowFrame
  simp only [List.length_cons, List.length_append, List.length_nil]
  omega

end Sys2Proof.Machine

/-!
PROOFS. The board line's events: the slot, the end of a frame, the periodic pass, and the rows they send.
-/

namespace Sys2Proof.Machine

/-! ### The board's own step -/

theorem joinChanged_eq (before : Vector Row 12) (b : Board) :
    ∃ rows, joinChanged before b = { b with pendingRows := rows } := by
  unfold joinChanged
  split
  · exact ⟨_, rfl⟩
  · exact ⟨b.pendingRows, rfl⟩

theorem joinChanged_other {before : Vector Row 12} {b : Board} (h : b.mode ≠ some .onChange) :
    joinChanged before b = b := if_neg h

theorem joinChanged_pending {before : Vector Row 12} {b : Board} (h : b.mode = some .onChange) (row : RowIx) :
    (joinChanged before b).pendingRows[row] =
      (b.pendingRows[row] || decide (before[row] ≠ b.image[row])) := by
  rw [joinChanged, if_pos h]
  simp

/-- With a row owed and the line free that row's frame begins: a test frame while the test is on. -/
theorem boardAfter_owed {clock : Nat} {image : Vector Row 12} {b : Board} {row : RowIx}
    (hl : b.line = none) (ho : b.owed = some row) (hp : b.passDue = false) :
    boardAfter clock true image b =
      { b with
        image := image, passDue := false, owed := none
        pendingRows := (boardAfter clock true image b).pendingRows
        line := some ⟨row, if b.test then testRow else image[row], clock⟩ } := by
  cases ht : b.test with
  | true =>
    rw [boardAfter_test ht, feedLine_owed (b := { b with image := image, passDue := false }) hl ho, beginFrame]
    dsimp only
    rw [ht]
  | false =>
    obtain ⟨rows, hj⟩ := joinChanged_eq b.image { b with image := image, passDue := false }
    rw [boardAfter_changes ht hp, hj, feedLine_owed (row := row)
      (b := { b with image := image, passDue := false, pendingRows := rows }) hl ho, beginFrame]
    dsimp only
    rw [ht]

/-- A row owed waits for a line that is taken. -/
theorem boardAfter_taken {clock : Nat} {image : Vector Row 12} {b : Board} {f : BoardFrame}
    (hl : b.line = some f) (hp : b.passDue = false) :
    boardAfter clock true image b =
      { b with
        image := image, passDue := false
        pendingRows := (boardAfter clock true image b).pendingRows } := by
  have hsome : b.line.isSome = true := by rw [hl]; rfl
  by_cases ht : b.test = true
  · rw [boardAfter_test ht, feedLine_taken (b := { b with image := image, passDue := false }) hsome]
  · obtain ⟨rows, hj⟩ := joinChanged_eq b.image { b with image := image, passDue := false }
    rw [boardAfter_changes (Bool.of_not_eq_true ht) hp, hj,
      feedLine_taken (b := { b with image := image, passDue := false, pendingRows := rows }) hsome]

/-- In ON_CHANGE a free line begins the lowest row that is pending or has changed (R167). -/
theorem boardAfter_lowest {clock : Nat} {image : Vector Row 12} {b : Board} (hl : b.line = none)
    (ho : b.owed = none) (hm : b.mode = some .onChange) (ht : b.test = false) (hp : b.passDue = false) :
    (∀ row : RowIx, (b.pendingRows[row] = true ∨ b.image[row] ≠ image[row]) →
      (∀ q : RowIx, q < row → b.pendingRows[q] = false ∧ b.image[q] = image[q]) →
      (boardAfter clock true image b).line = some ⟨row, image[row], clock⟩ ∧
        (boardAfter clock true image b).pendingRows[row] = false) ∧
      ((∀ row : RowIx, b.pendingRows[row] = false ∧ b.image[row] = image[row]) →
        (boardAfter clock true image b).line = none) := by
  have hpending := joinChanged_pending (before := b.image) (b := { b with image := image, passDue := false }) hm
  obtain ⟨rows, hj⟩ := joinChanged_eq b.image { b with image := image, passDue := false }
  rw [hj] at hpending
  rw [boardAfter_changes ht hp, hj]
  refine ⟨fun row hrow hlow => ?_, fun hnone => ?_⟩
  · rw [feedLine_pending (row := row) (b := { b with image := image, passDue := false, pendingRows := rows })
      hl ho (lowestPending_eq_some (by rw [hpending]; simpa using hrow) fun q hq => by
        rw [hpending]; simpa using hlow q hq), beginFrame]
    dsimp only
    rw [ht]
    exact ⟨rfl, set_getElem_self _ _ _⟩
  · rw [feedLine_idle (b := { b with image := image, passDue := false, pendingRows := rows }) ho
      (lowestPending_eq_none.mpr fun row => by rw [hpending]; simpa using hnone row)]
    exact hl

/-- With nothing to send a free line stays idle. -/
theorem boardAfter_idle {clock : Nat} {configured : Bool} {image : Vector Row 12} {b : Board}
    (hl : b.line = none) (ho : b.owed = none) (hrows : ∀ row : RowIx, b.pendingRows[row] = false)
    (hcase : configured = false ∨ b.test = true ∨ (b.mode = some .continuous ∧ b.passDue = false)) :
    (boardAfter clock configured image b).line = none := by
  have hidle : feedLine clock { b with image := image, passDue := false } =
      { b with image := image, passDue := false } := feedLine_idle ho (lowestPending_eq_none.mpr hrows)
  cases configured with
  | false => exact hl
  | true =>
    by_cases ht : b.test = true
    · rw [boardAfter_test ht, hidle]
      exact hl
    · obtain ⟨hm, hp⟩ := (hcase.resolve_left (by simp)).resolve_left ht
      rw [boardAfter_changes (Bool.of_not_eq_true ht) hp,
        joinChanged_other (b := { b with image := image, passDue := false }) (by simp [hm]), hidle]
      exact hl

theorem nextRow_val (row : RowIx) : (nextRow row).val = (row.val + 1) % 12 := rfl

/-! ### The slot -/

/-- A slot's row is owed to the line, and the cursor moves on (R166). -/
theorem State.slotComes_eq {s : State} {n : Nat} (h : s.board.nextSlot = some n) :
    s.slotComes = { s with board :=
      { s.board with
        owed := some s.board.cursor, cursor := nextRow s.board.cursor, nextSlot := some (n + 250) } } := by
  unfold State.slotComes
  rw [h]
  rfl

theorem State.slotDeadline_eq {s : State} {n : Nat} (hc : s.configured = true)
    (hm : s.board.mode = some .continuous ∨ s.board.test = true) (hn : s.board.nextSlot = some n) :
    s.slotDeadline = some n := by
  rw [State.slotDeadline, if_pos ⟨hc, hm⟩, hn]

/-- The board with a slot's row owed. -/
def Board.slotted (n : Nat) (b : Board) : Board :=
  { b with owed := some b.cursor, cursor := nextRow b.cursor, nextSlot := some (n + 250) }

/-- What a slot leaves. -/
theorem State.boardSlot_does {s : State} {n : Nat} (hr : s.isRunning = true) (hc : s.configured = true)
    (hm : s.board.mode = some .continuous ∨ s.board.test = true) (hn : s.board.nextSlot = some n)
    (hq : s.quietUntil n = true) : ∃ t, exec .boardSlot s = .next t ∧
      t.board = boardAfter t.clock true t.imageNow (s.board.slotted n) ∧
      t = { s with clock := max s.clock n, board := t.board, link := t.link } ∧
      s.boardKept t ∧ s.linkKept t := by
  have hd := State.slotDeadline_eq hc hm hn
  have ht := State.ifDue_does (c := .boardSlot) State.slotComes hr rfl hd hq hd
  rw [State.slotComes_eq (s := s.advance n) hn] at ht
  have l := State.settle_leaves { s.advance n with board := s.board.slotted n }
  have hb := State.settle_board { s.advance n with board := s.board.slotted n }
  rw [← State.settle_imageNow, ← l.clock,
    show State.configured { s.advance n with board := s.board.slotted n } = true from hc] at hb
  exact ⟨_, ht, hb, l.eq, l.board, l.link⟩

/-- The rows' part of O29: what the row of a lane holds. -/
theorem State.laneRows (s : State) (h : HeatRecord) (lane : Lane) (hcur : s.heat.current = some h)
    (he : h.enters lane = true) (hdq : (s.lanes[lane]).disqualified = false) :
    ((s.lanes[lane]).status = .closed →
      s.rowOf (.lane lane) =
        shownLane lane none [0x4E#8, 0x54#8, 0x20#8] [] (s.lanes[lane]).label) ∧
    (∀ official, (s.lanes[lane]).status = .finished → (s.lanes[lane]).finalTime = some official →
      official < 36000000 → ((s.lanes[lane]).place.all fun n => decide (n ≤ 10)) = true →
      s.rowOf (.lane lane) =
        shownLane lane (s.lanes[lane]).place (shownMarker s.heat.race s.lanes[lane])
          (shownLaneTime (official / 100)) (s.lanes[lane]).label) := by
  have hrow := laneRow_entered (race := s.heat.race) (r := s.lanes[lane]) he (.inl hdq)
  rw [State.rowOf_lane, hcur, hrow]
  refine ⟨fun hstatus => ?_, fun official hstatus hfinal hlt hplace => ?_⟩
  · rw [hstatus]
    exact laneRowWith_none ..
  · rw [hstatus, hfinal]
    dsimp only [Option.map_some, Option.getD_some]
    rw [laneTimeText_eq (by unfold hundredths; omega), finishedMarker_eq]
    exact laneRowWith_eq _ _ _ hplace

/-- The row of a lane with a timed length. -/
theorem State.laneRow_split {s : State} {h : HeatRecord} {lane : Lane} {x : LengthRecord} {time : Nat}
    (hcur : s.heat.current = some h) (he : h.enters lane = true)
    (hstatus : (s.lanes[lane]).status = .racing) (hx : latestSplit s.lanes[lane] = some x)
    (hn : x.number < 100) (ht : splitTicks x = time) (htime : time < 36000000) :
    s.rowOf (.lane lane) = shownLane lane none
      (if x.number < 10 then [0x4C#8, 0x20#8, digit x.number] else 0x4C#8 :: shortNumber x.number)
      (shownLaneTime (time / 100)) (s.lanes[lane]).label := by
  rw [State.rowOf_lane, hcur, laneRow_entered he (.inr (by rw [hstatus]; decide)), hstatus]
  dsimp only
  rw [hx]
  dsimp only
  rw [ht, lengthMarker_eq hn, laneTimeText_eq (by unfold hundredths; omega)]
  exact laneRowWith_none ..

/-- The row of a lane without a timed length. -/
theorem State.laneRow_plain {s : State} {h : HeatRecord} {lane : Lane}
    (hcur : s.heat.current = some h) (he : h.enters lane = true)
    (hstatus : (s.lanes[lane]).status = .idle ∨ (s.lanes[lane]).status = .entered ∨
      ((s.lanes[lane]).status = .racing ∧ latestSplit s.lanes[lane] = none)) :
    s.rowOf (.lane lane) = shownLane lane none (blanks 3) [] (s.lanes[lane]).label := by
  rw [State.rowOf_lane, hcur, laneRow_entered he
    (.inr (by rcases hstatus with h | h | ⟨h, -⟩ <;> rw [h] <;> decide))]
  rcases hstatus with h | h | ⟨h, hx⟩
  · rw [h]
    exact laneRowWith_none ..
  · rw [h]
    exact laneRowWith_none ..
  · rw [h]
    dsimp only
    rw [hx]
    exact laneRowWith_none ..

/-- While the part is not configured a board event has no place. -/
theorem State.ifDue_none {deadline : State → Option Nat} (f : State → State) {s : State}
    (h : deadline s = none) : s.ifDue deadline f = s := by
  unfold State.ifDue State.atDeadline
  rw [h]

theorem State.whenRunning_same {f : State → State} {s : State} (h : f s = s) : s.whenRunning f = s := by
  unfold State.whenRunning
  rw [h, ite_self]

/-- Settles O29. -/
theorem slotSendsTheCursorRow : Obligations.SlotSendsTheCursorRow := by
  refine ⟨fun s n hr hc hm htest hn hq hline hp => ?_, fun s lane hno => ?_,
    fun s h lane hcur he hdq hstatus => ?_, fun s h lane hcur he hdq => State.laneRows s h lane hcur he hdq,
    fun s h lane before after x hcur he hstatus hl hafter hn time htime hx => ?_,
    fun s h lane hcur he hstatus => ?_, fun s f n hr hc hm htest hn hq hline hp => ?_,
    fun s n hr hc htest hn hq => ?_, fun s hc => ?_⟩
  · obtain ⟨t, ht, hb, he, hbk, hk⟩ := State.boardSlot_does hr hc (.inl hm) hn hq
    rw [boardAfter_owed (row := s.board.cursor) (b := s.board.slotted n) hline rfl hp,
      show (s.board.slotted n).test = false from htest] at hb
    exact ⟨t, ht, he, by rw [hb]; rfl, by rw [hb]; rfl, by rw [hb]; rfl, hbk, hk⟩
  · have : laneRow s.heat.race s.heat.current lane s.lanes[lane] =
        laneRowWith lane (placeText none) markerNone [] [] := by
      unfold laneRow
      cases hcur : s.heat.current with
      | none => rfl
      | some h =>
        rw [hcur] at hno
        exact if_pos (by simpa using hno)
    exact this.trans (laneRowWith_none ..)
  · rw [State.rowOf_lane, hcur]
    unfold laneRow
    dsimp only
    rw [if_neg (by simp [he]), if_pos ⟨hdq, hstatus⟩]
    exact laneRowWith_none ..
  · have hsplit := latestSplit_eq hl hafter (hx.imp And.left And.left)
    refine State.laneRow_split hcur he hstatus hsplit hn ?_ htime
    unfold splitTicks
    rcases hx with ⟨ho, ht⟩ | ⟨ho, ht⟩ <;> rw [ho, ht] <;> rfl
  · exact State.laneRow_plain hcur he (hstatus.imp_right (Or.imp_right (And.imp_right latestSplit_none)))
  · obtain ⟨t, ht, hb, he, hbk, hk⟩ := State.boardSlot_does hr hc (.inl hm) hn hq
    rw [boardAfter_taken (b := s.board.slotted n) (f := f) hline hp] at hb
    exact ⟨t, ht, he, by rw [hb]; exact hline, by rw [hb]; rfl, by rw [hb]; rfl, by rw [hb]; rfl, hbk, hk⟩
  · obtain ⟨t, ht, hb, he, hbk, hk⟩ := State.boardSlot_does hr hc (.inr htest) hn hq
    rw [boardAfter_test (b := s.board.slotted n) htest] at hb
    refine ⟨t, ht, he, ?_⟩
    cases hline : s.board.line with
    | none =>
      rw [feedLine_owed (row := s.board.cursor)
        (b := { s.board.slotted n with image := t.imageNow, passDue := false }) hline rfl, beginFrame] at hb
      dsimp only at hb
      rw [show (s.board.slotted n).test = true from htest] at hb
      exact ⟨fun _ => ⟨by rw [hb]; rfl, by rw [hb]⟩, nofun, by rw [hb]; rfl, by rw [hb]; rfl, by rw [hb]; rfl,
        by rw [hb]; rfl, hbk, hk⟩
    | some f =>
      rw [feedLine_taken (b := { s.board.slotted n with image := t.imageNow, passDue := false })
        (by show s.board.line.isSome = true; rw [hline]; rfl)] at hb
      exact ⟨nofun, fun g hg => ⟨by rw [hb]; exact hline.trans hg, by rw [hb]; rfl⟩, by rw [hb]; rfl,
        by rw [hb]; rfl, by rw [hb]; rfl, by rw [hb]; rfl, hbk, hk⟩
  · exact congrArg Host.Outcome.next (State.whenRunning_same
      (State.ifDue_none _ (if_neg (by simp [hc]))))

/-! ### The end of a frame -/

/-- What the end of a board frame leaves, before the board's own step. -/
theorem State.boardFrameEnd_does {s : State} {f : BoardFrame} {m : Nat} (hr : s.isRunning = true)
    (hl : s.board.line = some f)
    (hq : s.quietUntil (max m (f.began + boardTicks (rowFrame f).length)) = true) :
    ∃ t, exec (.boardFrameEnd m) s = .next t ∧
      t.board = boardAfter t.clock s.configured t.imageNow { s.board with line := none } ∧
      t = { s with clock := t.clock, board := t.board, link := t.link } ∧
      t.clock = max s.clock (max m (f.began + boardTicks (rowFrame f).length)) ∧
      s.boardKept t ∧ s.linkKept t := by
  have hd : (fun s : State => s.boardDeadline.map (max m)) s =
      some (max m (f.began + boardTicks (rowFrame f).length)) := by
    unfold State.boardDeadline
    dsimp only
    rw [hl]
    rfl
  have ht := State.ifDue_does (c := .boardFrameEnd m) State.boardLineFree hr rfl hd hq hd
  have l := State.settle_leaves
    (s.advance (max m (f.began + boardTicks (rowFrame f).length))).boardLineFree
  have hb := (s.advance (max m (f.began + boardTicks (rowFrame f).length))).boardLineFree.settle_board
  rw [← State.settle_imageNow, ← l.clock] at hb
  refine ⟨_, ht, hb, ?_, l.clock, l.board, l.link⟩
  rw [l.clock]
  exact l.eq

/-- Settles O30. -/
theorem frameEndSendsTheLowestRow : Obligations.FrameEndSendsTheLowestRow := by
  refine ⟨fun s f m hr hc hm htest ho hp hl hq => ?_, fun s f row m hr hc ho hp hl hq => ?_,
    fun s f m hr ho hrows hcase hl hq => ?_, fun f h1 h2 h3 => ⟨fun h => ?_, fun h => ?_⟩⟩
  · obtain ⟨t, ht, hb, he, hclock, hbk, hk⟩ := State.boardFrameEnd_does hr hl hq
    rw [hc] at hb
    have h := boardAfter_lowest (clock := t.clock) (image := t.imageNow) (b := { s.board with line := none })
      rfl ho hm htest hp
    rw [← hb] at h
    exact ⟨t, ht, he, hclock, hbk, hk, h.1, h.2⟩
  · obtain ⟨t, ht, hb, he, hclock, hbk, hk⟩ := State.boardFrameEnd_does hr hl hq
    rw [hc, boardAfter_owed (b := { s.board with line := none }) rfl ho hp] at hb
    exact ⟨t, ht, he, hclock, by rw [hb], by rw [hb], by rw [hb], by rw [hb], hbk, hk⟩
  · obtain ⟨t, ht, hb, he, hclock, hbk, hk⟩ := State.boardFrameEnd_does hr hl hq
    refine ⟨t, ht, he, hclock, ?_, hbk, hk⟩
    rw [hb]
    exact boardAfter_idle rfl ho hrows hcase
  · have hlen : (rowFrame f).length = 34 := by rw [rowFrame_length, h1, h2, h3, h]
    exact ⟨hlen, by rw [hlen]; rfl⟩
  · have hlen : (rowFrame f).length = 50 := by rw [rowFrame_length, h1, h2, h3, h]
    exact ⟨hlen, by rw [hlen]; rfl⟩

/-! ### The periodic pass -/

/-- Settles O31. -/
theorem periodicPassSendsEveryRow : Obligations.PeriodicPassSendsEveryRow := by
  refine ⟨fun s n hr hc hm htest ho hn hq => ?_, fun s text htext => ?_, fun s h k hcur => ⟨fun lane hk => ?_,
    fun hk => ?_⟩, fun s k hcur => ?_, fun h => ⟨fun hb => if_neg hb, fun hb hlen => ?_⟩, fun s hc => ?_⟩
  · have hd : s.passDeadline = some n := by rw [State.passDeadline, if_pos ⟨hc, hm, htest⟩, hn]
    have ht := State.ifDue_does (c := .boardPeriodicPass) State.askPass hr rfl hd hq hd
    have l := State.settle_leaves (s.advance n).askPass
    obtain ⟨hline, hon, -⟩ := State.passMade_settle (v := (s.advance n).askPass) hc htest rfl (fun _ => ho)
      (by show s.board.mode.isSome = true; rw [hm]; rfl)
    obtain ⟨h1, h2, h3⟩ := hon (l.board.1.trans hm)
    refine ⟨_, ht, l.eq, h1, h2, fun hnone => ⟨?_, ?_⟩, fun f hf => ⟨?_, ?_⟩, l.board, l.link⟩
    · rw [hline, show (s.advance n).askPass.board.line = none from hnone]
      rfl
    · rw [h3, show (s.advance n).askPass.board.line = none from hnone]
      rfl
    · rw [hline, show (s.advance n).askPass.board.line = some f from hf]
      rfl
    · rw [h3, show (s.advance n).askPass.board.line = some f from hf]
      rfl
  · have hbanner : s.bannerText = text := by
      rw [htext]
      unfold State.bannerText
      cases s.board.override <;> rfl
    rw [← hbanner]
    rfl
  · exact State.rowOf_order_of_some hcur hk
  · exact State.rowOf_order_of_none (by rw [State.runningOrder_eq hcur]; exact List.getElem?_eq_none hk)
  · refine State.rowOf_order_of_none ?_
    unfold State.runningOrder
    rw [hcur]
    rfl
  · have hmetres : courseMetres h.course = metres h.course := by cases h.course <;> rfl
    have hle : metres h.course ≤ 50 := by cases h.course <;> decide
    rw [effectiveBanner, if_pos hb, hmetres, decimal_eq]
    calc h.lengths * metres h.course ≤ 60 * 50 := Nat.mul_le_mul hlen hle
      _ < 10000 := by decide
  · exact congrArg Host.Outcome.next (State.whenRunning_same
      (State.ifDue_none _ (if_neg (by simp [hc]))))

end Sys2Proof.Machine

/-!
PROOFS. Leveling, the scanner's readings and self-test, the probe, and the completion of a store write.
-/

namespace Sys2Proof.Machine

/-! ### Leveling -/

/-- The profile with results taken over differs in the latencies and the dead pads only (R70). -/
theorem leveledProfile_frame (results : List (PadIx × LevelResult)) (p : Profile) :
    leveledProfile p results =
      { p with
        latencies := (leveledProfile p results).latencies, dead := (leveledProfile p results).dead } := by
  unfold leveledProfile
  induction results generalizing p with
  | nil => rfl
  | cons r rest ih =>
    rw [List.foldl_cons, ih]
    cases r.2 <;> rfl

theorem leveledProfile_cons (r : PadIx × LevelResult) (rest : List (PadIx × LevelResult)) (p : Profile) :
    leveledProfile p (r :: rest) = leveledProfile (leveledProfile p [r]) rest := rfl

theorem leveledProfile_one_other {p : Profile} {q pad : PadIx} (r : LevelResult) (h : pad ≠ q) :
    (leveledProfile p [(q, r)]).latencies[pad] = p.latencies[pad] ∧
      (leveledProfile p [(q, r)]).dead[pad] = p.dead[pad] := by
  cases r with
  | latency v => exact ⟨set_getElem_ne h, set_getElem_ne h⟩
  | dead => exact ⟨rfl, set_getElem_ne h⟩
  | busyPad => exact ⟨rfl, rfl⟩

/-- A pad whose results are all BUSY_PAD keeps its entries. -/
theorem leveledProfile_busy {results : List (PadIx × LevelResult)} {p : Profile} {pad : PadIx}
    (h : ∀ x ∈ results, x.1 = pad → x.2 = .busyPad) :
    (leveledProfile p results).latencies[pad] = p.latencies[pad] ∧
      (leveledProfile p results).dead[pad] = p.dead[pad] := by
  induction results generalizing p with
  | nil => exact ⟨rfl, rfl⟩
  | cons x rest ih =>
    obtain ⟨q, r⟩ := x
    obtain ⟨h1, h2⟩ := ih (p := leveledProfile p [(q, r)]) fun x hx => h x (List.mem_cons_of_mem _ hx)
    rw [leveledProfile_cons, h1, h2]
    by_cases hq : pad = q
    · have hr : r = .busyPad := h _ List.mem_cons_self hq.symm
      rw [hr]
      exact ⟨rfl, rfl⟩
    · exact leveledProfile_one_other r hq

/-- The one result of a pad is what the profile takes over. -/
theorem leveledProfile_result {results : List (PadIx × LevelResult)} {p : Profile} {pad : PadIx}
    {r : LevelResult} (hnd : (results.map (·.1)).Nodup) (h : (pad, r) ∈ results) :
    ∃ q : Profile, (q.latencies[pad] = p.latencies[pad]) ∧
      (leveledProfile p results).latencies[pad] = (leveledProfile q [(pad, r)]).latencies[pad] ∧
      (leveledProfile p results).dead[pad] = (leveledProfile q [(pad, r)]).dead[pad] := by
  induction results generalizing p with
  | nil => cases h
  | cons x rest ih =>
    rw [List.map_cons, List.nodup_cons] at hnd
    obtain ⟨hout, hnd⟩ := hnd
    rcases List.mem_cons.mp h with rfl | h
    · refine ⟨p, rfl, leveledProfile_busy (results := rest) fun y hy hpad => ?_⟩
      exact absurd (List.mem_map.mpr ⟨y, hy, hpad⟩) hout
    · have hne : pad ≠ x.1 := fun he => hout (List.mem_map.mpr ⟨_, h, he⟩)
      obtain ⟨q, h1, h2⟩ := ih (p := leveledProfile p [x]) hnd h
      exact ⟨q, h1.trans (leveledProfile_one_other x.2 hne).1, h2⟩

/-- The write that follows a leveling takes its results over (R70). -/
theorem State.writesLeveled {t : State} {p : Profile} {results : List (PadIx × LevelResult)}
    (h : t.store.write = some ⟨leveledProfile p results, t.clock + 400, true⟩)
    (hnd : (results.map (·.1)).Nodup) : t.WritesLeveled p results := by
  refine ⟨_, h, rfl, rfl, leveledProfile_frame .., fun pad => ⟨fun v hv => ?_, fun hd => ?_, fun hb => ?_⟩⟩
  · obtain ⟨q, -, h1, h2⟩ := leveledProfile_result (p := p) hnd hv
    rw [h1, h2]
    exact ⟨set_getElem_self _ _ _, set_getElem_self _ _ _⟩
  · obtain ⟨q, hq, h1, h2⟩ := leveledProfile_result (p := p) hnd hd
    rw [h1, h2]
    exact ⟨hq, set_getElem_self _ _ _⟩
  · exact leveledProfile_busy hb

/-- The result of the last pad begins the store write. -/
theorem State.levelResult_last {s : State} {p : Profile} {pad : PadIx} {r : LevelResult}
    (hforce : s.store.inForce = some p) : s.levelResult pad r [] =
      { s with
        wall := { s.wall with results := s.wall.results ++ [(pad, r)], level := .writing }
        store := { s.store with
          stored := none
          write := some ⟨leveledProfile p (s.wall.results ++ [(pad, r)]), s.clock + 400, true⟩ } } := by
  unfold State.levelResult State.nextTurn
  dsimp only
  split
  · next h => rw [hforce] at h; cases h
  · next q h =>
    rw [hforce] at h
    cases h
    rfl

theorem State.levelWaitEnds_eq {s : State} {pad : PadIx} {began : Nat} {rest : List PadIx}
    (h : s.wall.level = .measuring pad (.waiting began) rest) :
    s.levelWaitEnds = s.levelResult pad .busyPad rest := by
  unfold State.levelWaitEnds; rw [h]

/-- The result of a drive: the answer's latency, or a dead pad (R69). -/
def driveResult : Option Nat → LevelResult
  | some v => .latency v
  | none => .dead

theorem State.levelDriveEnds_eq {s : State} {pad : PadIx} {start : Nat} {answer : Option Nat}
    {rest : List PadIx} (h : s.wall.level = .measuring pad (.driving start answer) rest) :
    s.levelDriveEnds = s.levelResult pad (driveResult answer) rest := by
  unfold State.levelDriveEnds
  rw [h]
  cases answer <;> rfl

theorem State.levelWait_does {s : State} {pad : PadIx} {began : Nat} {rest : List PadIx}
    (hr : s.isRunning = true) (h : s.wall.level = .measuring pad (.waiting began) rest)
    (hq : s.quietUntil (began + 5000) = true) :
    exec .levelWaitExpiry s = .next ((s.advance (began + 5000)).levelResult pad .busyPad rest).settle := by
  have hd : s.levelWaitDeadline = some (began + 5000) := by unfold State.levelWaitDeadline; rw [h]; rfl
  rw [State.ifDue_does (c := .levelWaitExpiry) State.levelWaitEnds hr rfl hd hq hd,
    State.levelWaitEnds_eq (s := s.advance (began + 5000)) h]

theorem State.levelDrive_does {s : State} {pad : PadIx} {start : Nat} {answer : Option Nat}
    {rest : List PadIx} (hr : s.isRunning = true)
    (h : s.wall.level = .measuring pad (.driving start answer) rest)
    (hq : s.quietUntil (start + 101) = true) :
    exec .levelDriveEnd s =
      .next ((s.advance (start + 101)).levelResult pad (driveResult answer) rest).settle := by
  have hd : s.levelDriveDeadline = some (start + 101) := by unfold State.levelDriveDeadline; rw [h]; rfl
  rw [State.ifDue_does (c := .levelDriveEnd) State.levelDriveEnds hr rfl hd hq hd,
    State.levelDriveEnds_eq (s := s.advance (start + 101)) h]

/-- The next pad's turn, at the end of the event (R67, R68). -/
theorem State.levelResult_next (s : State) (pad next : PadIx) (r : LevelResult) (rest : List PadIx) :
    (s.levelResult pad r (next :: rest)).Leaves (s.levelResult pad r (next :: rest)).settle :=
  State.settle_leaves _

/-- The last pad's result, at the end of the event. -/
theorem State.levelResult_last_leaves {s : State} {p : Profile} {m : Nat} (pad : PadIx) (r : LevelResult)
    (hforce : s.store.inForce = some p) :
    ∃ t, t = ((s.advance m).levelResult pad r []).settle ∧
      t = { s with
        clock := max s.clock m
        wall := { s.wall with results := s.wall.results ++ [(pad, r)], level := .writing }
        store := { s.store with stored := none, write := t.store.write }
        board := t.board, link := t.link } ∧
      ((t.wall.results.map (·.1)).Nodup → t.WritesLeveled p t.wall.results) ∧
      s.boardKept t ∧ s.linkKept t := by
  have l := State.settle_leaves ((s.advance m).levelResult pad r [])
  refine ⟨_, rfl, ?_⟩
  generalize ((s.advance m).levelResult pad r []).settle = t at l
  rw [State.levelResult_last (s := s.advance m) hforce] at l
  have hwrite := congrArg ProfileStore.write l.store
  refine ⟨?_, fun hnd => ?_, l.board, l.link⟩
  · rw [hwrite]
    exact l.eq
  · have hresults : t.wall.results = _ := congrArg WallCapture.results l.wall
    rw [← l.clock] at hwrite
    rw [hresults] at hnd ⊢
    exact State.writesLeveled hwrite hnd

/-- Settles O17. -/
theorem levelingTakesTheNextPad : Obligations.LevelingTakesTheNextPad := by
  refine ⟨fun s pad next rest began hr h hq => ?_, fun s pad next rest start answer hr h hq => ?_,
    fun s p pad began hr hforce h hq => ?_, fun s p pad start answer hr hforce h hq => ?_⟩
  · have l := (s.advance (began + 5000)).levelResult_next pad next .busyPad rest
    exact ⟨_, State.levelWait_does hr h hq, by rw [l.clock]; exact l.eq, l.board, l.link⟩
  · have l := (s.advance (start + 101)).levelResult_next pad next (driveResult answer) rest
    refine ⟨_, State.levelDrive_does hr h hq, ?_, l.board, l.link⟩
    rw [l.clock]
    cases answer <;> exact l.eq
  · obtain ⟨t, rfl, h'⟩ := State.levelResult_last_leaves (m := began + 5000) pad .busyPad hforce
    exact ⟨_, State.levelWait_does hr h hq, h'⟩
  · obtain ⟨t, rfl, h'⟩ := State.levelResult_last_leaves (m := start + 101) pad (driveResult answer) hforce
    refine ⟨_, State.levelDrive_does hr h hq, ?_⟩
    cases answer <;> exact h'

end Sys2Proof.Machine

/-!
PROOFS. The scanner's readings and self-test, the probe, and the completion of a store write.
-/

namespace Sys2Proof.Machine

/-! ### Readings -/

/-- The conversion that is due: the channel's first that is not before the moment (R113, R117). -/
theorem sampleTime_eq {first moment k : Nat} {lane : Lane} (h : moment ≤ first + lane.val / 2 + 5 * k)
    (hk : k = 0 ∨ first + lane.val / 2 + 5 * k < moment + 5) :
    sampleTime first lane moment = first + lane.val / 2 + 5 * k := by
  unfold sampleTime Config.sweepTicks
  dsimp only
  omega

/-- The channel's conversion that is due at a moment is the one at `time`. -/
structure State.SampleDue (lane : Lane) (m first k time : Nat) (s : State) : Prop where
  scanning : s.scanner.state = .scanning
  sweep : s.scanner.sweepStart = some first
  probe : s.scanner.probe = none
  eq : time = first + lane.val / 2 + 5 * k
  notBefore : max s.clock m ≤ time
  fresh : (s.scanner.channels[lane]).latest = none → k = 0 ∨ time < max s.clock m + 5
  next : ∀ r last, (s.scanner.channels[lane]).latest = some (r, last) →
    last < time ∧ (k = 0 ∨ time < max (max s.clock m) (last + 1) + 5)

theorem State.SampleDue.deadline {lane : Lane} {m first k time : Nat} {s : State}
    (h : s.SampleDue lane m first k time) : s.sampleDeadline lane m = some time := by
  have htime := h.eq
  unfold State.sampleDeadline
  rw [h.scanning, h.sweep, h.probe]
  have := h.notBefore
  have hnext : (s.scanner.channels[lane]).nextSample first lane (max s.clock m) = time := by
    unfold Channel.nextSample
    cases hl : (s.scanner.channels[lane]).latest with
    | none =>
      have := h.fresh hl
      subst htime
      exact sampleTime_eq (by omega) (by omega)
    | some x =>
      obtain ⟨h1, h2⟩ := h.next x.1 x.2 hl
      subst htime
      exact sampleTime_eq (by omega) (by omega)
  exact congrArg some hnext

theorem State.SampleDue.advance {lane : Lane} {m first k time : Nat} {s : State}
    (h : s.SampleDue lane m first k time) :
    (s.advance time).SampleDue lane m first k time ∧ (s.advance time).clock = time := by
  have hn := h.notBefore
  have hclock : (s.advance time).clock = time := Nat.max_eq_right (by omega)
  refine ⟨⟨h.scanning, h.sweep, h.probe, h.eq, by rw [hclock]; omega, fun _ => by rw [hclock]; omega,
    fun r last hl => ?_⟩, hclock⟩
  obtain ⟨h1, h2⟩ := h.next r last hl
  rw [hclock]
  omega

theorem State.SampleDue.advance_eq {lane : Lane} {m first k time : Nat} {s : State}
    (h : s.SampleDue lane m first k time) : s.advance time = { s with clock := time } := by
  have hn := h.notBefore
  unfold State.advance
  rw [Nat.max_eq_right (by omega)]

/-- A conversion of a channel in quiet time. -/
theorem State.SampleDue.does {lane : Lane} {m first k time : Nat} {s : State} (reading : Reading)
    (h : s.SampleDue lane m first k time) (hr : s.isRunning = true) (hq : s.quietUntil time = true)
    (hlimit : time ≤ Config.masterLimit) :
    exec (.channelSample lane reading m) s = .next ((s.advance time).heatSample lane reading time).settle := by
  obtain ⟨h', hclock⟩ := h.advance
  have hm : (s.advance time).masterTime = time := by
    unfold State.masterTime
    rw [hclock, Nat.min_eq_left hlimit]
  have hs : (s.advance time).sample lane reading time = (s.advance time).heatSample lane reading time :=
    if_neg (by rw [h'.probe]; simp)
  rw [State.ifDue_does (c := .channelSample lane reading m)
    (fun s => s.sample lane reading s.masterTime) hr rfl h.deadline hq h'.deadline, hm, hs]

theorem nextLoad_eq {p : Profile} {load : Option LoadState} {reading : Reading}
    (h : load = some .loaded → p.unloadedLimit ≤ reading.val) : nextLoad p load reading =
      if load = some .loaded then .loaded else if p.loadedLimit ≤ reading.val then .loaded else .unloaded := by
  unfold nextLoad
  split
  · rfl
  · rfl
  · rw [if_neg (by have := h rfl; omega), if_pos rfl]

/-- A reading that is no departure only gives the load state (R116, R117). -/
theorem State.heatSample_keeps {s : State} {p : Profile} {lane : Lane} {reading : Reading} {time : Nat}
    (hforce : s.store.inForce = some p)
    (h : (s.scanner.channels[lane]).load = some .loaded → p.unloadedLimit ≤ reading.val) :
    s.heatSample lane reading time = s.takeReading p lane reading time := by
  unfold State.heatSample
  rw [hforce]
  dsimp only
  split
  · rfl
  · rw [if_neg]
    rintro ⟨hb, ha⟩
    have hload : ((s.takeReading p lane reading time).scanner.channels[lane]).load =
        some (nextLoad p (s.scanner.channels[lane]).load reading) := by
      simp [State.takeReading]
    rw [hload, nextLoad_eq h, if_pos hb] at ha
    cases ha

/-- A loaded channel that reads below the limit departs (R117, R118). -/
theorem State.heatSample_departs {s : State} {h : HeatRecord} {p : Profile} {lane : Lane} {reading : Reading}
    {time : Nat} (hforce : s.store.inForce = some p) (hcur : s.heat.current = some h)
    (hload : (s.scanner.channels[lane]).load = some .loaded) (hr : reading.val < p.unloadedLimit) :
    s.heatSample lane reading time = (s.takeReading p lane reading time).takeDeparture h lane
      ((time : Int) - (p.platformLatency : Int)) := by
  unfold State.heatSample
  rw [hforce]
  dsimp only
  rw [show (s.takeReading p lane reading time).heat.current = some h by simpa using hcur]
  dsimp only
  rw [if_pos]
  refine ⟨hload, ?_⟩
  have : ((s.takeReading p lane reading time).scanner.channels[lane]).load =
      some (nextLoad p (s.scanner.channels[lane]).load reading) := by
    simp [State.takeReading]
  rw [this, hload]
  unfold nextLoad
  rw [if_pos hr]

/-- Settles O25. -/
theorem readingGivesTheLoadState : Obligations.ReadingGivesTheLoadState := by
  intro s p lane reading m first k hr hscan hsweep hprobe hforce hnext hbefore hfresh hq hlimit hload
  have hdue : s.SampleDue lane m first k (first + lane.val / 2 + 5 * k) :=
    ⟨hscan, hsweep, hprobe, rfl, hbefore, hfresh, hnext⟩
  have hx := hdue.does reading hr hq hlimit
  obtain ⟨-, hclock⟩ := hdue.advance
  rw [State.heatSample_keeps (s := s.advance _) hforce hload] at hx
  have l := State.settle_leaves ((s.advance (first + lane.val / 2 + 5 * k)).takeReading p lane reading
    (first + lane.val / 2 + 5 * k))
  have hc := l.clock.trans ((State.takeReading_frame ..).2.2.1.trans hclock)
  have hchannels := congrArg Scanner.channels l.scanner
  refine ⟨_, hx, ?_, ?_, fun l hl => ?_, l.board, l.link⟩
  · rw [hchannels]
    have he := l.eq
    rw [hdue.advance_eq]
    rw [hdue.advance_eq] at he
    exact he
  · rw [hchannels, hc]
    refine (set_getElem_self _ _ _).trans ?_
    rw [show (s.advance (first + lane.val / 2 + 5 * k)).scanner = s.scanner from rfl, nextLoad_eq hload]
    congr 1
    split
    · rfl
    · split <;> rfl
  · rw [hchannels]
    exact set_getElem_ne hl

/-! ### The self-test -/

theorem State.settlingDeadline_eq {s : State} {e : Nat} (h : s.scanner.state = .settling)
    (he : s.scanner.settlingEnd = some e) : s.settlingDeadline = some e := by
  rw [State.settlingDeadline, if_pos h, he]

/-- The end of the settling in quiet time. -/
theorem State.settling_does {s : State} {e : Nat} (zero full : Reading) (hr : s.isRunning = true)
    (h : s.scanner.state = .settling) (he : s.scanner.settlingEnd = some e) (hq : s.quietUntil e = true) :
    exec (.scannerSettlingEnd zero full) s = .next ((s.advance e).settled zero full).settle :=
  State.ifDue_does (c := .scannerSettlingEnd zero full) (State.settled zero full) hr rfl
    (State.settlingDeadline_eq h he) hq (State.settlingDeadline_eq (s := s.advance e) h he)

theorem selfTest_passes {zero full : Reading} (h1 : zero.val ≤ 16) (h2 : 1007 ≤ full.val) :
    selfTest zero full = ⟨zero, full, true⟩ := by
  unfold selfTest Config.zeroMax Config.fullMin
  rw [decide_eq_true ⟨h1, h2⟩]

theorem selfTest_fails {zero full : Reading} (h : 16 < zero.val ∨ full.val < 1007) :
    selfTest zero full = ⟨zero, full, false⟩ := by
  unfold selfTest Config.zeroMax Config.fullMin
  rw [decide_eq_false (by omega)]

/-- The lanes whose reaction a failed self-test settles (R122, R123). -/
def State.lateLanes (h : HeatRecord) (s : State) : List Lane :=
  allLanes.filter fun lane => s.heat.race == .running && h.enters lane &&
    (s.lanes[lane]).reaction == .absent .sensorNotReady

theorem State.mem_lateLanes {h : HeatRecord} {s : State} {lane : Lane} : lane ∈ s.lateLanes h ↔
    s.heat.race = .running ∧ h.enters lane = true ∧
      (s.lanes[lane]).reaction = .absent .sensorNotReady := by
  unfold State.lateLanes
  simp [mem_allLanes, and_assoc]

/-! ### The end of an event with notices -/

/-- `t` is the end of an event that has left `v` and has made these notices: they have been told, with the
reasons that the lanes then hold (R180). -/
structure State.EndsTelling (v : State) (bodies : List NoticeBody) (t : State) : Prop where
  ends : v.EndsAs t
  tells : bodies.length ≤ 64 → ∀ b ∈ bodies, t.tells ⟨t.masterTime, b.withReasons v.lanes⟩
  suffix : ∀ before last, bodies = before ++ last → last.length ≤ 64 →
    last.map (fun b => (⟨t.masterTime, b.withReasons v.lanes⟩ : Notice)) <:+ t.told
  inOrder : v.link.fresh = 0 → ∃ older k, older.Sublist v.told ∧
    t.told = older ++ (bodies.drop k).map fun b => ⟨t.masterTime, b.withReasons v.lanes⟩

theorem State.Emits.endsTelling {bodies : List NoticeBody} {v u t : State} (em : State.Emits bodies v u)
    (hu : u = { v with link := u.link }) (l : u.Leaves t) (told : v.ToldBehind u bodies t) :
    v.EndsTelling bodies t := by
  have hm : v.masterTime = t.masterTime := by rw [l.masterTime, em.masterTime]
  have hlanes : u.lanes = v.lanes := by rw [hu]
  have hn : ∀ b, (Notice.mk v.masterTime b).completed u.lanes = ⟨t.masterTime, b.withReasons v.lanes⟩ :=
    fun b => by rw [hm, hlanes]; rfl
  refine ⟨l.behindNotices em hu, fun hlen b hb => ?_, fun before last hb hlen => ?_, fun hf => ?_⟩
  · rw [← hn]
    exact told.tells hlen hb
  · have := told.suffix hb hlen
    simpa only [hn] using this
  · obtain ⟨older, k, ht, hs, -⟩ := told
    exact ⟨older, k, hs hf, by simpa only [hn] using ht⟩

/-- An event at its end. -/
theorem State.Emits.settles {bodies : List NoticeBody} {v u : State} (em : State.Emits bodies v u)
    (hu : u = { v with link := u.link }) : v.EndsTelling bodies u.settle :=
  em.endsTelling hu (State.settle_leaves u) (State.settle_told em)

/-- A request at its end. -/
theorem State.request_tells {s : State} {kind : RequestKind} {m : Nat} {tag : Byte} {p : List Byte}
    {c : Instr} (hc : exec c s = .next (s.request kind m tag p)) {v u : State} {a : Answer}
    {bodies : List NoticeBody} (hr : s.isRunning = true) (h : s.linkReady) (hq : s.quietUntil m = true)
    (hh : (s.advance m).handle ⟨kind, tag, p⟩ = ⟨u, some a⟩) (em : State.Emits bodies v u)
    (hu : u = { v with link := u.link }) :
    ∃ t, exec c s = .next t ∧ v.EndsTelling bodies t ∧ t.answers kind tag a := by
  obtain ⟨t, ht, hset, l, ha⟩ := State.request_does hc hr h hq hh
  have told := State.settle_told (em.pushReply ⟨.execution, some kind, tag, a⟩)
  rw [← hset] at told
  exact ⟨t, ht, em.endsTelling hu l told, ha⟩

/-- The one notice. -/
theorem State.EndsTelling.tellsOne {v t : State} {b : NoticeBody} (h : v.EndsTelling [b] t) :
    t.tells ⟨t.masterTime, b.withReasons v.lanes⟩ :=
  h.tells (by simp) b (List.mem_singleton_self b)

/-! ### The self-test of a heat -/

theorem State.notifyReactions_emits (lanes : List Lane) (s : State) :
    State.Emits (if lanes = [] then [] else [.reaction (lanes.map s.reactionEntry)]) s
        (s.notifyReactions lanes) ∧
      s.notifyReactions lanes = { s with link := (s.notifyReactions lanes).link } := by
  cases lanes with
  | nil => exact ⟨.nothing rfl rfl, rfl⟩
  | cons lane rest =>
    rw [if_neg (by simp)]
    exact ⟨.notify _ s, by unfold State.notifyReactions; rw [State.notify_eq]⟩

/-- The heat's part of a failed self-test: its flag, and the late lanes' reactions (R115, R122). -/
def State.withFault (h : HeatRecord) (s : State) : State :=
  { s with
    heat := { s.heat with flags := { s.heat.flags with scannerFault := true } }
    lanes := tab fun lane =>
      if lane ∈ s.lateLanes h then { s.lanes[lane] with reaction := .absent .sensorFault }
      else s.lanes[lane] }

theorem State.scannerFault_eq (h : HeatRecord) (s : State) :
    s.scannerFault h = (s.withFault h).notifyReactions (s.lateLanes h) := by
  unfold State.scannerFault State.withFault
  dsimp only
  by_cases hrace : s.heat.race = .running
  · have hlate : (allLanes.filter fun lane => h.enters lane &&
        (s.lanes[lane]).reaction == .absent .sensorNotReady) = s.lateLanes h := by
      unfold State.lateLanes
      simp [hrace]
    have hcond : ∀ lane : Lane, (h.enters lane &&
        (s.lanes[lane]).reaction == .absent .sensorNotReady) = true ↔ lane ∈ s.lateLanes h := by
      intro lane
      rw [State.mem_lateLanes]
      simp [hrace]
    rw [if_pos hrace, hlate]
    simp only [hcond]
  · have hlate : s.lateLanes h = [] := by
      unfold State.lateLanes
      simp [hrace]
    rw [if_neg hrace, hlate]
    simp only [List.not_mem_nil, if_false, tab_self]
    rfl

/-- The notices of the failed self-test: the scanner's, and the reactions' when a lane is late. -/
def State.faultNotices (h : HeatRecord) (zero full : Reading) (s : State) : List NoticeBody :=
  .scanner false zero full h.event h.heat ::
    if s.lateLanes h = [] then []
    else [.reaction ((s.lateLanes h).map fun lane =>
      ⟨lane, .absent .sensorFault, (s.scanner.channels[lane]).startLoad, (s.lanes[lane]).reasons⟩)]

/-- The scanner behind a failed self-test (R115). -/
def State.testFailed (zero full : Reading) (s : State) : State :=
  (s.keepTest ⟨zero, full, false⟩).enterFault

/-- A failed self-test in a heat. -/
theorem State.fault_emits (h : HeatRecord) (zero full : Reading) (s : State) :
    State.Emits (s.faultNotices h zero full) ((s.testFailed zero full).withFault h)
        (((s.testFailed zero full).notify (.scanner false zero full h.event h.heat)).scannerFault h) ∧
      ((s.testFailed zero full).notify (.scanner false zero full h.event h.heat)).scannerFault h =
        { (s.testFailed zero full).withFault h with
          link := (((s.testFailed zero full).notify
            (.scanner false zero full h.event h.heat)).scannerFault h).link } := by
  have e1 := State.Emits.notify (.scanner false zero full h.event h.heat) (s.testFailed zero full)
  rw [State.notify_eq] at e1 ⊢
  generalize ((s.testFailed zero full).link.note _) = l at e1 ⊢
  rw [State.scannerFault_eq]
  obtain ⟨e2, hv⟩ := State.notifyReactions_emits (s.lateLanes h)
    (State.withFault h { s.testFailed zero full with link := l })
  have hentries : (s.lateLanes h).map
      (State.reactionEntry (State.withFault h { s.testFailed zero full with link := l })) =
      (s.lateLanes h).map fun lane =>
        ⟨lane, .absent .sensorFault, (s.scanner.channels[lane]).startLoad, (s.lanes[lane]).reasons⟩ := by
    refine List.map_congr_left fun lane hlane => ?_
    have hin : lane ∈ State.lateLanes h { s.testFailed zero full with link := l } := hlane
    have hrecord : (State.withFault h { s.testFailed zero full with link := l }).lanes[lane] =
        { s.lanes[lane] with reaction := .absent .sensorFault } := by
      simp only [State.withFault, tab_getElem, Fin.getElem_fin]
      exact if_pos hin
    unfold State.reactionEntry
    rw [hrecord]
    rfl
  rw [hentries] at e2
  exact ⟨(e1.behind rfl rfl).trans (e2.behind rfl rfl), hv⟩

/-- Settles O24. -/
theorem selfTestPassesOrFails : Obligations.SelfTestPassesOrFails := by
  refine ⟨fun s h zero full e hr hcur hset he hprobe hq h1 h2 => ?_,
    fun s h zero full e late hr hcur hset he hprobe hq hfail hlate => ?_,
    fun s zero full e tag hr hset he hprobe hq => ?_⟩
  · have hx := State.settling_does zero full hr hset he hq
    have hs : (s.advance e).settled zero full =
        ((s.advance e).keepTest ⟨zero, full, true⟩).beginScanning.notify
          (.scanner true zero full h.event h.heat) := by
      unfold State.settled State.heatTest
      rw [selfTest_passes h1 h2]
      dsimp only
      rw [if_neg (by simp [hprobe])]
      rw [show ((s.advance e).keepTest ⟨zero, full, true⟩).heat.current = some h from hcur]
      rfl
    rw [hs] at hx
    have l := State.settle_leaves (((s.advance e).keepTest ⟨zero, full, true⟩).beginScanning.notify
      (.scanner true zero full h.event h.heat))
    obtain ⟨hend, hb, hk⟩ := l.behindNotice
    have hclock := congrArg State.clock hend
    refine ⟨_, hx, ?_, l.tellsNotice rfl, hb, hk⟩
    rw [hclock]
    exact hend
  · have hx := State.settling_does zero full hr hset he hq
    have hs : (s.advance e).settled zero full =
        (((s.advance e).testFailed zero full).notify
          (.scanner false zero full h.event h.heat)).scannerFault h := by
      unfold State.settled State.heatTest
      rw [selfTest_fails hfail]
      dsimp only
      rw [if_neg (by simp [hprobe])]
      rw [show ((s.advance e).keepTest ⟨zero, full, false⟩).heat.current = some h from hcur]
      rfl
    rw [hs] at hx
    obtain ⟨em, hu⟩ := State.fault_emits h zero full (s.advance e)
    have htell := em.settles hu
    obtain ⟨hend, hb, hk⟩ := htell.ends
    have hlanes : ∀ lane : Lane, (((s.advance e).testFailed zero full).withFault h).lanes[lane] =
        if lane ∈ late then { s.lanes[lane] with reaction := .absent .sensorFault } else s.lanes[lane] := by
      intro lane
      rw [hlate]
      simp only [State.withFault, tab_getElem, Fin.getElem_fin]
      rfl
    have hcount : ((s.advance e).faultNotices h zero full).length ≤ 64 := by
      unfold State.faultNotices
      split <;> simp
    refine ⟨_, hx, ?_, fun lane => ?_, ?_, fun hne => ?_, hb, hk⟩
    · have hl := congrArg State.lanes hend
      rw [hl]
      exact hend
    · rw [congrArg State.lanes hend]
      exact hlanes lane
    · exact htell.tells hcount _ List.mem_cons_self
    · have hn : (s.advance e).faultNotices h zero full = [.scanner false zero full h.event h.heat,
          .reaction (late.map fun lane => ⟨lane, .absent .sensorFault,
            (s.scanner.channels[lane]).startLoad, (s.lanes[lane]).reasons⟩)] := by
        rw [hlate]
        rw [hlate] at hne
        unfold State.faultNotices
        rw [if_neg (show ¬(s.advance e).lateLanes h = [] from hne)]
        rfl
      have := htell.tells hcount (.reaction (late.map fun lane => ⟨lane, .absent .sensorFault,
        (s.scanner.channels[lane]).startLoad, (s.lanes[lane]).reasons⟩)) (by rw [hn]; simp)
      refine cast (congrArg (fun b => State.tells ⟨_, b⟩ _) ?_) this
      unfold NoticeBody.withReasons
      dsimp only
      rw [List.map_map]
      congr 1
      refine List.map_congr_left fun lane _ => ?_
      dsimp only [Function.comp]
      rw [hlanes lane]
      split <;> rfl
  · have hx := State.settling_does zero full hr hset he hq
    have hs : (s.advance e).settled zero full =
        ((s.advance e).keepTest (selfTest zero full)).probeTested (selfTest zero full) :=
      if_pos (by rw [show ((s.advance e).scanner.probe) = some tag from hprobe]; rfl)
    rw [hs] at hx
    have l := State.settle_leaves (((s.advance e).keepTest (selfTest zero full)).probeTested
      (selfTest zero full))
    have hclock := l.clock
    have htest := congrArg Scanner.lastTest l.scanner
    refine ⟨_, hx, ?_, l.board, l.link, fun hf hline => State.settle_link_taken hf hline⟩
    rw [hclock, htest]
    exact l.eq

end Sys2Proof.Machine

/-!
PROOFS. The probe of the starting platforms, and the completion of a store write.
-/

namespace Sys2Proof.Machine

/-! ### The probe -/

/-- The readings of a probe with those of some lanes taken. -/
def filledReadings (first : Nat) (readings : Vector Reading 10) (lanes : List Lane)
    (old : Vector (Option (Reading × Nat)) 10) : Vector (Option (Reading × Nat)) 10 :=
  tab fun lane =>
    if lane ∈ lanes ∧ old[lane] = none then some (readings[lane], first + lane.val / 2) else old[lane]

theorem State.takeProbeReading_eq {s : State} {first : Nat} (lane : Lane) (r : Reading)
    (hf : s.scanner.sweepStart = some first) : s.takeProbeReading lane r =
      { s with scanner := { s.scanner with
        probeReadings := if s.scanner.probeReadings[lane] = none then
          s.scanner.probeReadings.set lane (some (r, first + lane.val / 2)) else s.scanner.probeReadings } } := by
  unfold State.takeProbeReading
  rw [hf]
  cases h : s.scanner.probeReadings[lane] with
  | none => rfl
  | some x => rfl

/-- The sweep of a list of lanes takes the readings that are still to come. -/
theorem State.takeProbeReadings_eq {first : Nat} (readings : Vector Reading 10) (lanes : List Lane) {s : State}
    (hf : s.scanner.sweepStart = some first) :
    lanes.foldl (fun s lane => s.takeProbeReading lane readings[lane]) s =
      { s with scanner := { s.scanner with
        probeReadings := filledReadings first readings lanes s.scanner.probeReadings } } := by
  induction lanes generalizing s with
  | nil =>
    have hfill : filledReadings first readings [] s.scanner.probeReadings = s.scanner.probeReadings := by
      simp only [filledReadings, List.not_mem_nil, false_and, if_false, tab_self]
    rw [hfill]
    rfl
  | cons lane rest ih =>
    rw [List.foldl_cons, State.takeProbeReading_eq lane _ hf, ih (by exact hf)]
    have hfill : filledReadings first readings rest
        (if s.scanner.probeReadings[lane] = none then
          s.scanner.probeReadings.set lane (some (readings[lane], first + lane.val / 2))
          else s.scanner.probeReadings) =
        filledReadings first readings (lane :: rest) s.scanner.probeReadings := by
      refine vector_ext fun l => ?_
      unfold filledReadings
      simp only [tab_getElem, Fin.getElem_fin, Fin.eta]
      by_cases hl : l = lane
      · subst hl
        by_cases ho : s.scanner.probeReadings[l] = none
        · have hs : (s.scanner.probeReadings.set l (some (readings[l], first + l.val / 2)))[l] =
              some (readings[l], first + l.val / 2) := set_getElem_self _ _ _
          simp only [Fin.getElem_fin] at ho hs
          simp [ho]
        · simp only [Fin.getElem_fin] at ho
          simp [ho]
      · have hs : ∀ x, (s.scanner.probeReadings.set lane x)[l] = s.scanner.probeReadings[l] :=
          fun x => set_getElem_ne hl
        simp only [Fin.getElem_fin] at hs
        split <;> simp [hs, hl]
    rw [hfill]

/-- The state behind a probe (R134, R135). -/
theorem State.endProbe_eq {s : State} {tag : Byte} (complete : Bool) (h : s.scanner.probe = some tag) :
    s.endProbe complete = (s.pushReply ⟨.deferred, some .probeBlocks, tag,
      .accepted (.probed complete s.scanner.probeTest s.scanner.probeReadings)⟩).scannerOff := by
  unfold State.endProbe
  rw [h]

/-- A probe that completes, at the end of the event. -/
theorem State.probe_leaves {s u t : State} {tag : Byte} {time : Nat}
    {readings : Vector (Option (Reading × Nat)) 10} (hp : s.scanner.probe = some tag)
    (hu : u = State.endProbe true { s.advance time with
      scanner := { s.scanner with probeReadings := readings } }) (l : u.Leaves t) :
    s.ProbeLeaves tag (max s.clock time) readings t := by
  rw [State.endProbe_eq true (by exact hp)] at hu
  have hlink : s.linkKept t ∧ s.boardKept t := by
    have h1 := l.link
    have h2 := l.board
    rw [hu] at h1 h2
    exact ⟨h1, h2⟩
  have he := l.eq
  have hg := l.gives ⟨.deferred, some .probeBlocks, tag,
    .accepted (.probed true s.scanner.probeTest readings)⟩ (by
      rw [hu]
      exact .inl (List.mem_append_right _ (List.mem_singleton_self _)))
  have hs := l.scanner
  rw [hu] at hs he
  refine ⟨?_, by rw [hs]; rfl, by rw [hs]; rfl, by rw [hs]; rfl, fun lane => ?_, hg, hlink.2, hlink.1⟩
  · rw [hs]
    exact he
  · rw [hs]
    simp

theorem State.sweepDeadline_eq {s : State} {first : Nat} {tag : Byte} (h : s.scanner.state = .scanning)
    (hf : s.scanner.sweepStart = some first) (hp : s.scanner.probe = some tag) :
    s.sweepDeadline = some (first + 4) := by
  unfold State.sweepDeadline
  rw [h, hf, hp]

theorem State.probeSample_deadline {s : State} {first m : Nat} {tag : Byte} {lane : Lane}
    (h : s.scanner.state = .scanning) (hf : s.scanner.sweepStart = some first)
    (hp : s.scanner.probe = some tag) (hn : s.scanner.probeReadings[lane] = none) :
    s.sampleDeadline lane m = some (first + lane.val / 2) := by
  unfold State.sampleDeadline
  rw [h, hf, hp, hn]
  rfl

/-- Settles O27. -/
theorem probeCompletes : Obligations.ProbeCompletes := by
  refine ⟨fun s readings tag first hr hscan hf hp hq => ?_,
    fun s lane reading m tag first hr hscan hf hp hn hq => ?_⟩
  · have hd := State.sweepDeadline_eq hscan hf hp
    have hx := State.ifDue_does (c := .probeSweepComplete readings) (State.restOfSweep readings) hr rfl hd hq hd
    refine ⟨_, hx, State.probe_leaves hp ?_ (State.settle_leaves _)⟩
    unfold State.restOfSweep
    rw [State.takeProbeReadings_eq (s := s.advance (first + 4)) readings allLanes hf]
    refine congrArg (fun r => State.endProbe true { s.advance (first + 4) with
      scanner := { s.scanner with probeReadings := r } }) (vector_ext fun l => ?_)
    unfold filledReadings
    simp only [tab_getElem, Fin.getElem_fin, mem_allLanes, true_and]
    show (if s.scanner.probeReadings[l] = none then _ else s.scanner.probeReadings[l]) =
      match s.scanner.probeReadings[l] with
      | some taken => some taken
      | none => _
    cases s.scanner.probeReadings[l] <;> rfl
  · have hd := State.probeSample_deadline (m := m) hscan hf hp hn
    have hx := State.ifDue_does (c := .channelSample lane reading m)
      (fun s => s.sample lane reading s.masterTime) hr rfl hd hq
      (State.probeSample_deadline (s := s.advance _) hscan hf hp hn)
    have hsample : (s.advance (first + lane.val / 2)).sample lane reading
        (s.advance (first + lane.val / 2)).masterTime =
        (s.advance (first + lane.val / 2)).probeSample lane reading :=
      if_pos (by rw [show (s.advance (first + lane.val / 2)).scanner.probe = some tag from hp]; rfl)
    have htake := State.takeProbeReading_eq (s := s.advance (first + lane.val / 2)) lane reading hf
    rw [if_pos (show (s.advance (first + lane.val / 2)).scanner.probeReadings[lane] = none from hn)] at htake
    rw [hsample, State.probeSample, htake] at hx
    dsimp only at hx
    refine ⟨_, hx, fun hall => ?_, fun other hne hother => ?_⟩
    · rw [if_pos]
      · exact State.probe_leaves hp rfl (State.settle_leaves _)
      · unfold State.probeSwept
        rw [List.all_eq_true]
        intro l _
        by_cases hl : l = lane
        · subst hl
          exact congrArg Option.isSome (set_getElem_self _ _ _)
        · exact (congrArg Option.isSome (set_getElem_ne hl)).trans (hall l hl)
    · rw [if_neg]
      · have l := State.settle_leaves { s.advance (first + lane.val / 2) with
          scanner := { s.scanner with
            probeReadings := s.scanner.probeReadings.set lane (some (reading, first + lane.val / 2)) } }
        exact ⟨l.eq, l.board, l.link, fun hf hline => State.settle_link_taken hf hline⟩
      · unfold State.probeSwept
        rw [List.all_eq_true]
        intro h
        have hnone := congrArg Option.isSome
          ((set_getElem_ne (x := some (reading, first + lane.val / 2)) hne).trans hother)
        exact absurd (hnone.symm.trans (h other (mem_allLanes _))) (by simp)

/-! ### The completion of a store write -/

/-- The first notice of a completed write. -/
def State.writeNotice (w : StoreWrite) (s : State) : NoticeBody :=
  if w.leveling then .levelDone true s.wall.results else profileDone s.store.inForce w.profile

/-- The notice of a source that differs. -/
def State.sourceNotices (w : StoreWrite) (s : State) : List NoticeBody :=
  if w.profile.source = s.timebase.source ∨ s.timebase.state = .unlocked then []
  else [.timebase .acquiring s.timebase.state w.profile.source .sourceChanged]

/-- The state of a completed write (R189). -/
def State.written (w : StoreWrite) (s : State) : State :=
  { s with
    timebase :=
      if w.profile.source = s.timebase.source then s.timebase
      else if s.timebase.state = .unlocked then
        { s.timebase with source := w.profile.source, lastWindow := none }
      else
        { state := .acquiring, source := w.profile.source, goodCount := 0, lastWindow := none,
          steering := false, acquiringEnd := s.clock + 5000 }
    wall := if w.leveling then { s.wall with level := .idle, results := [] } else s.wall
    board := { s.board with
      mode := if s.store.inForce.isNone then some w.profile.defaultMode else s.board.mode
      passDue := true }
    store := { s.store with inForce := some w.profile, stored := some w.profile, write := none } }

/-- A source that differs is in use from now (R11). -/
theorem State.changeSource_emits (source : TimeSource) (s : State) :
    State.Emits (if source = s.timebase.source ∨ s.timebase.state = .unlocked then []
        else [.timebase .acquiring s.timebase.state source .sourceChanged]) s (s.changeSource source) ∧
      s.changeSource source = { s with
        timebase :=
          if source = s.timebase.source then s.timebase
          else if s.timebase.state = .unlocked then { s.timebase with source := source, lastWindow := none }
          else
            { state := .acquiring, source := source, goodCount := 0, lastWindow := none,
              steering := false, acquiringEnd := s.clock + 5000 }
        link := (s.changeSource source).link } := by
  unfold State.changeSource
  by_cases hs : source = s.timebase.source
  · rw [if_pos hs, if_pos (.inl hs), if_pos hs]
    exact ⟨.nothing rfl rfl, rfl⟩
  · rw [if_neg hs, if_neg hs]
    by_cases hu : s.timebase.state = .unlocked
    · dsimp only
      rw [if_pos hu, if_pos (.inr hu), if_pos hu]
      exact ⟨.nothing rfl rfl, rfl⟩
    · dsimp only
      rw [if_neg hu, if_neg (by simp [hs, hu]), if_neg hu]
      exact ⟨(State.Emits.notify _ _).behind rfl rfl, by unfold State.notifyTimebase; rw [State.notify_eq]; rfl⟩

/-- The profile of a completed write, in force and stored, with its notice. -/
def State.writeStored (w : StoreWrite) (s : State) : State :=
  { s with
    wall := if w.leveling then { s.wall with level := .idle, results := [] } else s.wall
    store := { s.store with inForce := some w.profile, stored := some w.profile, write := none } }

theorem State.completeWrite_eq (w : StoreWrite) (s : State) : s.completeWrite w =
    State.askPass (if s.store.inForce.isNone then
        { ((s.writeStored w).notify (s.writeNotice w)).changeSource w.profile.source with
          board := { (((s.writeStored w).notify (s.writeNotice w)).changeSource w.profile.source).board with
            mode := some w.profile.defaultMode } }
      else ((s.writeStored w).notify (s.writeNotice w)).changeSource w.profile.source) := by
  unfold State.completeWrite State.writeStored State.writeNotice
  cases w.leveling <;> rfl

theorem State.completeWrite_emits (w : StoreWrite) (s : State) :
    State.Emits (s.writeNotice w :: s.sourceNotices w) (s.written w) (s.completeWrite w) ∧
      s.completeWrite w = { s.written w with link := (s.completeWrite w).link } := by
  have e1 := State.Emits.notify (s.writeNotice w) (s.writeStored w)
  rw [State.completeWrite_eq]
  rw [State.notify_eq] at e1 ⊢
  generalize ((s.writeStored w).link.note _) = l at e1 ⊢
  obtain ⟨e2, hv⟩ := State.changeSource_emits w.profile.source { s.writeStored w with link := l }
  generalize State.changeSource w.profile.source { s.writeStored w with link := l } = v at e2 hv
  have e := (e1.behind (s := s.written w) rfl rfl).trans e2
  refine ⟨e.then ?_ ?_, ?_⟩
  · split <;> rfl
  · split <;> rfl
  · rw [hv]
    unfold State.written
    split <;> rfl

/-- The notices of a write carry no review reasons. -/
theorem State.writeNotice_plain (w : StoreWrite) (s : State) (lanes : Vector LaneRecord 10) :
    (s.writeNotice w).withReasons lanes = s.writeNotice w := by
  unfold State.writeNotice profileDone
  repeat' split
  all_goals rfl

/-- Settles O28. -/
theorem writeCompletes : Obligations.WriteCompletes := by
  intro s w hr hw hq
  have hd : s.writeDeadline = some w.done := by unfold State.writeDeadline; rw [hw]; rfl
  have hx := State.ifDue_does (c := .profileWriteComplete) State.writeEnds hr rfl hd hq hd
  have hwe : (s.advance w.done).writeEnds = (s.advance w.done).completeWrite w := by
    unfold State.writeEnds
    rw [show (s.advance w.done).store.write = some w from hw]
  rw [hwe] at hx
  obtain ⟨em, hu⟩ := State.completeWrite_emits w (s.advance w.done)
  have htell := em.settles hu
  have hfirst := State.writeNotice_plain w (s.advance w.done) ((s.advance w.done).written w).lanes
  obtain ⟨he, ⟨b1, b2, b3, b4, b5⟩, hk⟩ := htell.ends
  have hclock := congrArg State.clock he
  refine ⟨_, hx, ?_, b1, b2, b3, b4, b5, hk, fun hsame => ?_, fun hne hlocked => ?_, fun hmode => ?_⟩
  · rw [hclock]
    exact he
  · have hnotices : (s.advance w.done).sourceNotices w = [] := if_pos hsame
    have hlast := htell.suffix [] [(s.advance w.done).writeNotice w] (by rw [hnotices]; rfl) (by simp)
    rw [List.map_singleton, hfirst] at hlast
    exact hlast
  · have hnotices : (s.advance w.done).sourceNotices w =
        [.timebase .acquiring s.timebase.state w.profile.source .sourceChanged] :=
      if_neg (by rintro (h | h); exacts [hne h, hlocked h])
    have hlast := htell.suffix [] [(s.advance w.done).writeNotice w,
      .timebase .acquiring s.timebase.state w.profile.source .sourceChanged] (by rw [hnotices]; rfl) (by simp)
    rw [List.map_cons, List.map_singleton, hfirst] at hlast
    exact hlast
  · have hb : ((s.advance w.done).completeWrite w).board = { s.board with
        mode := if s.store.inForce.isNone then some w.profile.defaultMode else s.board.mode
        passDue := true } := by rw [hu]; rfl
    refine State.passTaken_settle (by rw [hb]) ?_ (by rw [hb]) fun _ => ?_
    · unfold State.sendsKept
      rw [hb]
      exact ⟨rfl, rfl, rfl, rfl, rfl, rfl⟩
    · rw [hb]
      dsimp only
      rcases hmode with h | h
      · split
        · rfl
        · exact h
      · rw [h]
        rfl

end Sys2Proof.Machine

/-!
PROOFS. The console receiver: a frame in progress, byte by byte, and the frame of R184 received whole.
-/

namespace Sys2Proof.Machine

/-! ### A frame in progress (R173) -/

/-- The bytes do not yet make a whole frame. -/
def Unfinished (held : List Byte) : Prop :=
  held.length < 5 ∨ (wordAt held 3 ≤ 512 ∧ held.length < 7 + wordAt held 3)

/-- The bytes begin with a start byte and do not yet make a whole frame. -/
def FrameInProgress (held : List Byte) : Prop := held.head? = some 0xA5#8 ∧ Unfinished held

theorem wordAt_append {p : List Byte} {i : Nat} (q : List Byte) (h : i + 1 < p.length) :
    wordAt (p ++ q) i = wordAt p i := by
  unfold wordAt byteAt
  simp [List.getElem?_append_left h, List.getElem?_append_left (Nat.lt_of_succ_lt h)]

theorem wordAt_cons (b : Byte) (p : List Byte) (i : Nat) : wordAt (b :: p) (i + 1) = wordAt p i := rfl

/-- What has begun to be a frame has been one in progress since its start byte. -/
theorem FrameInProgress.before {held rest : List Byte} (h : FrameInProgress (held ++ rest))
    (hne : held ≠ []) : FrameInProgress held := by
  obtain ⟨hs, hl⟩ := h
  refine ⟨by rwa [List.head?_append_of_ne_nil _ hne] at hs, ?_⟩
  unfold Unfinished at *
  by_cases h5 : held.length < 5
  · exact .inl h5
  have hw : wordAt (held ++ rest) 3 = wordAt held 3 := wordAt_append rest (by omega)
  rw [List.length_append, hw] at hl
  omega

/-- A byte that the receiver looks at: the first byte of a frame, or one inside it. -/
theorem receiveByte_taken {held : List Byte} {b : Byte} (h : held ≠ [] ∨ b = 0xA5#8) :
    receiveByte held b =
      if (held ++ [b]).length < 5 then .more (held ++ [b])
      else if Config.payloadMax < statedLength (held ++ [b]) then .dropped (held ++ [b])
      else if (held ++ [b]).length < 7 + statedLength (held ++ [b]) then .more (held ++ [b])
      else if crcPasses (held ++ [b]) then .complete (held ++ [b])
      else .dropped (held ++ [b]) := by
  unfold receiveByte
  dsimp only
  exact if_neg fun hc => h.elim (fun h => h hc.1) hc.2

/-- The byte is one that the receiver looks at when a start byte stands first. -/
theorem taken_of_head {held : List Byte} {b : Byte} (h : (held ++ [b]).head? = some 0xA5#8) :
    held ≠ [] ∨ b = 0xA5#8 := by
  cases held with
  | nil => exact .inr (Option.some.inj h)
  | cons c rest => exact .inl (by simp)

/-- A byte that leaves the frame in progress is held behind the others. -/
theorem receiveByte_more {held : List Byte} {b : Byte} (hs : held ≠ [] ∨ b = 0xA5#8)
    (hl : Unfinished (held ++ [b])) : receiveByte held b = .more (held ++ [b]) := by
  rw [receiveByte_taken hs]
  by_cases h5 : (held ++ [b]).length < 5
  · rw [if_pos h5]
  obtain ⟨hp, hn⟩ := hl.resolve_left h5
  rw [if_neg h5]
  exact (if_neg (Nat.not_lt.2 hp)).trans (if_pos hn)

/-- A payload length above 512 drops the frame at once. -/
theorem receiveByte_tooLong {held : List Byte} {b : Byte} (h : held ≠ [] ∨ b = 0xA5#8)
    (h5 : 5 ≤ (held ++ [b]).length) (hw : 512 < wordAt (held ++ [b]) 3) :
    receiveByte held b = .dropped (held ++ [b]) := by
  rw [receiveByte_taken h, if_neg (by omega)]
  exact if_pos hw

/-- The last byte of a frame: its CRC decides. -/
theorem receiveByte_last {held : List Byte} {b : Byte} (h : held ≠ [] ∨ b = 0xA5#8)
    (hw : wordAt (held ++ [b]) 3 ≤ 512) (hn : (held ++ [b]).length = 7 + wordAt (held ++ [b]) 3) :
    receiveByte held b =
      if crcPasses (held ++ [b]) then .complete (held ++ [b]) else .dropped (held ++ [b]) := by
  rw [receiveByte_taken h, if_neg (by omega)]
  exact (if_neg (Nat.not_lt.2 hw)).trans (if_neg (by unfold statedLength; omega))

/-- In HUNT, a byte that is no start byte is discarded. -/
theorem receiveByte_hunt {b : Byte} (h : b ≠ 0xA5#8) : receiveByte [] b = .more [] := if_pos ⟨rfl, h⟩

/-! ### Many bytes -/

/-- In HUNT, bytes that are no start byte leave it there, and count nothing. -/
theorem receiveBytes_hunt {skipped : List Byte} (h : ∀ b ∈ skipped, b ≠ 0xA5#8) (fuel : Nat) :
    receiveBytes fuel [] skipped = ([], []) := by
  induction skipped generalizing fuel with
  | nil => cases fuel <;> rfl
  | cons b rest ih =>
    cases fuel with
    | zero => rfl
    | succ fuel =>
      unfold receiveBytes
      rw [receiveByte_hunt (h b (by simp))]
      exact ih (fun c hc => h c (by simp [hc])) fuel

/-- In HUNT, such bytes before others are passed over. -/
theorem receiveBytes_skip {skipped : List Byte} (h : ∀ b ∈ skipped, b ≠ 0xA5#8) (fuel : Nat)
    (rest : List Byte) :
    receiveBytes (skipped.length + fuel) [] (skipped ++ rest) = receiveBytes fuel [] rest := by
  induction skipped with
  | nil => simp
  | cons b tail ih =>
    rw [List.length_cons, show tail.length + 1 + fuel = tail.length + fuel + 1 by omega, List.cons_append]
    rw [receiveBytes, receiveByte_hunt (h b (by simp))]
    exact ih fun c hc => h c (by simp [hc])

/-- Bytes that leave the frame in progress are held, one behind the other. -/
theorem receiveBytes_more {bytes : List Byte} (fuel : Nat) (held rest : List Byte)
    (h : FrameInProgress (held ++ bytes)) :
    receiveBytes (bytes.length + fuel) held (bytes ++ rest) = receiveBytes fuel (held ++ bytes) rest := by
  induction bytes generalizing held with
  | nil => simp
  | cons b tail ih =>
    rw [show held ++ b :: tail = (held ++ [b]) ++ tail by simp] at h ⊢
    rw [List.length_cons, show tail.length + 1 + fuel = tail.length + fuel + 1 by omega, List.cons_append,
      receiveBytes, receiveByte_more (taken_of_head (h.before (by simp)).1) (h.before (by simp)).2]
    exact ih (held ++ [b]) h

theorem receiveBytes_nil (fuel : Nat) (held : List Byte) : receiveBytes fuel held [] = (held, []) := by
  cases fuel <;> rfl

theorem receiveFuel_eq (n : Nat) : receiveFuel n = n + (n * n + n + 1) := by
  unfold receiveFuel; ring

/-- The bytes that continue the frame in progress are held behind it. -/
theorem receive_more {held bytes : List Byte} (h : FrameInProgress (held ++ bytes)) :
    receive held bytes = (held ++ bytes, []) := by
  have hm := receiveBytes_more (held.length + ((held.length + bytes.length) * (held.length + bytes.length) +
    (held.length + bytes.length) + 1)) held [] h
  rw [List.append_nil, receiveBytes_nil] at hm
  unfold receive
  rw [receiveFuel_eq, ← hm]
  congr 1
  omega

/-- One byte that leaves the frame in progress is held. -/
theorem receive_byte {held : List Byte} {b : Byte} (hs : held ≠ [] ∨ b = 0xA5#8)
    (hl : Unfinished (held ++ [b])) : receive held [b] = (held ++ [b], []) := by
  unfold receive
  rw [receiveFuel_eq, ← Nat.add_assoc, receiveBytes, receiveByte_more hs hl]
  exact receiveBytes_nil _ _

/-- In HUNT, bytes without a start byte leave it there. -/
theorem receive_hunt {skipped : List Byte} (h : ∀ b ∈ skipped, b ≠ 0xA5#8) : receive [] skipped = ([], []) :=
  receiveBytes_hunt h _

/-- In HUNT, the first start byte begins the frame in progress. -/
theorem receive_skip {skipped held : List Byte} (hs : ∀ b ∈ skipped, b ≠ 0xA5#8)
    (h : FrameInProgress held) : receive [] (skipped ++ held) = (held, []) := by
  unfold receive
  rw [receiveFuel_eq, List.length_nil, List.length_append]
  generalize hk : skipped.length + held.length = n
  have hm := receiveBytes_more (n * n + (0 + n) + 1) [] [] (bytes := held) h
  rw [List.append_nil, receiveBytes_nil] at hm
  rw [Nat.zero_add, show n + (n * n + n + 1) = skipped.length + (held.length + (n * n + (0 + n) + 1)) by omega,
    receiveBytes_skip hs, hm]
  rfl

/-- A byte that completes the frame in progress: a frame, or a drop with its bytes looked at again. -/
theorem receiveBytes_end {held : List Byte} {b : Byte} (fuel : Nat)
    (h : receiveByte held b = .complete (held ++ [b])) :
    receiveBytes (fuel + 1) held [b] = ([], [.frame (held ++ [b])]) := by
  rw [receiveBytes, h]
  dsimp only
  rw [receiveBytes_nil]

theorem receiveBytes_dropped {held : List Byte} {b : Byte} (fuel : Nat)
    (h : receiveByte held b = .dropped (held ++ [b])) (hs : ∀ c ∈ (held ++ [b]).drop 1, c ≠ 0xA5#8) :
    receiveBytes (fuel + 1) held [b] = ([], [.drop]) := by
  rw [receiveBytes, h]
  dsimp only
  rw [List.append_nil, receiveBytes_hunt hs]

/-- The bytes of a frame before its last are held, in HUNT or behind those that are held. -/
theorem receive_last {held bytes : List Byte} {b : Byte} (h : FrameInProgress (held ++ bytes)) :
    ∃ fuel, receive held (bytes ++ [b]) = receiveBytes (fuel + 1) (held ++ bytes) [b] := by
  unfold receive
  rw [receiveFuel_eq, List.length_append]
  generalize hn : held.length + (bytes.length + [b].length) = n
  refine ⟨held.length + (n * n + n + 1), ?_⟩
  rw [← receiveBytes_more _ _ _ h]
  simp only [List.length_cons, List.length_nil] at hn
  congr 1
  omega

/-- A frame in progress that is dropped, with no start byte behind its first. -/
theorem dropFrame_hunt {b : Byte} {rest : List Byte} (h : ∀ c ∈ rest, c ≠ 0xA5#8) :
    dropFrame (b :: rest) = ([], [.drop]) := by
  unfold dropFrame
  rw [List.drop_one, List.tail_cons, receive_hunt h]

/-- A frame in progress that is dropped, with a start byte among the bytes behind its first. -/
theorem dropFrame_again {b : Byte} {skipped held : List Byte} (hs : ∀ c ∈ skipped, c ≠ 0xA5#8)
    (h : FrameInProgress held) : dropFrame (b :: (skipped ++ held)) = (held, [.drop]) := by
  unfold dropFrame
  rw [List.drop_one, List.tail_cons, receive_skip hs h]

theorem dropAll_nil (fuel : Nat) : dropAll fuel [] = [] := by cases fuel <;> rfl

theorem dropAll_cons {fuel : Nat} {held : List Byte} (h : held ≠ []) :
    dropAll (fuel + 1) held = (dropFrame held).2 ++ dropAll fuel (dropFrame held).1 := by
  rw [dropAll, if_neg h]

/-! ### The frame of R184 -/

/-- What stands between the start byte and the CRC. -/
def frameBody (kind tag : Byte) (payload : List Byte) : List Byte :=
  [kind, tag] ++ natBytes 2 payload.length ++ payload

theorem consoleFrame_eq (kind tag : Byte) (payload : List Byte) : consoleFrame kind tag payload =
    0xA5#8 :: (frameBody kind tag payload ++ natBytes 2 (crc16 (frameBody kind tag payload)).toNat) := rfl

theorem natBytes_two_dropLast (l : List Byte) (v : Nat) : (l ++ natBytes 2 v).dropLast.dropLast = l := by
  rw [natBytes_two, show l ++ [BitVec.ofNat 8 (v / 256), BitVec.ofNat 8 v] =
    (l ++ [BitVec.ofNat 8 (v / 256)]) ++ [BitVec.ofNat 8 v] by simp, List.dropLast_concat, List.dropLast_concat]

theorem consoleFrame_head (kind tag : Byte) (payload : List Byte) :
    (consoleFrame kind tag payload).head? = some 0xA5#8 := rfl

theorem consoleFrame_wordAt {kind tag : Byte} {payload : List Byte} (h : payload.length ≤ 512) :
    wordAt (consoleFrame kind tag payload) 3 = payload.length := by
  have hs : StandsAt (consoleFrame kind tag payload) 3 (natBytes 2 payload.length) :=
    ⟨[0xA5#8, kind, tag], payload ++ natBytes 2 (crc16 (frameBody kind tag payload)).toNat, by
      simp [consoleFrame_eq, frameBody], rfl⟩
  exact hs.wordAt_natBytes (by omega)

/-- The frame passes its own check (R174, R184). -/
theorem crcPasses_consoleFrame (kind tag : Byte) (payload : List Byte) :
    crcPasses (consoleFrame kind tag payload) = true := by
  rw [consoleFrame_eq]
  unfold crcPasses
  rw [List.drop_one, List.tail_cons, natBytes_two_dropLast]
  generalize frameBody kind tag payload = body
  have hs : StandsAt (0xA5#8 :: (body ++ natBytes 2 (crc16 body).toNat)) (body.length + 1)
      (natBytes 2 (crc16 body).toNat) := ⟨0xA5#8 :: body, [], by simp, by simp⟩
  rw [beq_iff_eq, show (0xA5#8 :: (body ++ natBytes 2 (crc16 body).toNat)).length - 2 = body.length + 1 by
    simp [natBytes_length]]
  exact (hs.wordAt_natBytes (crc16 body).isLt).symm

/-- What a receiver takes a frame's bytes for when they come in two parts: the frame. -/
theorem receive_consoleFrame {kind tag : Byte} {payload held bytes : List Byte}
    (h : held ++ bytes = consoleFrame kind tag payload) (hb : bytes ≠ []) (hp : payload.length ≤ 512) :
    receive held bytes = ([], [.frame (consoleFrame kind tag payload)]) := by
  obtain ⟨bytes, b, rfl⟩ := List.eq_nil_or_concat'  bytes |>.resolve_left hb
  rw [← List.append_assoc] at h
  have hlen := consoleFrame_length kind tag payload
  have hw := consoleFrame_wordAt (kind := kind) (tag := tag) hp
  rw [← h] at hlen hw
  have hne : held ++ bytes ≠ [] := by
    intro hc
    rw [hc] at hlen
    simp at hlen
  have hs : (held ++ bytes ++ [b]).head? = some 0xA5#8 := by rw [h]; rfl
  have hprogress : FrameInProgress (held ++ bytes) := by
    refine ⟨by rwa [List.head?_append_of_ne_nil _ hne] at hs, ?_⟩
    by_cases h5 : (held ++ bytes).length < 5
    · exact .inl h5
    rw [wordAt_append _ (by omega)] at hw
    rw [List.length_append, List.length_singleton] at hlen
    unfold Unfinished
    omega
  obtain ⟨fuel, hr⟩ := receive_last (b := b) hprogress
  rw [hr, receiveBytes_end _ (by
    rw [receiveByte_last (taken_of_head hs) (by omega) (by omega),
        if_pos (by rw [h]; exact crcPasses_consoleFrame ..)]), h]

/-- Settles O34. -/
theorem consoleFrameRoundTrip : Obligations.ConsoleFrameRoundTrip := fun _ _ _ hp =>
  receive_consoleFrame rfl (by simp [consoleFrame_eq]) hp

end Sys2Proof.Machine

/-!
PROOFS. What arrives at the receiver: bytes, dropped frames, and the silence.
-/

namespace Sys2Proof.Machine

/-! ### What leaves the receiver alone -/

/-- The part has the power it had, the receiver holds what it held since then, and time has not gone back. -/
structure State.ReceiverKept (s t : State) : Prop where
  power : t.power = s.power
  held : t.link.held = s.link.held
  lastByte : t.link.lastByte = s.link.lastByte
  clock : s.clock ≤ t.clock

theorem State.ReceiverKept.refl (s : State) : s.ReceiverKept s := ⟨rfl, rfl, rfl, le_rfl⟩

theorem State.ReceiverKept.trans {s t u : State} (h : s.ReceiverKept t) (h' : t.ReceiverKept u) :
    s.ReceiverKept u :=
  ⟨h'.power.trans h.power, h'.held.trans h.held, h'.lastByte.trans h.lastByte, h.clock.trans h'.clock⟩

theorem State.settle_receiverKept (s : State) : s.ReceiverKept s.settle :=
  ⟨by simp, by simp, by simp, by simp⟩

theorem State.advance_receiverKept (m : Nat) (s : State) : s.ReceiverKept (s.advance m) :=
  ⟨rfl, rfl, rfl, State.le_advance_clock m s⟩

theorem State.reachLimit_clock (s : State) : s.clock ≤ s.reachLimit.clock := by
  have h := (State.reachLimit_makes s).1
  rw [h]
  exact State.le_advance_clock _ s

theorem State.reach_receiverKept (m : Nat) (s : State) : s.ReceiverKept (s.reach m) := by
  have race : s.ReceiverKept (if s.raceLimitBy m then s.takeRaceLimit else s) := by
    unfold State.takeRaceLimit
    split
    · split
      · exact .refl s
      · next t _ =>
        exact (s.advance_receiverKept t).trans
          (.trans (t := (s.advance t).overtime) ⟨by simp, by simp, by simp, by simp⟩
            (State.settle_receiverKept _))
    · exact .refl s
  unfold State.reach
  dsimp only
  refine race.trans (.trans ?_ (State.advance_receiverKept m _))
  generalize (if s.raceLimitBy m then s.takeRaceLimit else s) = u
  split
  · exact .trans (t := u.reachLimit) ⟨by simp, by simp, by simp, u.reachLimit_clock⟩ (State.settle_receiverKept _)
  · exact .refl u

theorem State.le_reach_clock (m : Nat) (s : State) : m ≤ (s.reach m).clock := by
  unfold State.reach State.advance
  exact Nat.le_max_right _ _

theorem State.missWindow_receiverKept (s : State) : s.ReceiverKept s.missWindow := by
  unfold State.missWindow State.windowEnds
  dsimp only
  split
  · refine (s.reach_receiverKept (s.clock + 1)).trans ?_
    split
    · exact .trans (t := State.judgeWindow 0 (s.reach (s.clock + 1))) ⟨by simp, by simp, by simp, by simp⟩
        (State.settle_receiverKept _)
    · exact .refl _
  · exact .refl s

theorem State.pass_receiverKept (m : Nat) (s : State) : s.ReceiverKept (s.pass m) := by
  unfold State.pass
  refine State.ReceiverKept.trans ?_ (State.reach_receiverKept m _)
  split
  · exact s.missWindow_receiverKept
  · exact .refl s

theorem State.le_pass_clock (m : Nat) (s : State) : m ≤ (s.pass m).clock := State.le_reach_clock m _

/-- The execution of a request is none of the receiver's. -/
theorem State.executed_receiverKept (r : Request) (s : State) : s.ReceiverKept (s.executed r) := by
  have h := State.handle_frame r s
  unfold State.Undisturbed at h
  unfold State.executed Handled.replied
  split
  · exact ⟨by simp [h], by simp [h], by simp [h], by simp [h]⟩
  · exact ⟨by simp [h], by simp [h], by simp [h], by simp [h]⟩

theorem State.serve_receiverKept (n : Nat) (s : State) : s.ReceiverKept (s.serve n) := by
  induction n generalizing s with
  | zero => exact .refl s
  | succ n ih =>
    unfold State.serve
    split
    · refine State.ReceiverKept.trans ?_ (ih _)
      unfold State.executeHead
      split
      · exact .refl s
      · next r rest _ =>
        exact .trans (t := { s with link := { s.link with buffer := rest } }) ⟨rfl, rfl, rfl, le_rfl⟩
          (State.executed_receiverKept r _)
    · split
      · exact .trans ⟨by simp, by simp, by simp, by simp⟩ (ih _)
      · exact .refl s

theorem State.immediate_receiverKept (r : Reply) (s : State) : s.ReceiverKept (s.immediate r) := by
  unfold State.immediate
  split <;> exact ⟨rfl, rfl, rfl, le_rfl⟩

theorem State.joinBuffer_receiverKept (r : Request) (s : State) : s.ReceiverKept (s.joinBuffer r) := by
  unfold State.joinBuffer
  split
  · exact ⟨rfl, rfl, rfl, le_rfl⟩
  · exact s.immediate_receiverKept _

theorem State.acceptFrame_receiverKept (bytes : List Byte) (s : State) : s.ReceiverKept (s.acceptFrame bytes) := by
  unfold State.acceptFrame
  dsimp only
  split
  · exact (s.joinBuffer_receiverKept _).trans (State.serve_receiverKept _ _)
  · exact (s.immediate_receiverKept _).trans (State.serve_receiverKept _ _)

theorem State.takeReceived_receiverKept (events : List RxEvent) (s : State) :
    s.ReceiverKept (s.takeReceived events) := by
  induction events generalizing s with
  | nil => exact .refl s
  | cons e rest ih =>
    cases e with
    | frame bytes => exact (s.acceptFrame_receiverKept bytes).trans (ih _)
    | drop => exact .trans (t := s.discard 1) ⟨rfl, rfl, rfl, le_rfl⟩ (ih _)

/-! ### The silence -/

theorem State.silenceDeadline_hunt {s : State} (h : s.link.held = []) : s.silenceDeadline = none := if_pos h

theorem State.silenceDeadline_frame {s : State} (h : s.link.held ≠ []) :
    s.silenceDeadline = some (s.link.lastByte + 1000) := if_neg h

theorem State.ReceiverKept.silenceDeadline {s t : State} (h : s.ReceiverKept t) :
    t.silenceDeadline = s.silenceDeadline := by
  unfold State.silenceDeadline
  rw [h.held, h.lastByte]

/-- No silence comes in HUNT, nor before 1,000 ticks have passed since the last byte. -/
theorem State.listen_eq_pass {s : State} {m : Nat}
    (h : s.link.held = [] ∨ max s.clock m < s.link.lastByte + 1000) : s.listen m = s.pass m := by
  have hn : (s.silenceDeadline.any fun t => decide (t ≤ max s.clock m)) = false := by
    by_cases hh : s.link.held = []
    · rw [State.silenceDeadline_hunt hh]; rfl
    · have hl := h.resolve_left hh
      rw [State.silenceDeadline_frame hh]
      simpa using hl
  unfold State.listen
  rw [hn]
  rfl

/-- The silence leaves the receiver in HUNT, when it has been waiting for it. -/
theorem State.silenceComes {s : State} (h : s.link.held ≠ []) :
    s.ifDue State.silenceDeadline State.silence =
      (s.pass (s.link.lastByte + 1000)).silence.settle := by
  have hp := s.pass_receiverKept (s.link.lastByte + 1000)
  unfold State.ifDue State.atDeadline
  rw [State.silenceDeadline_frame h]
  dsimp only
  rw [hp.silenceDeadline, State.silenceDeadline_frame h]
  exact if_pos (by simpa [State.comes] using State.le_pass_clock _ s)

/-- A silence that has come by a moment: what arrives then finds the part as the silence leaves it. -/
theorem State.listen_silence {s u : State} {m : Nat} (h : s.link.held ≠ [])
    (hm : s.link.lastByte + 1000 ≤ max s.clock m)
    (hu : s.ifDue State.silenceDeadline State.silence = u) :
    s.listen m = u.listen m ∧ u.link.held = [] ∧ u.power = s.power := by
  have hk : u.link.held = [] ∧ u.power = s.power := by
    rw [← hu, State.silenceComes h]
    have hp := s.pass_receiverKept (s.link.lastByte + 1000)
    generalize s.pass (s.link.lastByte + 1000) = v at hp
    have hr := State.takeReceived_receiverKept (dropAll v.link.held.length v.link.held) (v.setHeld [])
    have hs := State.settle_receiverKept v.silence
    exact ⟨hs.held.trans hr.held, (hs.power.trans hr.power).trans hp.power⟩
  refine ⟨?_, hk⟩
  rw [State.listen_eq_pass (.inl hk.1)]
  unfold State.listen
  rw [State.silenceDeadline_frame h]
  dsimp only
  rw [if_pos (by simpa using hm), hu]

/-! ### What the receiver does with what arrives -/

/-- Quiet time passes before what arrives, and no silence comes. -/
theorem State.listen_quiet {s : State} {m : Nat} (hq : s.quietUntil m = true)
    (h : s.link.held = [] ∨ max s.clock m < s.link.lastByte + 1000) : s.listen m = s.advance m := by
  rw [State.listen_eq_pass h, State.pass_quiet hq]

theorem State.receiveNow_held {s : State} {bytes held : List Byte} (h : receive s.link.held bytes = (held, [])) :
    s.receiveNow bytes = { s with link := { s.link with held := held, lastByte := s.clock } } := by
  unfold State.receiveNow
  rw [h]
  rfl

theorem State.receiveNow_dropped {s : State} {bytes : List Byte}
    (h : receive s.link.held bytes = ([], [.drop])) :
    s.receiveNow bytes = { s with link :=
      { s.link with held := [], lastByte := s.clock, discards := min 65535 (s.link.discards + 1) } } := by
  unfold State.receiveNow
  rw [h]
  rfl

theorem State.receiveNow_frame {s : State} {bytes frame : List Byte}
    (h : receive s.link.held bytes = ([], [.frame frame])) :
    s.receiveNow bytes =
      State.acceptFrame frame { s with link := { s.link with held := [], lastByte := s.clock } } := by
  unfold State.receiveNow
  rw [h]
  rfl

theorem State.framingError_drops {s : State} {held : List Byte} (hne : s.link.held ≠ [])
    (h : dropFrame s.link.held = (held, [.drop])) :
    s.framingError =
      { s with link := { s.link with held := held, discards := min 65535 (s.link.discards + 1) } } := by
  unfold State.framingError
  rw [if_neg hne, h]
  rfl

/-- The silence at its moment, in quiet time: what it leaves. -/
theorem State.receiverSilence_does {s : State} {n : Nat} (hr : s.isRunning = true)
    (hne : s.link.held ≠ []) (hq : s.quietUntil (s.link.lastByte + 1000) = true)
    (hd : dropAll s.link.held.length s.link.held = List.replicate n .drop) (hn : 0 < n) :
    ∃ t, exec .receiverSilence s = .next t ∧
      t = { s with
        clock := max s.clock (s.link.lastByte + 1000), board := t.board, link := t.link } ∧
      t.link.held = [] ∧ t.link.discards = min 65535 (s.link.discards + n) ∧
      t.link.buffer = s.link.buffer ∧ s.boardKept t := by
  have hdrops : ∀ (n : Nat) (v : State), 0 < n → v.takeReceived (List.replicate n .drop) =
      { v with link := { v.link with discards := min 65535 (v.link.discards + n) } } := by
    intro n
    induction n with
    | zero => intro v hn; omega
    | succ n ih =>
      intro v _
      rw [List.replicate_succ]
      show (v.discard 1).takeReceived _ = _
      by_cases h0 : n = 0
      · subst h0; rfl
      rw [ih _ (by omega)]
      unfold State.discard
      dsimp only
      rw [show min 65535 (min 65535 (v.link.discards + 1) + n) = min 65535 (v.link.discards + (n + 1)) by omega]
  have he : exec .receiverSilence s = .next (s.pass (s.link.lastByte + 1000)).silence.settle := by
    show Host.Outcome.next (s.whenRunning _) = _
    rw [State.whenRunning_running _ hr, State.silenceComes hne]
  rw [State.pass_quiet hq] at he
  have hs : (s.advance (s.link.lastByte + 1000)).silence = { s with
      clock := max s.clock (s.link.lastByte + 1000)
      link := { s.link with held := [], discards := min 65535 (s.link.discards + n) } } := by
    unfold State.silence
    rw [show (s.advance (s.link.lastByte + 1000)).link.held = s.link.held from rfl, hd, hdrops n _ hn]
    rfl
  rw [hs] at he
  generalize hv : ({ s with
      clock := max s.clock (s.link.lastByte + 1000)
      link := { s.link with held := [], discards := min 65535 (s.link.discards + n) } } : State) = v at he
  have l := State.settle_leaves v
  have k := State.settle_link v
  generalize v.settle = t at he l k
  subst hv
  exact ⟨t, he, l.eq, k.1, k.2.2.1, k.2.2.2.1, l.board⟩

/-- A frame that is dropped for its CRC, with no second start byte in it. -/
theorem receive_crcFails {body : List Byte} (h6 : 6 ≤ body.length) (hw : wordAt body 2 ≤ 512)
    (hl : body.length = 6 + wordAt body 2) (hs : ∀ b ∈ body, b ≠ 0xA5#8)
    (hc : (crc16 (body.take (body.length - 2))).toNat ≠ wordAt body (body.length - 2)) :
    receive [] (0xA5#8 :: body) = ([], [.drop]) := by
  obtain ⟨most, b, rfl⟩ := List.eq_nil_or_concat' body |>.resolve_left (by rintro rfl; simp at h6)
  have hprogress : FrameInProgress ([] ++ 0xA5#8 :: most) := by
    refine ⟨rfl, ?_⟩
    rw [List.nil_append]
    unfold Unfinished
    by_cases h5 : (0xA5#8 :: most).length < 5
    · exact .inl h5
    rw [wordAt_cons, ← wordAt_append [b] (by simp at h5; omega)]
    simp only [List.length_append, List.length_cons, List.length_nil] at hl ⊢
    omega
  obtain ⟨fuel, hr⟩ := receive_last (b := b) hprogress
  rw [show 0xA5#8 :: (most ++ [b]) = (0xA5#8 :: most) ++ [b] from rfl, hr, receiveBytes_dropped]
  · rw [receiveByte_last (.inl (by simp)) (by simpa [wordAt_cons] using hw)
      (by simp only [List.nil_append, List.cons_append, wordAt_cons, List.length_cons]; omega), if_neg]
    intro hp
    unfold crcPasses at hp
    simp only [List.nil_append, List.cons_append, List.drop_one, List.tail_cons, beq_iff_eq] at hp
    rw [List.dropLast_eq_take, List.dropLast_eq_take, List.take_take, List.length_take] at hp
    rw [show (0xA5#8 :: (most ++ [b])).length - 2 = ((most ++ [b]).length - 2) + 1 by
      simp only [List.length_cons]; omega, wordAt_cons] at hp
    refine hc ?_
    rw [← hp]
    congr 3
    omega
  · simpa using hs

/-- Settles O33. -/
theorem receiverTakesAndDropsFrames : Obligations.ReceiverTakesAndDropsFrames := by
  refine ⟨fun s b m hr hq hh => ?_, fun s m rest hr hq hh hs hm => ?_, fun s rest hr hh hs hq => ?_,
    fun s m kind tag hi lo hr hq hh hlen hk ht hhi hlo hm => ?_, fun s b m held hr hq hne he hl hm => ?_,
    fun s m body hr hq hh h6 hw hl hs hc => ?_, fun s m skipped held hr hq hh hs hhead hl hm => ?_,
    fun s skipped rest hr hh hs hl hq => ?_, fun s u m hr hne hm he => ?_⟩
  · have hrx : receive [] [b] = (if b = 0xA5#8 then [b] else [], []) := by
      by_cases hb : b = 0xA5#8
      · rw [if_pos hb]
        exact receive_more (bytes := [b]) ⟨by simp [hb], .inl (by simp)⟩
      · rw [if_neg hb]
        exact receive_hunt (by simpa using hb)
    show Host.Outcome.next (s.whenRunning _) = _
    rw [State.whenRunning_running _ hr, State.listen_quiet hq (.inl hh),
      State.receiveNow_held (by rw [show (s.advance m).link.held = s.link.held from rfl, hh]; exact hrx)]
    rfl
  · show Host.Outcome.next (s.whenRunning _) = _
    rw [State.whenRunning_running _ hr, State.listen_quiet hq (.inr hm),
      State.framingError_drops (s := s.advance m) (by simp [State.advance, hh])
        (by rw [show (s.advance m).link.held = s.link.held from rfl, hh]; exact dropFrame_hunt hs)]
    rfl
  · refine State.receiverSilence_does (n := 1) hr (by simp [hh]) hq ?_ (by omega)
    rw [hh, List.length_cons, dropAll_cons (by simp), dropFrame_hunt hs, dropAll_nil]
    rfl
  · have hrx : receive s.link.held [lo] = ([], [.drop]) := by
      have hp : FrameInProgress (s.link.held ++ []) := ⟨by simp [hh], .inl (by simp [hh])⟩
      obtain ⟨fuel, hrec⟩ := receive_last (b := lo) hp
      rw [List.nil_append] at hrec
      rw [hrec, hh, receiveBytes_dropped]
      · exact receiveByte_tooLong (.inl (by simp)) (by simp) (by simpa [wordAt, byteAt] using hlen)
      · simpa using ⟨hk, ht, hhi, hlo⟩
    have htl : s.link.tooLong lo = true := by
      unfold Link.tooLong statedLength
      rw [hh]
      simpa [wordAt, byteAt, Config.payloadMax] using hlen
    show Host.Outcome.next (s.whenRunning _) = _
    rw [State.whenRunning_running _ hr, if_pos htl, State.listen_quiet hq (.inr hm),
      State.receiveNow_dropped (by exact hrx)]
    rfl
  · subst he
    show Host.Outcome.next (s.whenRunning _) = _
    rw [State.whenRunning_running _ hr, State.listen_quiet hq (.inr hm),
      State.receiveNow_held (by exact receive_byte (.inl hne) hl)]
    rfl
  · show Host.Outcome.next (s.whenRunning _) = _
    rw [State.whenRunning_running _ hr, State.listen_quiet hq (.inl hh),
      State.receiveNow_dropped (by
        rw [show (s.advance m).link.held = s.link.held from rfl, hh]; exact receive_crcFails h6 hw hl hs hc)]
    rw [← hh]
    rfl
  · show Host.Outcome.next (s.whenRunning _) = _
    rw [State.whenRunning_running _ hr, State.listen_quiet hq (.inr hm),
      State.framingError_drops (s := s.advance m) (by simp [State.advance, hh])
        (by rw [show (s.advance m).link.held = s.link.held from rfl, hh]; exact dropFrame_again hs ⟨hhead, hl⟩)]
    rfl
  · have hrest : FrameInProgress (0xA5#8 :: rest) := by
      refine ⟨rfl, ?_⟩
      unfold Unfinished
      rw [wordAt_cons, List.length_cons]
      omega
    refine State.receiverSilence_does (n := 2) hr (by simp [hh]) hq ?_ (by omega)
    rw [hh, List.length_cons, dropAll_cons (by simp),
      dropFrame_again (fun b hb => hs b (by simp [hb])) hrest, List.length_append, List.length_cons,
      ← Nat.add_assoc, dropAll_cons (by simp), dropFrame_hunt (fun b hb => hs b (by simp [hb])), dropAll_nil]
    rfl
  · have hu : s.ifDue State.silenceDeadline State.silence = u := by
      have he' : Host.Outcome.next (s.whenRunning _) = Host.Outcome.next u := he
      rw [State.whenRunning_running _ hr] at he'
      exact Host.Outcome.next.inj he'
    obtain ⟨hl, hh, hp⟩ := State.listen_silence hne hm hu
    have hr' : u.isRunning = true := by unfold State.isRunning at *; rwa [hp]
    have arrives : ∀ f : State → State,
        Host.Outcome.next (s.whenRunning fun s => f (s.listen m)) =
          (Host.Outcome.next (u.whenRunning fun s => f (s.listen m)) : Host.Outcome State Fault Refusal) := by
      intro f
      rw [State.whenRunning_running _ hr, State.whenRunning_running _ hr', hl]
    refine ⟨fun b => arrives _, arrives _, fun bytes => arrives _, fun lo h4 hw => ?_⟩
    have htl : s.link.tooLong lo = true := by
      unfold Link.tooLong statedLength
      rw [h4]
      exact decide_eq_true hw
    refine Eq.trans ?_ (arrives fun s => s.receiveNow [lo])
    show Host.Outcome.next (s.whenRunning _) = _
    rw [State.whenRunning_running _ hr, State.whenRunning_running _ hr, if_pos htl]

end Sys2Proof.Machine

/-!
PROOFS. What the receiver holds decides nothing of what time brings: the two pass by each other.
-/

namespace Sys2Proof.Machine

/-- The state with other bytes in the receiver, and another time of the last byte. -/
def State.hears (held : List Byte) (last : Nat) (s : State) : State :=
  { s with link := { s.link with held := held, lastByte := last } }

section
variable (a : List Byte) (x : Nat) (s : State)

/-! ### Each operation that a limit, or a window of the reference monitor, goes through -/

theorem State.notify_hears (b : NoticeBody) : (s.hears a x).notify b = (s.notify b).hears a x := by
  unfold State.notify
  dsimp only
  rw [apply_ite (State.hears a x)]
  rfl

theorem State.updLane_hears (lane : Lane) (f : LaneRecord → LaneRecord) :
    (s.hears a x).updLane lane f = (s.updLane lane f).hears a x := rfl

theorem State.notifyTimebase_hears (p : TimebaseState) (c : TimebaseCause) :
    (s.hears a x).notifyTimebase p c = (s.notifyTimebase p c).hears a x := State.notify_hears ..

theorem State.notifyHeat_hears (p : RaceState) (c : HeatCause) :
    (s.hears a x).notifyHeat p c = (s.notifyHeat p c).hears a x := State.notify_hears ..

theorem State.enterLocked_hears (c : TimebaseCause) :
    (s.hears a x).enterLocked c = (s.enterLocked c).hears a x :=
  State.notifyTimebase_hears a x { s with timebase :=
        { s.timebase with state := .locked, steering := s.timebase.source == .external } } _ _

theorem State.holdoverReturn_hears : (s.hears a x).holdoverReturn = s.holdoverReturn.hears a x := by
  unfold State.holdoverReturn
  rw [State.enterLocked_hears]
  exact (apply_ite (State.hears a x) ..).symm

theorem State.badWindowEnd_hears : (s.hears a x).badWindowEnd = s.badWindowEnd.hears a x := by
  unfold State.badWindowEnd
  dsimp only
  rw [apply_ite (State.hears a x), ← State.notifyTimebase_hears]
  rfl

theorem State.notifyPlaces_hears (c : PlacesCause) (before : Vector LaneRecord 10) :
    (s.hears a x).notifyPlaces c before = (s.notifyPlaces c before).hears a x := by
  unfold State.notifyPlaces
  rw [show (s.hears a x).lanes = s.lanes from rfl]
  split
  · rfl
  · exact State.notify_hears ..

theorem State.placeFinish_hears (lane : Lane) (official : Nat) :
    (s.hears a x).placeFinish lane official = (s.placeFinish lane official).hears a x :=
  State.notifyPlaces_hears a x (s.setOrder _) _ _

theorem State.notifyReactions_hears (lanes : List Lane) :
    (s.hears a x).notifyReactions lanes = (s.notifyReactions lanes).hears a x := by
  unfold State.notifyReactions
  split
  · rfl
  · exact State.notify_hears ..

theorem State.notOnPlatform_hears (lane : Lane) :
    (s.hears a x).notOnPlatform lane = (s.notOnPlatform lane).hears a x := by
  unfold State.notOnPlatform
  rw [apply_ite (State.hears a x), ← State.notifyReactions_hears]
  rfl

theorem State.giveVerdict_hears (h : HeatRecord) (lane : Lane) (r : ExchangeRecord) (c : SettleCause) :
    (s.hears a x).giveVerdict h lane r c = (s.giveVerdict h lane r c).hears a x := by
  unfold State.giveVerdict
  dsimp only
  rw [apply_ite (State.hears a x), ← State.notify_hears]
  rfl

theorem State.settlePending_hears (h : HeatRecord) (lane : Lane) (c : SettleCause) :
    (s.hears a x).settlePending h lane c = (s.settlePending h lane c).hears a x := by
  unfold State.settlePending
  rw [show (s.hears a x).lanes = s.lanes from rfl]
  generalize (s.lanes[lane].exchanges.filter fun r => r.verdict == .pending) = l
  induction l generalizing s with
  | nil => rfl
  | cons r rest ih =>
    rw [List.foldl_cons, List.foldl_cons, ← ih]
    exact congrArg (fun u => List.foldl _ u rest) (State.giveVerdict_hears a x s h lane _ c)

theorem State.evaluateExchange_hears (h : HeatRecord) (lane : Lane) (leg : Nat) (c : SettleCause) :
    (s.hears a x).evaluateExchange h lane leg c = (s.evaluateExchange h lane leg c).hears a x := by
  unfold State.evaluateExchange
  rw [show (s.hears a x).lanes = s.lanes from rfl]
  split
  · rfl
  · rw [apply_ite (State.hears a x), ← State.giveVerdict_hears]

theorem State.legEndClosed_hears (h : HeatRecord) (lane : Lane) (leg : Nat) (source : OfficialSource)
    (p : Option Nat) (c : SettleCause) :
    (s.hears a x).legEndClosed h lane leg source p c = (s.legEndClosed h lane leg source p c).hears a x := by
  unfold State.legEndClosed
  rw [show (s.hears a x).lanes = s.lanes from rfl]
  split
  · rfl
  · dsimp only
    rw [← State.evaluateExchange_hears]
    rfl

theorem State.closeLegEnd_hears (h : HeatRecord) (lane : Lane) (w : FinishWindow) :
    (s.hears a x).closeLegEnd h lane w = (s.closeLegEnd h lane w).hears a x := by
  unfold State.closeLegEnd State.sendSplit
  dsimp only
  rw [← State.legEndClosed_hears, ← State.notify_hears]
  rfl

theorem State.startHold_hears : (s.hears a x).startHold = s.startHold.hears a x := by
  unfold State.startHold
  rw [apply_ite (State.hears a x)]
  rfl

theorem State.closeFinal_hears (h : HeatRecord) (lane : Lane) (w : FinishWindow) (c : CloseCause) :
    (s.hears a x).closeFinal h lane w c = (s.closeFinal h lane w c).hears a x := by
  unfold State.closeFinal
  dsimp only
  rw [show (s.hears a x).deriveWindow h lane w = s.deriveWindow h lane w from rfl]
  split
  · rw [← State.startHold_hears, ← State.placeFinish_hears, ← State.notify_hears]
    rfl
  · rfl

theorem State.closeWindow_hears (h : HeatRecord) (c : CloseCause) (lane : Lane) :
    (s.hears a x).closeWindow h c lane = (s.closeWindow h c lane).hears a x := by
  unfold State.closeWindow
  dsimp only
  rw [show (s.hears a x).lanes = s.lanes from rfl]
  split
  · rfl
  · split
    · rfl
    · exact State.closeLegEnd_hears ..
    · exact State.closeFinal_hears ..

/-- What passes by for each lane passes by for all. -/
theorem State.eachLane_hears {f : Lane → State → State}
    (hf : ∀ lane s, f lane (State.hears a x s) = (f lane s).hears a x) :
    (s.hears a x).eachLane f = (s.eachLane f).hears a x := by
  unfold State.eachLane
  induction allLanes generalizing s with
  | nil => rfl
  | cons lane rest ih => rw [List.foldl_cons, List.foldl_cons, hf, ih]

theorem State.closeOpen_hears (h : HeatRecord) (lane : Lane) :
    State.closeOpen h lane (s.hears a x) = (State.closeOpen h lane s).hears a x := by
  unfold State.closeOpen
  rw [State.closeWindow_hears, apply_ite (State.hears a x)]

theorem State.closeRacing_hears (h : HeatRecord) (lane : Lane) :
    State.closeRacing h lane (s.hears a x) = (State.closeRacing h lane s).hears a x := by
  unfold State.closeRacing
  rw [State.updLane_hears, State.notOnPlatform_hears, apply_ite (State.hears a x)]
  rfl

theorem State.endHeat_hears (h : HeatRecord) (c : HeatCause) :
    (s.hears a x).endHeat h c = (s.endHeat h c).hears a x := by
  have hl : (s.hears a x).lanesSettled h = (s.lanesSettled h).hears a x := by
    unfold State.lanesSettled State.closeWindows State.closeLanes State.settleExchanges
    rw [show (s.hears a x).disarmPads = s.disarmPads.hears a x from rfl,
      State.eachLane_hears _ _ _ fun lane s => State.closeOpen_hears a x s h lane,
      State.eachLane_hears _ _ _ fun lane s => State.closeRacing_hears a x s h lane,
      State.eachLane_hears _ _ _ fun lane s => State.settlePending_hears a x s h lane _]
  rw [State.endHeat_eq, State.endHeat_eq, hl]
  generalize s.lanesSettled h = u
  rw [← State.holdoverReturn_hears, ← State.notifyHeat_hears]
  rfl

theorem State.disarmHeat_hears (c : HeatCause) :
    (s.hears a x).disarmHeat c = (s.disarmHeat c).hears a x := by
  unfold State.disarmHeat
  dsimp only
  rw [← State.holdoverReturn_hears, ← State.notifyHeat_hears]
  cases hc : s.heat.current with
  | none => rw [show (s.hears a x).heat.current = none from hc]; rfl
  | some h => rw [show (s.hears a x).heat.current = some h from hc]; rfl

theorem State.overtime_hears : (s.hears a x).overtime = s.overtime.hears a x := by
  unfold State.overtime
  rw [show (s.hears a x).heat = s.heat from rfl]
  split
  · rfl
  · exact State.endHeat_hears a x { s with heat := { s.heat with flags := { s.heat.flags with overtime := true } } } _ _

theorem State.limitHeat_hears : (s.hears a x).limitHeat = s.limitHeat.hears a x := by
  unfold State.limitHeat
  rw [show (s.hears a x).heat = s.heat from rfl]
  split
  · exact State.disarmHeat_hears a x s _
  · exact State.endHeat_hears a x s _ _
  · rfl

theorem State.abandonLeveling_hears : (s.hears a x).abandonLeveling = s.abandonLeveling.hears a x := by
  unfold State.abandonLeveling
  rw [show (s.hears a x).wall = s.wall from rfl]
  split
  · exact State.notify_hears a x { s with wall := { s.wall with level := .idle, results := [] } } _
  · rfl

theorem State.endProbe_hears (c : Bool) : (s.hears a x).endProbe c = (s.endProbe c).hears a x := by
  unfold State.endProbe
  rw [show (s.hears a x).scanner = s.scanner from rfl]
  split <;> rfl

theorem State.reachLimit_hears : (s.hears a x).reachLimit = s.reachLimit.hears a x := by
  unfold State.reachLimit
  rw [show (s.hears a x).stopTimebase = s.stopTimebase.hears a x from rfl, State.limitHeat_hears,
    State.abandonLeveling_hears, State.endProbe_hears, State.notifyTimebase_hears]
  rfl

theorem State.settle_hears : (s.hears a x).settle = s.settle.hears a x := by
  have he : (s.hears a x).eventEnd = s.eventEnd.hears a x := rfl
  unfold State.settle
  rw [he]
  generalize s.eventEnd = u
  unfold State.transmit
  rw [apply_ite (State.hears a x)]
  refine congrArg (fun v => if u.link.canBegin = true then v else u.hears a x) ?_
  show ({ u with link := Link.begin u.clock { u.link with held := a, lastByte := x } } : State) =
    State.hears a x { u with link := u.link.begin u.clock }
  unfold State.hears Link.begin
  dsimp only
  split <;> rfl

/-! ### Time -/

theorem State.reach_hears (m : Nat) : (s.hears a x).reach m = (s.reach m).hears a x := by
  have race : ∀ u : State, (u.hears a x).takeRaceLimit = u.takeRaceLimit.hears a x := by
    intro u
    unfold State.takeRaceLimit
    rw [show (u.hears a x).raceLimitDeadline = u.raceLimitDeadline from rfl]
    split
    · rfl
    · rw [← State.settle_hears, ← State.overtime_hears]
      rfl
  have master : ∀ u : State, (u.hears a x).takeMasterLimit = u.takeMasterLimit.hears a x := fun u => by
    unfold State.takeMasterLimit
    rw [State.reachLimit_hears, State.settle_hears]
  unfold State.reach
  dsimp only
  rw [show (s.hears a x).raceLimitBy m = s.raceLimitBy m from rfl, race,
    ← apply_ite (State.hears a x)]
  generalize (if s.raceLimitBy m = true then s.takeRaceLimit else s) = u
  rw [show (u.hears a x).masterLimitBy m = u.masterLimitBy m from rfl, master,
    ← apply_ite (State.hears a x)]
  rfl

theorem State.missWindow_hears : (s.hears a x).missWindow = s.missWindow.hears a x := by
  unfold State.missWindow State.windowEnds
  dsimp only
  rw [show (s.hears a x).monitoring = s.monitoring from rfl, show (s.hears a x).clock = s.clock from rfl,
    State.reach_hears, apply_ite (State.hears a x)]
  generalize s.reach (s.clock + 1) = u
  rw [State.judgeWindow_bad _ (.inl (by omega)), State.judgeWindow_bad _ (.inl (by omega)),
    State.badWindowEnd_hears, State.settle_hears, apply_ite (State.hears a x)]
  rfl

theorem State.pass_hears (m : Nat) : (s.hears a x).pass m = (s.pass m).hears a x := by
  unfold State.pass
  rw [State.missWindow_hears, show ((s.hears a x).watches && decide ((s.hears a x).clock < m)) =
    (s.watches && decide (s.clock < m)) from rfl, ← apply_ite (State.hears a x), State.reach_hears]

end

end Sys2Proof.Machine

/-!
PROOFS. Requests on the console line: their frames, the buffer, the immediate replies, and the frames that
the part sends.
-/

namespace Sys2Proof.Machine

/-! ### The moment of an arrival -/

theorem State.takeRaceLimit_clock {m : Nat} {s : State} (h : s.raceLimitBy m = true) :
    s.clock ≤ s.takeRaceLimit.clock ∧ s.takeRaceLimit.clock ≤ max s.clock m := by
  unfold State.raceLimitBy at h
  unfold State.takeRaceLimit
  cases hd : s.raceLimitDeadline with
  | none => exact ⟨le_rfl, Nat.le_max_left _ _⟩
  | some t =>
    rw [hd] at h
    have ht : t ≤ max s.clock m := (of_decide_eq_true h).1
    simp only [State.settle_leaves _ |>.clock, State.overtime_frame, State.advance]
    omega

theorem State.takeMasterLimit_clock {m : Nat} {s : State} (h : s.masterLimitBy m = true) :
    s.clock ≤ s.takeMasterLimit.clock ∧ s.takeMasterLimit.clock ≤ max s.clock m := by
  have ht : Config.masterLimit ≤ max s.clock m := by
    unfold State.masterLimitBy at h
    rw [Bool.and_eq_true] at h
    exact of_decide_eq_true h.2
  have hc : s.takeMasterLimit.clock = max s.clock Config.masterLimit :=
    (State.settle_leaves _).clock.trans (State.reachLimit_makes s).1
  omega

/-- Time passes up to the moment, or is past it. -/
theorem State.reach_clock (m : Nat) (s : State) : (s.reach m).clock = max s.clock m := by
  have race : s.clock ≤ (if s.raceLimitBy m then s.takeRaceLimit else s).clock ∧
      (if s.raceLimitBy m then s.takeRaceLimit else s).clock ≤ max s.clock m := by
    split
    · next h => exact State.takeRaceLimit_clock h
    · exact ⟨le_rfl, Nat.le_max_left _ _⟩
  unfold State.reach
  dsimp only
  generalize (if s.raceLimitBy m then s.takeRaceLimit else s) = u at race
  show max _ m = _
  split
  · next h =>
    have := State.takeMasterLimit_clock h
    omega
  · omega

theorem State.missWindow_clock (s : State) :
    s.clock ≤ s.missWindow.clock ∧ s.missWindow.clock ≤ s.clock + 1 := by
  have h := State.reach_clock (s.clock + 1) s
  unfold State.missWindow State.windowEnds
  dsimp only
  split
  · split
    · rw [(State.settle_leaves _).clock]
      simp
      omega
    · omega
  · omega

theorem State.pass_clock (m : Nat) (s : State) : (s.pass m).clock = max s.clock m := by
  unfold State.pass
  rw [State.reach_clock]
  split
  · next h =>
    have := s.missWindow_clock
    simp at h
    omega
  · rfl

/-! ### The server at rest -/

/-- With the line taken and nothing to execute, nothing is served. -/
theorem State.serve_blocked {s : State} (n : Nat) (hx : s.link.canExecute = false)
    (hl : s.link.line ≠ none) : s.serve n = s := by
  have hb : s.link.canBegin = false := by
    unfold Link.canBegin
    cases h : s.link.line with
    | none => exact absurd h hl
    | some f => rfl
  cases n with
  | zero => rfl
  | succ n => rw [State.serve, hx, hb]; rfl

/-- With no request waiting, the line takes one frame. -/
theorem State.serve_transmit {s : State} (hb : s.link.buffer = []) : s.serve 2 = s.transmit := by
  have hx : s.link.canExecute = false := by simp [Link.canExecute, hb]
  have hx' : s.transmit.link.canExecute = false := by simp [Link.canExecute, hb]
  rw [State.serve, hx, if_neg (by simp)]
  split
  · next hc =>
    refine State.serve_blocked 1 hx' ?_
    unfold State.transmit
    rw [if_pos hc]
    unfold Link.canBegin at hc
    unfold Link.begin
    dsimp only
    split <;> simp_all
  · next hc => unfold State.transmit; rw [if_neg hc]

theorem Link.canExecute_eq_false {l : Link}
    (h : l.buffer = [] ∨ l.executionWaits = true ∨ l.restarting = true) : l.canExecute = false := by
  unfold Link.canExecute
  rcases h with h | h | h <;> simp [h]

/-- An immediate reply is made, or counts as a discarded frame when six wait (R175, R177). -/
def Link.immediate (r : Reply) (l : Link) : Link :=
  if (l.replies.filter fun r => r.cls == .immediate).length < Config.immediateMax then
    { l with replies := l.replies ++ [r] }
  else { l with discards := min 65535 (l.discards + 1) }

theorem State.immediate_eq (r : Reply) (s : State) :
    s.immediate r = { s with link := s.link.immediate r } := by
  unfold State.immediate Link.immediate
  split <;> rfl

theorem State.immediate_served {s : State} {r : Reply} (hr : r.cls = .immediate) (hl : s.link.line ≠ none)
    (h : s.link.buffer = [] ∨ s.link.executionWaits = true ∨ s.link.restarting = true) :
    (s.immediate r).serveAll = { s with link := s.link.immediate r } := by
  rw [State.immediate_eq]
  have hk : (s.link.immediate r).buffer = s.link.buffer ∧ (s.link.immediate r).line = s.link.line ∧
      (s.link.immediate r).restarting = s.link.restarting ∧
      (s.link.immediate r).executionWaits = s.link.executionWaits := by
    unfold Link.immediate
    split
    · exact ⟨rfl, rfl, rfl, by simp [Link.executionWaits, hr]⟩
    · exact ⟨rfl, rfl, rfl, rfl⟩
  obtain ⟨kb, kl, kr, kw⟩ := hk
  refine State.serve_blocked _ (Link.canExecute_eq_false ?_) ?_
  · rw [kb, kw, kr]; exact h
  · rw [kl]; exact hl

/-! ### A request's frame -/

theorem requestKindOf_code (kind : RequestKind) : requestKindOf kind.code = some kind := by
  cases kind <;> decide

theorem mem_allRequestKinds (kind : RequestKind) : kind ∈ allRequestKinds := by cases kind <;> decide

theorem requestKindOf_unknown {code : Byte} (h : ∀ kind : RequestKind, kind.code ≠ code) :
    requestKindOf code = none := by
  unfold requestKindOf
  simpa using fun k _ => h k

theorem consoleFrame_payload (kind tag : Byte) (payload : List Byte) :
    ((consoleFrame kind tag payload).drop 5).dropLast.dropLast = payload := by
  rw [consoleFrame_eq]
  generalize (crc16 (frameBody kind tag payload)).toNat = c
  exact natBytes_two_dropLast payload c

theorem State.acceptFrame_request (kind : RequestKind) (tag : Byte) (payload : List Byte) (s : State) :
    s.acceptFrame (consoleFrame kind.code tag payload) = s.submit ⟨kind, tag, payload⟩ := by
  unfold State.acceptFrame
  dsimp only
  rw [consoleFrame_payload, show (consoleFrame kind.code tag payload).getD 1 0 = kind.code from rfl,
    requestKindOf_code]
  rfl

/-- A frame that the receiver completes with bytes that come before a silence. -/
theorem State.receives_request {s : State} {kind : RequestKind} {tag : Byte} {payload bytes : List Byte}
    {m : Nat} (hr : s.isRunning = true)
    (hquiet : s.link.held = [] ∨ max s.clock m < s.link.lastByte + 1000)
    (hf : s.link.held ++ bytes = consoleFrame kind.code tag payload) (hb : bytes ≠ [])
    (hp : payload.length ≤ 512) :
    (s.listen m).receiveNow bytes = State.request kind m tag payload (s.hears [] (max s.clock m)) := by
  have hh : (s.pass m).link.held = s.link.held := (s.pass_receiverKept m).held
  have hrun : (s.hears [] (max s.clock m)).isRunning = true := hr
  rw [State.listen_eq_pass hquiet, State.receiveNow_frame (by rw [hh]; exact receive_consoleFrame hf hb hp),
    State.acceptFrame_request]
  unfold State.request
  rw [State.whenRunning_running _ hrun, State.pass_hears, ← State.pass_clock m s]
  rfl

/-- Settles O35. -/
theorem requestFrameIsTheRequest : Obligations.RequestFrameIsTheRequest := by
  refine ⟨fun s kind tag payload m hr hh hp => ?_, fun s kind tag payload m hr hq hl hw hb => ?_,
    fun s kind tag payload m hr hq hl hw hb => ?_, fun s kind tag payload b m hr hf hp hm => ?_,
    fun s code tag payload m hr hq hh hp hk hl hw => ?_⟩
  · show Host.Outcome.next (s.whenRunning _) = _
    rw [State.whenRunning_running _ hr, State.receives_request (kind := kind) (tag := tag) hr (.inl hh)
      (by rw [hh]; rfl) (by simp [consoleFrame_eq]) hp]
    unfold State.hears
    rw [← hh]
  · unfold State.request
    rw [State.whenRunning_running _ hr, State.pass_quiet hq]
    unfold State.submit State.joinBuffer
    rw [if_pos (by exact hb)]
    exact State.serve_blocked _ (Link.canExecute_eq_false (.inr hw)) hl
  · unfold State.request
    rw [State.whenRunning_running _ hr, State.pass_quiet hq]
    unfold State.submit State.joinBuffer
    rw [if_neg (by exact Nat.not_lt.2 hb)]
    exact State.immediate_served rfl hl (.inr hw)
  · show Host.Outcome.next (s.whenRunning _) = _
    rw [State.whenRunning_running _ hr,
      State.receives_request (kind := kind) (tag := tag) hr (.inr hm) hf (by simp) hp]
    rfl
  · show Host.Outcome.next (s.whenRunning _) = _
    rw [State.whenRunning_running _ hr, State.listen_quiet hq (.inl hh), State.receiveNow_frame (by
      rw [show (s.advance m).link.held = [] from hh]
      exact receive_consoleFrame (kind := code) (tag := tag) rfl (by simp [consoleFrame_eq]) hp)]
    unfold State.acceptFrame
    dsimp only
    rw [show (consoleFrame code tag payload).getD 1 0 = code from rfl, requestKindOf_unknown hk,
      show (consoleFrame code tag payload).getD 2 0 = tag from rfl]
    dsimp only
    rw [State.immediate_served (r := ⟨.immediate, none, tag, .refused (.unknownRequest code)⟩) rfl
      (by exact hl) (by exact hw)]
    unfold Link.immediate
    rw [← hh]
    rfl

/-! ### What the part sends -/

/-- The end of a frame on the console line, in quiet time: the line is free, and served. -/
theorem State.transmitFrameEnd_does {s : State} {f : TxFrame} {m : Nat} (hr : s.isRunning = true)
    (hl : s.link.line = some f) (hn : s.link.sendsRestart = false)
    (hq : s.quietUntil (max m (f.began + consoleTicks (messageFrame f.message).length)) = true) :
    exec (.transmitFrameEnd m) s = .next (State.serveAll { s with
      clock := max s.clock (max m (f.began + consoleTicks (messageFrame f.message).length))
      link := { s.link with line := none } }) := by
  show Host.Outcome.next (s.whenRunning _) = _
  generalize hd : max m (f.began + consoleTicks (messageFrame f.message).length) = d at hq
  have hdue : (fun s : State => s.transmitDeadline.map (max m)) s = some d := by
    unfold State.transmitDeadline
    dsimp only
    rw [hl]
    exact congrArg some hd
  rw [State.whenRunning_running _ hr, State.atDeadline_quiet _ hdue hq hdue]
  unfold State.lineFree
  rw [show (s.advance d).link.sendsRestart = false from hn]
  rfl

/-- A request's execution leaves the console line with the frame it sends. -/
theorem State.executed_line (r : Request) (s : State) : (s.executed r).link.line = s.link.line := by
  have h := State.handle_frame r s
  unfold State.Undisturbed at h
  unfold State.executed Handled.replied
  split <;> simp [h]

/-- What an execution has answered waits as an execution reply (R176). -/
theorem State.executed_waits {r : Request} {s : State} (h : (s.handle r).answer.isSome = true) :
    (s.executed r).link.executionWaits = true := by
  obtain ⟨a, ha⟩ := Option.isSome_iff_exists.1 h
  unfold State.executed Handled.replied Link.executionWaits
  rw [ha]
  simp

/-- A free line behind which requests wait begins the execution reply, and the oldest request is executed
(R176, R179). -/
theorem State.serve_executes {s u : State} {r : Reply} {replies : List Reply} {q : Request}
    {buffer : List Request} (hl : s.link.line = none) (hrep : s.link.replies = r :: replies)
    (hx : r.cls = .execution) (hxs : ∀ x ∈ replies, x.cls ≠ .execution) (hre : s.link.restarting = false)
    (hb : s.link.buffer = q :: buffer)
    (hu : u = { s with link :=
      { s.link with replies := replies, line := some ⟨.reply r, s.clock⟩, buffer := buffer } })
    (ha : buffer = [] ∨ (u.handle q).answer.isSome = true) (n : Nat) : s.serve (n + 3) = u.executed q := by
  have hx0 : s.link.canExecute = false :=
    Link.canExecute_eq_false (.inr (.inl (by simp [Link.executionWaits, hrep, hx])))
  have hx1 : ({ s.link with replies := replies, line := some ⟨.reply r, s.clock⟩ } : Link).canExecute = true := by
    have hw : replies.any (fun x => x.cls == .execution) = false := by simpa using hxs
    simp [Link.canExecute, Link.executionWaits, hb, hre, hw]
  have hhead : State.executeHead { s with link :=
      { s.link with replies := replies, line := some ⟨.reply r, s.clock⟩ } } = u.executed q := by
    unfold State.executeHead
    dsimp only
    rw [hb, hu]
  rw [State.serve, hx0, if_neg (by simp), if_pos (by simp [Link.canBegin, hl, hrep]),
    State.transmit_reply hl hrep, State.serve, if_pos (by exact hx1), hhead]
  refine State.serve_blocked _ (Link.canExecute_eq_false ?_) ?_
  · rw [State.executed_buffer]
    exact ha.imp (fun h => by rw [hu]; exact h) fun h => .inl (State.executed_waits h)
  · rw [State.executed_line, hu]
    simp

/-- A notice that has just been made, when its event ends: it is completed where it stands (R180). -/
theorem State.eventEnd_notify {b : NoticeBody} {s : State} (hf : s.link.fresh = 0)
    (hb : b.withReasons s.lanes = b) : (s.notify b).eventEnd.link =
      if s.link.notices.length < 64 then { s.link with notices := s.link.notices ++ [⟨s.masterTime, b⟩] }
      else { s.link with notices := s.link.notices.tail ++ [⟨s.masterTime, b⟩], gap := true } := by
  generalize hn : (⟨s.masterTime, b⟩ : Notice) = n
  have hc : n.completed s.lanes = n := by
    subst hn
    unfold Notice.completed
    rw [hb]
  have hseal : ∀ old : List Notice, (old ++ [n]).take ((old ++ [n]).length - 1) ++
      ((old ++ [n]).drop ((old ++ [n]).length - 1)).map (Notice.completed s.lanes) = old ++ [n] := by
    intro old
    simp [hc]
  unfold State.eventEnd State.sealNotices Link.freshNotices
  rw [State.notify_eq, hn]
  unfold Link.note State.boardSettle
  dsimp only
  split
  · next h =>
    rw [if_pos (by exact h), hf, Nat.zero_add, hseal]
  · next h =>
    rw [if_neg (by exact h), hf, Nat.zero_add, hseal, List.drop_one]

/-- The one notice of an event, made while the line is taken (R179, R180). -/
theorem State.settle_notify_taken {b : NoticeBody} {s : State} (hf : s.link.fresh = 0)
    (hb : b.withReasons s.lanes = b) (hl : s.link.line ≠ none) : (s.notify b).settle.link =
      if s.link.notices.length < 64 then { s.link with notices := s.link.notices ++ [⟨s.masterTime, b⟩] }
      else { s.link with notices := s.link.notices.tail ++ [⟨s.masterTime, b⟩], gap := true } := by
  unfold State.settle
  rw [State.transmit_taken (by simpa using hl), State.eventEnd_notify hf hb]

/-- Settles O36. -/
theorem lineFreeBeginsTheNextFrame : Obligations.LineFreeBeginsTheNextFrame := by
  refine ⟨fun s f m hr hl hn hb hq => ?_, fun s u f m r replies q buffer hr hl hn hre hrep hx hxs hbuf hq hu ha => ?_,
    fun s n hr ha hi hq hl hf hn => ?_, fun s body => ⟨fun h => ?_, fun h => ?_⟩⟩
  · have he := State.transmitFrameEnd_does hr hl hn hq
    generalize max s.clock (max m (f.began + consoleTicks (messageFrame f.message).length)) = c at he
    generalize hv : ({ s with clock := c, link := { s.link with line := none } } : State) = v at he
    have hvb : v.link.buffer = [] := by subst hv; exact hb
    have hs : v.serveAll = v.transmit := by
      unfold State.serveAll
      rw [hvb]
      exact State.serve_transmit hvb
    rw [hs] at he
    have ht := State.transmit_eq v
    have hc : v.transmit.clock = c := by rw [ht]; subst hv; rfl
    refine ⟨v.transmit, he, hc, ?_, fun r rest hrep => ?_, fun x rest hrep hnot => ?_, fun hrep hnot => ?_⟩
    · rw [hc, ht]; subst hv; rfl
    · rw [hc, State.transmit_reply (s := v) (by rw [← hv]) (by rw [← hv]; exact hrep), ← hv]
    · rw [hc, State.transmit_notice (s := v) (by rw [← hv]) (by rw [← hv]; exact hrep)
        (by rw [← hv]; exact hnot), ← hv]
    · rw [State.transmit_idle (s := v) (by rw [← hv]; exact hrep) (by rw [← hv]; exact hnot), ← hv]
  · rw [State.transmitFrameEnd_does hr hl hn hq]
    refine congrArg Host.Outcome.next ?_
    have huc := congrArg State.clock hu
    dsimp only at huc
    rw [huc] at hu
    generalize max s.clock (max m (f.began + consoleTicks (messageFrame f.message).length)) = c at hu
    generalize hv : ({ s with clock := c, link := { s.link with line := none } } : State) = v
    have hu' : u = { v with link :=
        { v.link with replies := replies, line := some ⟨.reply r, v.clock⟩, buffer := buffer } } := by
      rw [hu, ← hv]
    rw [show v.serveAll = v.serve (buffer.length + 3) by
      unfold State.serveAll
      rw [← hv]
      exact congrArg (fun l : List Request => State.serve (l.length + 2) _) hbuf]
    exact State.serve_executes (by rw [← hv]) (by rw [← hv]; exact hrep) hx hxs (by rw [← hv]; exact hre)
      (by rw [← hv]; exact hbuf) hu' ha _
  · have hd : s.acquiringDeadline = some s.timebase.acquiringEnd := if_pos ⟨ha, hi⟩
    have he := State.ifDue_does (c := .acquiringIntervalEnd) (State.enterLocked .acquired) hr rfl hd hq
      (if_pos ⟨ha, hi⟩)
    rw [State.enterLocked_internal (s := s.advance _) ha hi] at he
    refine ⟨_, he, fun h => ?_, fun h => ?_⟩
    · refine (State.settle_notify_taken (by exact hf) rfl (by exact hl)).trans ((if_pos (by exact h)).trans ?_)
      rw [hn]
      rfl
    · refine (State.settle_notify_taken (by exact hf) rfl (by exact hl)).trans ((if_neg (by
        show ¬s.link.notices.length < 64
        omega)).trans ?_)
      rw [hn]
      rfl
  · unfold State.notify
    exact if_pos h
  · unfold State.notify
    rw [← List.drop_one]
    exact if_neg (by rw [h]; decide)

end Sys2Proof.Machine

/-!
PROOFS. What the operations on one lane's record make of it, and which notices they make: the reaction, the
exchanges, and the departures of the scanner.
-/

namespace Sys2Proof.Machine

/-! ### One lane's record, and notices -/

/-- The state with another record of a lane. -/
def State.putLane (lane : Lane) (r : LaneRecord) (s : State) : State := { s with lanes := s.lanes.set lane r }

/-- The state with notices made, one behind the other. -/
def State.tell (bodies : List NoticeBody) (s : State) : State :=
  { s with link := s.link.noteAll (bodies.map (Notice.mk s.masterTime)) }

theorem State.putLane_self (lane : Lane) (r : LaneRecord) (s : State) :
    (s.putLane lane r).lanes[lane] = r := set_getElem_self _ _ _

theorem State.putLane_ne {lane l : Lane} (h : l ≠ lane) (r : LaneRecord) (s : State) :
    (s.putLane lane r).lanes[l] = s.lanes[l] := set_getElem_ne h

theorem State.putLane_same (lane : Lane) (s : State) : s.putLane lane s.lanes[lane] = s := by
  unfold State.putLane
  simp

theorem State.putLane_putLane (lane : Lane) (r r' : LaneRecord) (s : State) :
    (s.putLane lane r).putLane lane r' = s.putLane lane r' := by
  unfold State.putLane
  simp

theorem State.tell_nil (s : State) : s.tell [] = s := rfl

theorem State.tell_tell (as bs : List NoticeBody) (s : State) : (s.tell as).tell bs = s.tell (as ++ bs) := by
  unfold State.tell
  rw [List.map_append, Link.noteAll_append]
  rfl

theorem State.putLane_tell (lane : Lane) (r : LaneRecord) (bodies : List NoticeBody) (s : State) :
    (s.tell bodies).putLane lane r = (s.putLane lane r).tell bodies := rfl

theorem State.notify_eq_tell (b : NoticeBody) (s : State) : s.notify b = s.tell [b] := State.notify_eq b s

theorem State.updLane_eq (lane : Lane) (f : LaneRecord → LaneRecord) (s : State) :
    s.updLane lane f = s.putLane lane (f s.lanes[lane]) := rfl

theorem State.tell_lanes (bodies : List NoticeBody) (s : State) : (s.tell bodies).lanes = s.lanes := rfl

theorem State.notifyReaction_eq (lane : Lane) (s : State) :
    s.notifyReactions [lane] = s.tell [.reaction [s.reactionEntry lane]] := State.notify_eq_tell _ s

/-! ### The end of an event on one lane -/

/-- Notices at the end of their event (R180). -/
theorem State.tell_settles (bodies : List NoticeBody) (v : State) : v.EndsTelling bodies (v.tell bodies).settle :=
  State.Emits.settles ⟨rfl, rfl⟩ rfl

/-- Without a notice, nothing comes or goes on a taken line. -/
theorem State.settle_keepsSilent {v s : State} (h : v.link = s.link) : s.keepsSilent v.settle := by
  intro hf hl
  rw [State.settle_link_taken (by rwa [h]) (by rwa [h]), h]

/-- `t` is the end of an event that has changed of `v` one lane's record, and has made these notices. -/
structure State.LaneEnds (lane : Lane) (r : LaneRecord) (bodies : List NoticeBody) (v t : State) : Prop where
  eq : t = { v with lanes := t.lanes, board := t.board, link := t.link }
  record : t.lanes[lane] = r
  others : ∀ l : Lane, l ≠ lane → t.lanes[l] = v.lanes[l]
  board : v.boardKept t
  link : v.linkKept t
  tells : bodies.length ≤ 64 → ∀ b ∈ bodies, t.tells ⟨t.masterTime, b.withReasons t.lanes⟩

theorem State.EndsTelling.laneEnds {lane : Lane} {r : LaneRecord} {bodies : List NoticeBody} {v t : State}
    (h : (v.putLane lane r).EndsTelling bodies t) : v.LaneEnds lane r bodies t := by
  obtain ⟨he, hb, hl⟩ := h.ends
  have hlanes : t.lanes = (v.putLane lane r).lanes := by
    have := congrArg State.lanes he
    exact this
  refine ⟨?_, ?_, fun l hne => ?_, hb, hl, fun hlen b hm => ?_⟩
  · rw [hlanes]; exact he
  · rw [hlanes]; exact State.putLane_self lane r v
  · rw [hlanes]; exact State.putLane_ne hne r v
  · rw [hlanes]; exact h.tells hlen b hm

/-- The end of an event on one lane. -/
theorem State.lane_settles (lane : Lane) (r : LaneRecord) (bodies : List NoticeBody) (v : State) :
    v.LaneEnds lane r bodies ((v.putLane lane r).tell bodies).settle :=
  (State.tell_settles bodies (v.putLane lane r)).laneEnds

/-! ### The reaction of a lane that was not on its platform (R123) -/

/-- The notice of a lane that was not on its platform. -/
def State.absenceNotices (lane : Lane) (r : LaneRecord) (s : State) : List NoticeBody :=
  if r.departures = 0 then
    [.reaction [⟨lane, .absent .notOnPlatform, (s.scanner.channels[lane]).startLoad, r.reasons⟩]]
  else []

theorem State.notOnPlatform_eq (lane : Lane) (s : State) : s.notOnPlatform lane =
    (s.putLane lane (arrivedLane s.lanes[lane])).tell (s.absenceNotices lane s.lanes[lane]) := by
  unfold State.notOnPlatform arrivedLane State.absenceNotices
  split
  · rw [State.notifyReaction_eq]
    unfold State.reactionEntry
    rw [State.updLane_eq, State.putLane_self]
    rfl
  · rw [State.putLane_same]
    rfl

/-! ### A verdict (R128 to R131) -/

/-- A lane's record with the verdict of one of its exchanges. -/
def verdictLane (record : ExchangeRecord) (r : LaneRecord) : LaneRecord :=
  { r with
    exchanges := putExchange record r.exchanges
    reasons := r.reasons.union (verdictReasons record.verdict)
    departures :=
      if record.verdict = .unjudged ∧ r.departures = record.leg then record.leg + 1 else r.departures }

/-- The notice of a verdict, when the heat's notify region lets it through (R130). -/
def verdictNotices (h : HeatRecord) (lane : Lane) (record : ExchangeRecord) (cause : SettleCause)
    (r : LaneRecord) : List NoticeBody :=
  if reportsVerdict h.notify record.verdict then
    [.exchange lane record cause (verdictLane record r).reasons]
  else []

theorem State.giveVerdict_eq (h : HeatRecord) (lane : Lane) (record : ExchangeRecord)
    (cause : SettleCause) (s : State) : s.giveVerdict h lane record cause =
      (s.putLane lane (verdictLane record s.lanes[lane])).tell
        (verdictNotices h lane record cause s.lanes[lane]) := by
  have hs : s.updLane lane (verdictLane record) = s.putLane lane (verdictLane record s.lanes[lane]) := rfl
  have hl := State.putLane_self lane (verdictLane record s.lanes[lane]) s
  unfold State.giveVerdict verdictNotices
  dsimp only
  split
  · rw [State.notify_eq_tell]
    show (State.tell [.exchange lane record cause (State.lanes (s.updLane lane (verdictLane record)))[lane].reasons]
      (s.updLane lane (verdictLane record))) = _
    rw [hs, hl]
  · rfl

/-! ### The exchange of a leg (R126 to R131) -/

/-- The record of a leg stands behind those of other legs. -/
theorem exchangeOf_last {before : List ExchangeRecord} {e : ExchangeRecord} {r : LaneRecord}
    (h : r.exchanges = before ++ [e]) (hb : ∀ x ∈ before, x.leg ≠ e.leg) : exchangeOf e.leg r = some e := by
  unfold exchangeOf
  rw [h, List.find?_append, List.find?_eq_none.2 (by simpa using hb)]
  simp

theorem putExchange_last {before : List ExchangeRecord} {e record : ExchangeRecord}
    (hb : ∀ x ∈ before, x.leg ≠ e.leg) (hr : record.leg = e.leg) :
    putExchange record (before ++ [e]) = before ++ [record] := by
  unfold putExchange
  rw [List.map_append, hr]
  congr 1
  · conv_rhs => rw [← List.map_id before]
    exact List.map_congr_left fun x hx => if_neg (hb x hx)
  · simp

/-- The lane of a verdict on its newest exchange. -/
theorem verdictLane_last {before : List ExchangeRecord} {e record : ExchangeRecord} {r : LaneRecord}
    (h : r.exchanges = before ++ [e]) (hb : ∀ x ∈ before, x.leg ≠ e.leg) (hr : record.leg = e.leg) :
    verdictLane record r = judgedLane before record r := by
  unfold verdictLane judgedLane
  rw [h, putExchange_last hb hr]
  cases hv : record.verdict <;> simp [verdictReasons, ReviewReasons.union, ReviewReasons.onlyEarlyExchange,
    ReviewReasons.onlyUnjudged, ReviewReasons.empty]

/-- What stays PENDING is no review reason, and counts no departure. -/
theorem judgedLane_pending {before : List ExchangeRecord} {e : ExchangeRecord} (r : LaneRecord)
    (hv : e.verdict = .pending) : judgedLane before e r = { r with exchanges := before ++ [e] } := by
  have h1 : (e.verdict == .early) = false := by rw [hv]; rfl
  have h2 : (e.verdict == .unjudged) = false := by rw [hv]; rfl
  unfold judgedLane
  rw [h1, h2, if_neg (by rw [hv]; simp), Bool.or_false, Bool.or_false]

theorem reportsVerdict_pending (region : NotifyRegion) : reportsVerdict region .pending = false := by
  cases region <;> rfl

theorem reportsVerdict_unjudged {region : NotifyRegion} :
    reportsVerdict region .unjudged = true ↔ region ≠ .nothing := by
  cases region <;> simp [reportsVerdict]

/-- A departure held at a closed leg end is judged as one that comes then. -/
theorem evaluated_eq (h : HeatRecord) {e : ExchangeRecord} {d : Int} (hd : e.departure = some d) :
    evaluated h e = takenOver h e d := by
  obtain ⟨leg, legEnd, incoming, departure, margin, verdict⟩ := e
  subst hd
  cases legEnd <;> cases incoming <;> rfl

/-- What an exchange becomes when its takeover is complete and its leg end has closed. -/
def judgedExchange (h : HeatRecord) (e : ExchangeRecord) : ExchangeRecord :=
  match e.departure with
  | some d => takenOver h e d
  | none => e

theorem takenOver_leg (h : HeatRecord) (e : ExchangeRecord) (d : Int) : (takenOver h e d).leg = e.leg := by
  unfold takenOver
  split <;> rfl

theorem judgedExchange_leg (h : HeatRecord) (e : ExchangeRecord) : (judgedExchange h e).leg = e.leg := by
  unfold judgedExchange
  split
  · exact takenOver_leg ..
  · rfl

/-- A lane's newest exchange, PENDING behind a closed leg end, is judged when its departure is held. -/
theorem State.evaluateExchange_eq {h : HeatRecord} {lane : Lane} {s : State}
    {before : List ExchangeRecord} {e : ExchangeRecord} (cause : SettleCause)
    (hx : (s.lanes[lane]).exchanges = before ++ [e]) (hb : ∀ x ∈ before, x.leg ≠ e.leg)
    (hv : e.verdict = .pending) (hl : e.legEnd ≠ .opened) :
    s.evaluateExchange h lane e.leg cause =
      (s.putLane lane (judgedLane before (judgedExchange h e) s.lanes[lane])).tell
        (verdictNotices h lane (judgedExchange h e) cause s.lanes[lane]) := by
  unfold State.evaluateExchange
  rw [exchangeOf_last hx hb]
  dsimp only
  have hj := judgedExchange_leg h e
  cases hd : e.departure with
  | none =>
    have hj : judgedExchange h e = e := by unfold judgedExchange; rw [hd]
    rw [if_neg (by simp), hj, ← verdictLane_last hx hb rfl]
    have hn : verdictNotices h lane e cause s.lanes[lane] = [] := by
      unfold verdictNotices
      rw [hv, reportsVerdict_pending]
      rfl
    have hr : verdictLane e s.lanes[lane] = s.lanes[lane] := by
      rw [verdictLane_last hx hb rfl, judgedLane_pending _ hv, ← hx]
    rw [hn, hr, State.putLane_same]
    rfl
  | some d =>
    have he : evaluated h e = judgedExchange h e := by
      unfold judgedExchange
      rw [hd]
      exact evaluated_eq h hd
    rw [if_pos ⟨hv, by simp, hl⟩, he, State.giveVerdict_eq, verdictLane_last hx hb hj]

/-- An edge case of the two: an exchange whose leg end is still open is not judged. -/
theorem State.evaluateExchange_open {h : HeatRecord} {lane : Lane} {s : State}
    {before : List ExchangeRecord} {e : ExchangeRecord} (cause : SettleCause)
    (hx : (s.lanes[lane]).exchanges = before ++ [e]) (hb : ∀ x ∈ before, x.leg ≠ e.leg)
    (hl : e.legEnd = .opened) : s.evaluateExchange h lane e.leg cause = s := by
  unfold State.evaluateExchange
  rw [exchangeOf_last hx hb]
  exact if_neg fun hc => hc.2.2 hl

/-! ### A departure (R120 to R125) -/

theorem takesOver_span {h : HeatRecord} {lane : Lane} {s : State} (ht : takesOver h s.lanes[lane] = true) :
    s.inTakeoverSpan h lane := by
  unfold takesOver at ht
  simp only [Bool.and_eq_true, Bool.or_eq_true, beq_iff_eq, decide_eq_true_eq] at ht
  obtain ⟨⟨hrelay, h1, h3⟩, hspan⟩ := ht
  refine ⟨hrelay, h1, h3, hspan.imp id fun ⟨hl, ha⟩ => ⟨hl, ?_⟩⟩
  obtain ⟨e, he, hv⟩ := (Option.any_eq_true _ _).1 ha
  exact ⟨e, List.mem_of_find?_eq_some he, by simpa using List.find?_some he, by simpa using hv⟩

theorem State.takeDeparture_racing {h : HeatRecord} {lane : Lane} {start : Nat} {s : State} (departure : Int)
    (hrace : s.heat.race = .running) (hstart : s.heat.startMark = some start)
    (hst : (s.lanes[lane]).status = .racing) : s.takeDeparture h lane departure =
      if (s.lanes[lane]).departures = 0 then
        (s.updLane lane (measureReaction (decide (departure - start < 0)) (departure - start))).notifyReactions [lane]
      else if takesOver h s.lanes[lane] then s.storeTakeover h lane (departure - start) else s := by
  unfold State.takeDeparture
  dsimp only
  rw [hrace, hst, hstart]

theorem State.takeDeparture_entered {h : HeatRecord} {lane : Lane} {s : State} (departure : Int)
    (hrace : s.heat.race = .armed) (hst : (s.lanes[lane]).status = .entered) :
    s.takeDeparture h lane departure =
      if (s.lanes[lane]).departures = 0 ∧ h.startType = .platform ∧ s.heat.setMark.isSome then
        s.updLane lane fun r => { r with reaction := .preStart departure, departures := 1 }
      else s := by
  unfold State.takeDeparture
  dsimp only
  rw [hrace, hst]

/-- A departure of a RACING lane that has counted none is its reaction (R122). -/
theorem State.takeDeparture_first {h : HeatRecord} {lane : Lane} {departure : Int} {start : Nat} {s : State}
    (hrace : s.heat.race = .running) (hstart : s.heat.startMark = some start)
    (hst : (s.lanes[lane]).status = .racing) (hd : (s.lanes[lane]).departures = 0) :
    s.takeDeparture h lane departure =
      (s.putLane lane (measureReaction (decide (departure - start < 0)) (departure - start) s.lanes[lane])).tell
        [.reaction [⟨lane, .measured (departure - start), (s.scanner.channels[lane]).startLoad,
          (measureReaction (decide (departure - start < 0)) (departure - start) s.lanes[lane]).reasons⟩]] := by
  rw [State.takeDeparture_racing departure hrace hstart hst, if_pos hd, State.notifyReaction_eq]
  unfold State.reactionEntry
  rw [State.updLane_eq, State.putLane_self]
  rfl

/-- A departure before the start is held (R120). -/
theorem State.takeDeparture_held {h : HeatRecord} {lane : Lane} {departure : Int} {s : State}
    (hrace : s.heat.race = .armed) (hst : (s.lanes[lane]).status = .entered)
    (hd : (s.lanes[lane]).departures = 0) (hp : h.startType = .platform) (hset : s.heat.setMark.isSome = true) :
    s.takeDeparture h lane departure =
      s.putLane lane { s.lanes[lane] with reaction := .preStart departure, departures := 1 } := by
  rw [State.takeDeparture_entered departure hrace hst]
  exact if_pos ⟨hd, hp, hset⟩

/-- A departure that fits no row leaves no trace (R120, R125). -/
theorem State.takeDeparture_ignored {h : HeatRecord} {lane : Lane} {departure : Int} {s : State}
    (ha : ¬(s.heat.race = .armed ∧ (s.lanes[lane]).status = .entered ∧ (s.lanes[lane]).departures = 0 ∧
      h.startType = .platform ∧ s.heat.setMark.isSome = true))
    (hr : ¬(s.heat.race = .running ∧ (s.lanes[lane]).status = .racing ∧
      ((s.lanes[lane]).departures = 0 ∨ s.inTakeoverSpan h lane))) :
    s.takeDeparture h lane departure = s := by
  unfold State.takeDeparture
  dsimp only
  split
  · next hrace hst => exact if_neg fun hc => ha ⟨hrace, hst, hc⟩
  · next hrace hst =>
    have hd : ¬(s.lanes[lane]).departures = 0 := fun hd => hr ⟨hrace, hst, .inl hd⟩
    have ht : ¬takesOver h s.lanes[lane] = true := fun ht => hr ⟨hrace, hst, .inr (takesOver_span ht)⟩
    split
    · rfl
    · rw [if_neg hd, if_neg ht]
  · rfl

/-- The takeover's departure is stored and counted, and judges an exchange whose leg end has closed (R125,
R128). -/
theorem State.takeDeparture_takeover {h : HeatRecord} {lane : Lane} {departure : Int} {start : Nat} {s : State}
    {before : List ExchangeRecord} {e : ExchangeRecord}
    (hrace : s.heat.race = .running) (hstart : s.heat.startMark = some start)
    (hst : (s.lanes[lane]).status = .racing) (hdue : s.TakeoverDue h lane before e)
    (hspan : (s.lanes[lane]).leg = e.leg + 1 ∨ (lengthKind h (s.lanes[lane]).expected = .legEnd ∧
      lengthLeg h (s.lanes[lane]).expected = e.leg)) :
    s.takeDeparture h lane departure = State.evaluateExchange h lane e.leg .evaluated
      (s.putLane lane { s.lanes[lane] with
        exchanges := before ++ [{ e with departure := some (departure - start) }], departures := e.leg + 1 }) := by
  obtain ⟨hx, hb, hrelay, h1, h3, hdep, hv, -⟩ := hdue
  have ht : takesOver h s.lanes[lane] = true := by
    unfold takesOver
    dsimp only
    rw [hdep, exchangeOf_last hx hb]
    rcases hspan with hl | ⟨hk, hl⟩
    · simp only [hrelay, hl, hv, Option.any_some]
      simp [h1, h3]
    · simp only [hrelay, hk, hl]
      simp [h1, h3]
  have hmap : (before ++ [e]).map (fun x => if x.leg = e.leg then { x with departure := some (departure - start) }
      else x) = before ++ [{ e with departure := some (departure - start) }] := by
    rw [List.map_append]
    congr 1
    · conv_rhs => rw [← List.map_id before]
      exact List.map_congr_left fun x hx => if_neg (hb x hx)
    · simp
  rw [State.takeDeparture_racing departure hrace hstart hst, if_neg (by omega), if_pos ht]
  unfold State.storeTakeover
  dsimp only
  rw [hdep, State.updLane_eq, hx, hmap]

/-! ### The samples that are departures -/

/-- The conversion of a falling reading in quiet time: the channel reads UNLOADED, and the departure is
taken. -/
theorem State.departure_does {s : State} {h : HeatRecord} {p : Profile} {lane : Lane} {reading : Reading}
    {m first k time : Nat} (hf : s.ReadingFalls h p lane reading m first k)
    (ht : time = first + lane.val / 2 + 5 * k) :
    exec (.channelSample lane reading m) s =
      .next ((State.takeReading p lane reading time { s with clock := time }).takeDeparture h lane
        ((time : Int) - p.platformLatency)).settle := by
  obtain ⟨hr, hcur, hscan, hsweep, hprobe, hforce, hload, hread, hnext, hbefore, hfresh, hq, hlimit⟩ := hf
  rw [← ht] at hnext hbefore hfresh hq hlimit
  have hdue : s.SampleDue lane m first k time :=
    ⟨hscan, hsweep, hprobe, ht, hbefore, hfresh, fun r last hl => by rw [hl] at hnext; exact of_decide_eq_true hnext⟩
  rw [hdue.does reading hr hq hlimit, 
    State.heatSample_departs (s := s.advance time) hforce hcur hload hread, hdue.advance_eq]

/-- What a departure leaves, by what it makes of the lane's record. -/
theorem State.LaneEnds.departure {s t : State} {p : Profile} {lane : Lane} {reading : Reading} {time : Nat}
    {r : LaneRecord} {bodies : List NoticeBody}
    (h : State.LaneEnds lane r bodies (State.takeReading p lane reading time { s with clock := time }) t)
    (hload : (s.scanner.channels[lane]).load = some .loaded) (hr : reading.val < p.unloadedLimit) :
    s.DepartureLeaves lane reading time r t := by
  have hc : t.scanner.channels = (State.takeReading p lane reading time { s with clock := time }).scanner.channels := by
    have := congrArg (fun u : State => u.scanner.channels) h.eq
    exact this
  refine ⟨?_, ?_, fun l hl => ?_, h.record, h.others, h.board, h.link⟩
  · rw [hc]
    exact h.eq
  · rw [hc]
    refine (set_getElem_self _ _ _).trans ?_
    show (⟨some (nextLoad p (s.scanner.channels[lane]).load reading), _, _⟩ : Channel) = _
    rw [hload]
    unfold nextLoad
    rw [if_pos hr]
  · rw [hc]
    exact set_getElem_ne hl

theorem State.takeReading_startLoad (p : Profile) (lane : Lane) (reading : Reading) (time : Nat) (s : State) :
    ((State.takeReading p lane reading time s).scanner.channels[lane]).startLoad =
      (s.scanner.channels[lane]).startLoad := by
  simp [State.takeReading]

theorem measureReaction_eq (ticks : Int) (r : LaneRecord) : measureReaction (decide (ticks < 0)) ticks r =
    { r with
      reaction := .measured ticks
      departures := 1
      reasons := { r.reasons with earlyStart := r.reasons.earlyStart || decide (ticks < 0) } } := by
  unfold measureReaction
  by_cases h : ticks < 0
  · simp [h, ReviewReasons.union, ReviewReasons.onlyEarlyStart, ReviewReasons.empty]
  · simp [h]

/-- Settles O26. -/
theorem departureGivesTheReaction : Obligations.DepartureGivesTheReaction := by
  refine ⟨fun s h p lane reading m first k start time ticks hdue hd ht hticks => ?_,
    fun s h p lane reading m first k time hf hrace hst hd hp hset ht => ?_,
    fun s h p lane reading m first k time hf ha hr ht => ?_⟩
  · obtain ⟨hf, hrace, hstart, hst⟩ := hdue
    have he := State.departure_does hf ht
    obtain ⟨-, -, -, -, -, -, hload, hread, -⟩ := hf
    rw [State.takeDeparture_first (by exact hrace) (by exact hstart) (by exact hst) (by exact hd),
      ← hticks, State.takeReading_startLoad] at he
    have hend := State.lane_settles lane (measureReaction (decide (ticks < 0)) ticks s.lanes[lane])
      [.reaction [⟨lane, .measured ticks, (s.scanner.channels[lane]).startLoad,
        (measureReaction (decide (ticks < 0)) ticks s.lanes[lane]).reasons⟩]]
      (State.takeReading p lane reading time { s with clock := time })
    rw [← measureReaction_eq]
    exact ⟨_, he, hend.departure hload hread, hend.tells (by simp) _ (List.mem_singleton_self _)⟩
  · have he := State.departure_does hf ht
    obtain ⟨-, -, -, -, -, -, hload, hread, -⟩ := hf
    rw [State.takeDeparture_held (by exact hrace) (by exact hst) (by exact hd) hp (by exact hset)] at he
    exact ⟨_, he, (State.lane_settles lane _ [] _).departure hload hread, State.settle_keepsSilent rfl⟩
  · have he := State.departure_does hf ht
    obtain ⟨-, -, -, -, -, -, hload, hread, -⟩ := hf
    rw [State.takeDeparture_ignored (by exact ha) (by exact hr),
      ← State.putLane_same lane (State.takeReading p lane reading time { s with clock := time })] at he
    exact ⟨_, he, (State.lane_settles lane _ [] _).departure hload hread, State.settle_keepsSilent rfl⟩

end Sys2Proof.Machine

/-!
PROOFS. The close of a leg-end window, and what it makes of the exchange.
-/

namespace Sys2Proof.Machine

/-! ### Derivation (R99 to R102) -/

/-- An official time is the pad's or the backup's; the pad's has no reason for review. -/
theorem derive_official {pad backup : Option Nat} {limit official : Nat} {dead : Bool}
    (h : (derive pad backup limit dead).official = some official) :
    ((derive pad backup limit dead).source = .pad ∧ pad = some official ∧
        (derive pad backup limit dead).reasons = .empty) ∨
      (derive pad backup limit dead).source = .backup := by
  unfold derive at h ⊢
  cases pad with
  | none =>
    cases backup with
    | none => cases h
    | some b => cases dead <;> exact .inr rfl
  | some p =>
    cases backup with
    | none => exact .inl ⟨rfl, h, rfl⟩
    | some b =>
      dsimp only at h ⊢
      split
      · next hl => rw [if_pos hl] at h; exact .inl ⟨rfl, h, rfl⟩
      · exact .inr rfl

theorem State.deriveWindow_official {h : HeatRecord} {lane : Lane} {w : FinishWindow} {s : State} {official : Nat}
    (hd : (s.deriveWindow h lane w).official = some official) :
    ((s.deriveWindow h lane w).source = .pad ∧ w.pad.map (·.time) = some official ∧
        (s.deriveWindow h lane w).reasons = .empty) ∨
      (s.deriveWindow h lane w).source = .backup :=
  derive_official hd

/-- A time that is not NONE has its official value. -/
theorem derive_source {pad backup : Option Nat} {limit : Nat} {dead : Bool}
    (h : (derive pad backup limit dead).source = .pad) :
    (derive pad backup limit dead).official = pad ∧ (derive pad backup limit dead).reasons = .empty := by
  unfold derive at h ⊢
  cases pad with
  | none =>
    cases backup with
    | none => cases h
    | some b => cases dead <;> cases h
  | some p =>
    cases backup with
    | none => exact ⟨rfl, rfl⟩
    | some b =>
      dsimp only at h ⊢
      split
      · exact ⟨rfl, rfl⟩
      · next hl => rw [if_neg hl] at h; cases h

theorem union_empty (r : ReviewReasons) : r.union .empty = r := by
  simp [ReviewReasons.union, ReviewReasons.empty]

/-! ### The close of a leg end (R89) -/


/-- The exchange record of a leg whose end has been taken (R127). -/
def endedExchange (source : OfficialSource) (touch : Option Nat) (e : ExchangeRecord) : ExchangeRecord :=
  { e with legEnd := legEndOf source, incoming := if source = .pad then touch else none }

/-- A leg end closes for a lane whose exchange record of the leg is PENDING. -/
theorem State.legEndClosed_eq {h : HeatRecord} {lane : Lane} {s : State} {before : List ExchangeRecord}
    {e : ExchangeRecord} (source : OfficialSource) (touch : Option Nat) (cause : SettleCause)
    (hx : (s.lanes[lane]).exchanges = before ++ [e]) (hb : ∀ x ∈ before, x.leg ≠ e.leg)
    (hv : e.verdict = .pending) {judged : ExchangeRecord}
    (hj : judgedExchange h (endedExchange source touch e) = judged) :
    s.legEndClosed h lane e.leg source touch cause =
      (s.putLane lane (judgedLane before judged s.lanes[lane])).tell
        (if reportsVerdict h.notify judged.verdict then
          [.exchange lane judged cause (judgedLane before judged s.lanes[lane]).reasons]
        else []) := by
  unfold State.legEndClosed
  rw [exchangeOf_last hx hb]
  dsimp only
  rw [State.updLane_eq, hx]
  show State.evaluateExchange h lane e.leg cause (s.putLane lane
    { s.lanes[lane] with exchanges := putExchange (endedExchange source touch e) (before ++ [e]) }) = _
  have hleg : (endedExchange source touch e).leg = e.leg := rfl
  have hverdict : (endedExchange source touch e).verdict = .pending := hv
  have hend : (endedExchange source touch e).legEnd ≠ .opened := by
    cases source <;> exact fun h => nomatch h
  generalize endedExchange source touch e = c at hleg hverdict hend hj
  rw [putExchange_last hb hleg]
  have hself := State.putLane_self lane { s.lanes[lane] with exchanges := before ++ [c] } s
  have hjl := judgedExchange_leg h c
  rw [← hleg, State.evaluateExchange_eq (before := before) (e := c) cause (by rw [hself])
    (by rw [hleg]; exact hb) hverdict hend, hself, State.putLane_putLane]
  unfold verdictNotices
  rw [verdictLane_last (before := before) (e := c) rfl (by rw [hleg]; exact hb) hjl, hj]
  rfl

theorem closedExchange_eq {h : HeatRecord} {source : OfficialSource} {w : FinishWindow} {e : ExchangeRecord}
    (hs : source = .pad ∨ source = .backup) :
    judgedExchange h (endedExchange source (w.pad.map (·.time)) e) = closedExchange h source w e := by
  unfold judgedExchange closedExchange endedExchange
  rcases hs with rfl | rfl <;> rfl

/-- The close of a leg-end window with an official time. -/
theorem State.closeLegEnd_eq {h : HeatRecord} {lane : Lane} {w : FinishWindow} {s : State}
    {before : List ExchangeRecord} {e : ExchangeRecord} {official : Nat}
    (hx : (s.lanes[lane]).exchanges = before ++ [e]) (hb : ∀ x ∈ before, x.leg ≠ e.leg)
    (hleg : e.leg = (s.lanes[lane]).leg) (hv : e.verdict = .pending)
    (hd : (s.deriveWindow h lane w).official = some official) {judged : ExchangeRecord}
    (hj : judged = closedExchange h (s.deriveWindow h lane w).source w e) :
    s.closeLegEnd h lane w =
      (s.putLane lane (judgedLane before judged (s.legEndLane h lane w official))).tell
        (.split lane (closedRecord h (s.lanes[lane]).expected w (s.deriveWindow h lane w))
            ((s.lanes[lane]).leg + 1) ::
          if reportsVerdict h.notify judged.verdict then
            [.exchange lane judged .evaluated (judgedLane before judged (s.legEndLane h lane w official)).reasons]
          else []) := by
  have hsource : (s.deriveWindow h lane w).source = .pad ∨ (s.deriveWindow h lane w).source = .backup :=
    (State.deriveWindow_official hd).imp_left And.left
  unfold State.closeLegEnd State.sendSplit
  dsimp only
  rw [hd, State.notify_eq_tell]
  show State.legEndClosed h lane _ _ _ _ (State.tell [_] (s.putLane lane (s.legEndLane h lane w official))) = _
  have hself := State.putLane_self lane (s.legEndLane h lane w official) s
  rw [← hleg, State.legEndClosed_eq (before := before) (e := e) _ _ .evaluated
    (by rw [State.tell_lanes, hself]; exact hx) hb hv ((closedExchange_eq hsource).trans hj.symm),
    State.tell_lanes, hself, State.putLane_tell,
    State.putLane_putLane, State.tell_tell]
  rfl

/-! ### The close of a window as an event -/

/-- A window closes at its closes-at, in quiet time. -/
theorem State.windowClose_does {s : State} {lane : Lane} {w : FinishWindow} {start : Nat}
    (hr : s.isRunning = true) (hrace : s.heat.race = .running) (hstart : s.heat.startMark = some start)
    (hw : (s.lanes[lane]).window = some w) (hq : s.quietUntil (start + w.closesAt) = true) :
    exec (.finishWindowClose lane) s = .next ((s.advance (start + w.closesAt)).windowTimeout lane).settle := by
  have hd : ∀ u : State, u.heat = s.heat → u.lanes = s.lanes →
      State.windowDeadline lane u = some (start + w.closesAt) := by
    intro u hh hl
    unfold State.windowDeadline
    rw [hh, hl, hrace, hstart, hw]
  exact State.ifDue_does (c := .finishWindowClose lane) (State.windowTimeout lane) hr rfl (hd s rfl rfl) hq
    (hd _ rfl rfl)

/-- The heat goes on while an entered lane is RACING (R46). -/
theorem State.endIfDone_racing {h : HeatRecord} {lane : Lane} {s : State} (he : h.enters lane = true)
    (hst : (s.lanes[lane]).status = .racing) : s.endIfDone h = s := by
  unfold State.endIfDone
  refine if_neg fun hc => ?_
  unfold State.allDone at hc
  rw [List.all_eq_true] at hc
  have := hc lane (mem_allLanes lane)
  rw [he, hst] at this
  exact absurd this (by decide)

theorem State.closeWindow_legEnd {h : HeatRecord} {lane : Lane} {w : FinishWindow} {s : State} (cause : CloseCause)
    (hw : (s.lanes[lane]).window = some w) (hk : lengthKind h (s.lanes[lane]).expected = .legEnd) :
    s.closeWindow h cause lane = s.closeLegEnd h lane w := by
  unfold State.closeWindow
  dsimp only
  rw [hw, hk]

/-- A leg-end window closes at its closes-at: what it leaves. -/
theorem State.LegEndDue.does {s : State} {h : HeatRecord} {lane : Lane} {w : FinishWindow}
    {before : List ExchangeRecord} {e : ExchangeRecord} {start official : Nat} {judged : ExchangeRecord}
    (hdue : s.LegEndDue h lane w before e start) (hd : (s.deriveWindow h lane w).official = some official)
    (hj : judged = closedExchange h (s.deriveWindow h lane w).source w e) :
    ∃ t, exec (.finishWindowClose lane) s = .next t ∧
      s.LegEndLeaves lane (start + w.closesAt) (judgedLane before judged (s.legEndLane h lane w official)) t ∧
      t.tells ⟨t.masterTime, .split lane
        (closedRecord h (s.lanes[lane]).expected w (s.deriveWindow h lane w)) ((s.lanes[lane]).leg + 1)⟩ ∧
      (reportsVerdict h.notify judged.verdict = true →
        t.tells ⟨t.masterTime, .exchange lane judged .evaluated (t.lanes[lane]).reasons⟩) := by
  obtain ⟨hr, hrace, hcur, hstart, hw, hk, he, hst, hq, hx, hb, hleg, hv⟩ := hdue
  have hexec := State.windowClose_does hr hrace hstart hw hq
  generalize hu : s.advance (start + w.closesAt) = u at hexec
  have hwindow : u.windowTimeout lane = (u.closeLegEnd h lane w).endIfDone h := by
    unfold State.windowTimeout
    rw [show u.heat.current = some h by rw [← hu]; exact hcur]
    dsimp only
    rw [State.closeWindow_legEnd .window (by rw [← hu]; exact hw) (by rw [← hu]; exact hk)]
  have hclose := State.closeLegEnd_eq (h := h) (w := w) (s := u) (official := official) (judged := judged)
    (by rw [← hu]; exact hx) hb (by rw [← hu]; exact hleg) hv (by rw [← hu]; exact hd) (by rw [← hu]; exact hj)
  have hend : (u.closeLegEnd h lane w).endIfDone h = u.closeLegEnd h lane w := by
    refine State.endIfDone_racing he ?_
    rw [hclose, State.tell_lanes, State.putLane_self, ← hu]
    exact hst
  rw [hwindow, hend, hclose, ← hu] at hexec
  refine ⟨_, hexec, ?_⟩
  generalize hbodies : (NoticeBody.split lane _ _ :: _ : List NoticeBody) = bodies at hexec ⊢
  have l := State.lane_settles lane (judgedLane before judged (s.legEndLane h lane w official)) bodies
    (s.advance (start + w.closesAt))
  have hlen : bodies.length ≤ 64 := by
    rw [← hbodies]
    split <;> simp
  refine ⟨⟨l.eq, l.record, l.others, l.board, l.link⟩, ?_, fun hrep => ?_⟩
  · refine l.tells hlen (.split lane _ _) ?_
    rw [← hbodies]
    exact List.mem_cons_self
  · refine l.tells hlen (.exchange lane judged .evaluated
      (judgedLane before judged (s.legEndLane h lane w official)).reasons) ?_
    rw [← hbodies, if_pos hrep]
    exact List.mem_cons_of_mem _ (List.mem_singleton_self _)

theorem verdictOf_early (h : HeatRecord) (m : Int) :
    (verdictOf h m == .early) = decide (m < h.lo * 100) := by
  unfold verdictOf
  split
  · next hl => rw [decide_eq_true hl]; rfl
  · next hl =>
    rw [decide_eq_false hl]
    split <;> rfl

theorem verdictOf_judges (h : HeatRecord) (m : Int) : verdictOf h m ≠ .unjudged := by
  unfold verdictOf
  split
  · simp
  · split <;> simp

/-- A verdict on a margin: what it makes of the lane. -/
theorem judgedLane_margin {h : HeatRecord} {m : Int} {before : List ExchangeRecord} {e : ExchangeRecord}
    (r : LaneRecord) (hv : e.verdict = verdictOf h m) : judgedLane before e r =
      { r with
        exchanges := before ++ [e]
        reasons := { r.reasons with
          earlyExchange := r.reasons.earlyExchange || decide (m < h.lo * 100) } } := by
  have hu : (e.verdict == .unjudged) = false := by
    rw [hv]
    exact beq_eq_false_iff_ne.2 (verdictOf_judges h m)
  unfold judgedLane
  rw [hu, if_neg (fun hc => verdictOf_judges h m (hv.symm.trans hc.1)), hv, verdictOf_early, Bool.or_false]

/-- An UNJUDGED exchange: what it makes of the lane. -/
theorem judgedLane_unjudged {before : List ExchangeRecord} {e : ExchangeRecord} (r : LaneRecord)
    (hv : e.verdict = .unjudged) : judgedLane before e r =
      { r with
        exchanges := before ++ [e]
        reasons := { r.reasons with unjudgedExchange := true }
        departures := if r.departures = e.leg then e.leg + 1 else r.departures } := by
  have h1 : (e.verdict == .early) = false := by rw [hv]; rfl
  have h2 : (e.verdict == .unjudged) = true := by rw [hv]; rfl
  unfold judgedLane
  rw [h1, h2, Bool.or_false, Bool.or_true]
  simp only [hv, true_and]

/-- A lane's record with the departure of a takeover stored and counted (R125). -/
def State.takenLane (lane : Lane) (before : List ExchangeRecord) (e : ExchangeRecord) (d : Int) (s : State) :
    LaneRecord :=
  { s.lanes[lane] with exchanges := before ++ [{ e with departure := some d }], departures := e.leg + 1 }

/-- The departure of a takeover: it is stored and counted, and then the exchange is evaluated. -/
theorem State.DepartureDue.takeover {s : State} {h : HeatRecord} {p : Profile} {lane : Lane} {reading : Reading}
    {m first k start time : Nat} {before : List ExchangeRecord} {e : ExchangeRecord} {d : Int}
    (hdue : s.DepartureDue h p lane reading m first k start) (hover : s.TakeoverDue h lane before e)
    (hspan : (s.lanes[lane]).leg = e.leg + 1 ∨ (lengthKind h (s.lanes[lane]).expected = .legEnd ∧
      lengthLeg h (s.lanes[lane]).expected = e.leg))
    (ht : time = first + lane.val / 2 + 5 * k) (hd : d = (time : Int) - p.platformLatency - start) :
    (s.scanner.channels[lane]).load = some .loaded ∧ reading.val < p.unloadedLimit ∧
      exec (.channelSample lane reading m) s = .next (State.evaluateExchange h lane e.leg .evaluated
        (State.putLane lane (s.takenLane lane before e d)
          (State.takeReading p lane reading time { s with clock := time }))).settle := by
  obtain ⟨hf, hrace, hstart, hst⟩ := hdue
  have he := State.departure_does hf ht
  obtain ⟨-, -, -, -, -, -, hload, hread, -⟩ := hf
  refine ⟨hload, hread, he.trans ?_⟩
  rw [State.takeDeparture_takeover (s := State.takeReading p lane reading time { s with clock := time })
    (e := e) (before := before) hrace hstart hst hover hspan, ← hd]
  rfl

/-- Settles O23. -/
theorem legEndCloseJudgesTheExchange : Obligations.LegEndCloseJudgesTheExchange := by
  refine ⟨fun s h lane w touch before e judged d start hdue hpad hsource hdep hj => ?_,
    fun s h lane w before e judged start official hdue hsource hd hdep hj => ?_,
    fun s h lane w before e start official hdue hd hdep => ?_,
    fun s h p lane reading m first k start time before e judged d hdue hover hleg hopen ht hd hj => ?_,
    fun s h p lane reading m first k start time before e d hdue hover hk hlleg hopen ht hd => ?_⟩
  · obtain ⟨hofficial, hreasons⟩ := derive_source hsource
    have hofficial : (s.deriveWindow h lane w).official = some touch.time := by
      refine hofficial.trans ?_
      rw [hpad]
      rfl
    have hclosed : judged = closedExchange h (s.deriveWindow h lane w).source w e := by
      rw [hj, hsource]
      unfold closedExchange
      rw [hpad, hdep]
      rfl
    obtain ⟨t, he, hl, hsplit, hex⟩ := hdue.does hofficial hclosed
    refine ⟨t, he, ?_, hsplit, hex⟩
    rw [judgedLane_margin (h := h) (m := d - touch.time) _ (by rw [hj])] at hl
    have hr : (s.legEndLane h lane w touch.time).reasons = (s.lanes[lane]).reasons := by
      show ReviewReasons.union _ _ = _
      rw [show (s.deriveWindow h lane w).reasons = .empty from hreasons, union_empty]
    rw [hr] at hl
    exact hl
  · have hclosed : judged = closedExchange h (s.deriveWindow h lane w).source w e := by
      obtain ⟨d, hdep⟩ := Option.isSome_iff_exists.1 hdep
      rw [hj, hsource]
      unfold closedExchange
      rw [hdep]
      dsimp only [takenOver]
      rfl
    obtain ⟨t, he, hl, hsplit, hex⟩ := hdue.does hd hclosed
    have hv : judged.verdict = .unjudged := by rw [hj]
    refine ⟨t, he, ?_, hsplit, fun hn => hex (by rw [hv]; exact reportsVerdict_unjudged.2 hn)⟩
    rw [judgedLane_unjudged _ hv, show judged.leg = e.leg by rw [hj]] at hl
    exact hl
  · obtain ⟨t, he, hl, hsplit, -⟩ := hdue.does hd rfl
    obtain ⟨-, -, -, -, -, -, -, -, -, -, -, -, hv⟩ := hdue
    refine ⟨t, he, ?_, hsplit⟩
    have hc : closedExchange h (s.deriveWindow h lane w).source w e =
        if (s.deriveWindow h lane w).source = .pad then
          { e with legEnd := .pad, incoming := w.pad.map (·.time) }
        else { e with legEnd := .backup, incoming := none } := by
      unfold closedExchange
      rw [hdep]
    rw [hc, judgedLane_pending _ (by split <;> exact hv)] at hl
    exact hl
  · obtain ⟨hload, hread, he⟩ := hdue.takeover hover (.inl hleg) ht hd
    obtain ⟨-, hb, -, -, -, -, hv, -⟩ := hover
    have hself := State.putLane_self lane (s.takenLane lane before e d)
      (State.takeReading p lane reading time { s with clock := time })
    have hjudged : judgedExchange h { e with departure := some d } = judged := by
      rw [hj]
      unfold judgedExchange takenOver
      dsimp only
    have hjl := judgedExchange_leg h { e with departure := some d }
    rw [hjudged] at hjl
    rw [show e.leg = ({ e with departure := some d } : ExchangeRecord).leg from rfl,
      State.evaluateExchange_eq (before := before) (e := { e with departure := some d }) .evaluated
        (by rw [hself]; rfl) hb hv hopen, hself, hjudged, State.putLane_putLane] at he
    unfold verdictNotices at he
    rw [verdictLane_last (before := before) (e := { e with departure := some d }) rfl hb hjl] at he
    have l := State.lane_settles lane (judgedLane before judged (s.takenLane lane before e d))
      (if reportsVerdict h.notify judged.verdict then
        [.exchange lane judged .evaluated (judgedLane before judged (s.takenLane lane before e d)).reasons] else [])
      (State.takeReading p lane reading time { s with clock := time })
    have hdl := l.departure hload hread
    have hrecord : judgedLane before judged (s.takenLane lane before e d) =
        { s.lanes[lane] with
          departures := e.leg + 1
          reasons :=
            { (s.lanes[lane]).reasons with
              earlyExchange :=
                (s.lanes[lane]).reasons.earlyExchange || judged.verdict == .early
              unjudgedExchange :=
                (s.lanes[lane]).reasons.unjudgedExchange || judged.verdict == .unjudged }
          exchanges := before ++ [judged] } := by
      unfold judgedLane State.takenLane
      dsimp only
      rw [if_neg fun hc => by rw [hjl] at hc; exact absurd hc.2 (by simp)]
    rw [← hrecord]
    refine ⟨_, he, hdl, fun hrep => ?_⟩
    refine l.tells (by split <;> simp) (.exchange lane judged .evaluated
      (judgedLane before judged (s.takenLane lane before e d)).reasons) ?_
    rw [if_pos hrep]
    exact List.mem_singleton_self _
  · obtain ⟨hload, hread, he⟩ := hdue.takeover hover (.inr ⟨hk, hlleg⟩) ht hd
    obtain ⟨-, hb, -⟩ := hover
    rw [show e.leg = ({ e with departure := some d } : ExchangeRecord).leg from rfl,
      State.evaluateExchange_open (before := before) (e := { e with departure := some d }) .evaluated
        (by rw [State.putLane_self]; rfl) hb hopen] at he
    exact ⟨_, he, (State.lane_settles lane (s.takenLane lane before e d) []
      (State.takeReading p lane reading time { s with clock := time })).departure hload hread⟩

end Sys2Proof.Machine

/-!
PROOFS. The evidence of a lane: touches and presses, turns, windows, and the exchanges that they settle.
-/

namespace Sys2Proof.Machine

/-! ### What is settled UNJUDGED (R130, R131) -/

/-- An exchange that is PENDING, settled. -/
def settledExchange (e : ExchangeRecord) : ExchangeRecord :=
  if e.verdict = .pending then { e with verdict := .unjudged } else e

/-- The notices of the exchanges that are settled, in order of leg. -/
def settledNotices (h : HeatRecord) (lane : Lane) (cause : SettleCause) (r : LaneRecord)
    (exchanges : List ExchangeRecord) : List NoticeBody :=
  if h.notify = .nothing then []
  else (exchanges.filter fun e => e.verdict == .pending).map fun e =>
    .exchange lane { e with verdict := .unjudged } cause { r.reasons with unjudgedExchange := true }

/-- A lane's record with the last of its exchanges settled. -/
def settledTail (done rest : List ExchangeRecord) (r : LaneRecord) : LaneRecord :=
  { r with
    exchanges := done ++ rest.map settledExchange
    reasons :=
      { r.reasons with
        unjudgedExchange := r.reasons.unjudgedExchange || rest.any fun e => e.verdict == .pending }
    departures := rest.foldl
      (fun d e => if e.verdict = .pending ∧ d = e.leg then e.leg + 1 else d) r.departures }

theorem putExchange_middle {done rest : List ExchangeRecord} {e record : ExchangeRecord}
    (hd : ∀ x ∈ done, x.leg ≠ e.leg) (hr : ∀ x ∈ rest, x.leg ≠ e.leg) (hl : record.leg = e.leg) :
    putExchange record (done ++ e :: rest) = done ++ record :: rest := by
  have keep : ∀ l : List ExchangeRecord, (∀ x ∈ l, x.leg ≠ e.leg) →
      l.map (fun x => if x.leg = e.leg then record else x) = l := fun l hl => by
    conv_rhs => rw [← List.map_id l]
    exact List.map_congr_left fun x hx => if_neg (hl x hx)
  unfold putExchange
  rw [hl, List.map_append, List.map_cons, keep done hd, keep rest hr, if_pos rfl]

/-- The lane's record with one exchange settled. -/
theorem verdictLane_unjudged {done rest : List ExchangeRecord} {e : ExchangeRecord} {r : LaneRecord}
    (hx : r.exchanges = done ++ e :: rest) (hd : ∀ x ∈ done, x.leg ≠ e.leg) (hr : ∀ x ∈ rest, x.leg ≠ e.leg) :
    verdictLane { e with verdict := .unjudged } r =
      { r with
        exchanges := done ++ { e with verdict := .unjudged } :: rest
        reasons := { r.reasons with unjudgedExchange := true }
        departures := if r.departures = e.leg then e.leg + 1 else r.departures } := by
  unfold verdictLane
  rw [hx, putExchange_middle (e := e) (record := { e with verdict := .unjudged }) hd hr rfl]
  simp [verdictReasons, ReviewReasons.union, ReviewReasons.onlyUnjudged, ReviewReasons.empty]

/-- The exchanges that are still to be settled, one behind the other. -/
theorem State.settleTail_eq (h : HeatRecord) (lane : Lane) (cause : SettleCause)
    (done rest : List ExchangeRecord) (s : State) (hx : (s.lanes[lane]).exchanges = done ++ rest)
    (hn : ((done ++ rest).map (·.leg)).Nodup) :
    (rest.filter fun e => e.verdict == .pending).foldl (fun s e => s.settleUnjudged h lane cause e) s =
      (s.putLane lane (settledTail done rest s.lanes[lane])).tell
        (settledNotices h lane cause s.lanes[lane] rest) := by
  induction rest generalizing done s with
  | nil =>
    have hr : settledTail done [] s.lanes[lane] = s.lanes[lane] := by
      unfold settledTail
      rw [List.append_nil] at hx
      rw [List.map_nil, List.append_nil, ← hx]
      simp
    rw [hr, State.putLane_same]
    unfold settledNotices
    split <;> rfl
  | cons e rest ih =>
    rw [List.map_append, List.map_cons] at hn
    have hdone : ∀ x ∈ done, x.leg ≠ e.leg := fun x hx =>
      (List.nodup_append.1 hn).2.2 x.leg (List.mem_map_of_mem hx) e.leg List.mem_cons_self
    have hrest : ∀ x ∈ rest, x.leg ≠ e.leg := fun x hx he =>
      (List.nodup_cons.1 (List.nodup_append.1 hn).2.1).1 (he ▸ List.mem_map_of_mem (f := (·.leg)) hx)
    by_cases hv : e.verdict = .pending
    · have hf : (e :: rest).filter (fun e => e.verdict == .pending) =
          e :: rest.filter fun e => e.verdict == .pending := List.filter_cons_of_pos (by rw [hv]; rfl)
      have hany : ((e :: rest).any fun e => e.verdict == .pending) = true := by simp [hv]
      rw [hf, List.foldl_cons]
      unfold State.settleUnjudged
      rw [State.giveVerdict_eq, verdictLane_unjudged hx hdone hrest]
      have hself := State.putLane_self lane
        { s.lanes[lane] with
          exchanges := done ++ { e with verdict := .unjudged } :: rest
          reasons := { (s.lanes[lane]).reasons with unjudgedExchange := true }
          departures := if (s.lanes[lane]).departures = e.leg then e.leg + 1 else (s.lanes[lane]).departures } s
      have hstep := ih (done ++ [{ e with verdict := .unjudged }])
        (State.tell (verdictNotices h lane { e with verdict := .unjudged } cause s.lanes[lane])
          (s.putLane lane
            { s.lanes[lane] with
              exchanges := done ++ { e with verdict := .unjudged } :: rest
              reasons := { (s.lanes[lane]).reasons with unjudgedExchange := true }
              departures := if (s.lanes[lane]).departures = e.leg then e.leg + 1 else (s.lanes[lane]).departures }))
        (by rw [State.tell_lanes, hself]; simp) (by simpa using hn)
      unfold State.settleUnjudged at hstep
      rw [hstep, State.tell_lanes, hself, State.putLane_tell, State.putLane_putLane, State.tell_tell]
      congr 1
      · unfold settledNotices verdictNotices
        rw [hf]
        by_cases hnone : h.notify = .nothing
        · simp [hnone, reportsVerdict]
        · rw [if_neg hnone, if_neg hnone, if_pos (reportsVerdict_unjudged.2 hnone),
            verdictLane_unjudged hx hdone hrest]
          rfl
      · congr 1
        unfold settledTail
        rw [hany]
        simp [settledExchange, hv]
    · have hf : (e :: rest).filter (fun e => e.verdict == .pending) =
          rest.filter fun e => e.verdict == .pending := List.filter_cons_of_neg (by simpa using hv)
      rw [hf, ih (done ++ [e]) s (by rw [hx]; simp) (by simpa using hn)]
      congr 1
      · unfold settledNotices
        rw [hf]
      · congr 1
        have hverdict : (e.verdict == .pending) = false := beq_eq_false_iff_ne.2 hv
        unfold settledTail
        simp [settledExchange, hv, hverdict]

/-- Without a PENDING exchange a lane keeps its record. -/
theorem settledLane_none {r : LaneRecord} (h : ¬∃ e ∈ r.exchanges, e.verdict = .pending) : settledLane r = r := by
  have hn : ∀ e ∈ r.exchanges, e.verdict ≠ .pending := fun e he hv => h ⟨e, he, hv⟩
  have hany : (r.exchanges.any fun e => e.verdict == .pending) = false := by simpa using hn
  have hmap : (r.exchanges.map fun e => if e.verdict = .pending then { e with verdict := .unjudged } else e) =
      r.exchanges := by
    conv_rhs => rw [← List.map_id r.exchanges]
    exact List.map_congr_left fun e he => if_neg (hn e he)
  have hfold : ∀ (l : List ExchangeRecord) (d : Nat), (∀ e ∈ l, e.verdict ≠ .pending) →
      l.foldl (fun d e => if e.verdict = .pending ∧ d = e.leg then e.leg + 1 else d) d = d := by
    intro l
    induction l with
    | nil => intros; rfl
    | cons e rest ih =>
      intro d hl
      rw [List.foldl_cons, if_neg fun hc => hl e (by simp) hc.1]
      exact ih d fun x hx => hl x (by simp [hx])
  unfold settledLane
  rw [hany, hmap, hfold _ _ hn, Bool.or_false]

theorem settledNotices_none {h : HeatRecord} {lane : Lane} {cause : SettleCause} {r : LaneRecord}
    {exchanges : List ExchangeRecord} (hn : ¬∃ e ∈ exchanges, e.verdict = .pending) :
    settledNotices h lane cause r exchanges = [] := by
  unfold settledNotices
  rw [List.filter_eq_nil_iff.2 (by simpa using hn)]
  split <;> rfl

/-- One exchange a leg, when one of them is PENDING. -/
def oneEachLeg (exchanges : List ExchangeRecord) : Prop :=
  (∃ e ∈ exchanges, e.verdict = .pending) → (exchanges.map (·.leg)).Nodup ∧ exchanges.length ≤ 3

/-- What is PENDING of a lane is settled UNJUDGED. -/
theorem State.settlePending_eq {h : HeatRecord} {lane : Lane} {s : State} (cause : SettleCause)
    (hl : oneEachLeg (s.lanes[lane]).exchanges) : s.settlePending h lane cause =
      (s.putLane lane (settledLane s.lanes[lane])).tell
        (settledNotices h lane cause s.lanes[lane] (s.lanes[lane]).exchanges) := by
  by_cases hp : ∃ e ∈ (s.lanes[lane]).exchanges, e.verdict = .pending
  · obtain ⟨hn, -⟩ := hl hp
    unfold State.settlePending
    rw [State.settleTail_eq h lane cause [] _ s rfl hn]
    rfl
  · rw [settledLane_none hp, settledNotices_none hp, State.putLane_same, State.tell_nil]
    unfold State.settlePending
    rw [List.filter_eq_nil_iff.2 (by simpa using hp)]
    rfl

theorem settledNotices_length {h : HeatRecord} {lane : Lane} {cause : SettleCause} {r : LaneRecord}
    {exchanges : List ExchangeRecord} (hl : oneEachLeg exchanges) :
    (settledNotices h lane cause r exchanges).length ≤ 3 := by
  by_cases hp : ∃ e ∈ exchanges, e.verdict = .pending
  · unfold settledNotices
    split
    · simp
    · rw [List.length_map]
      exact (List.length_filter_le _ _).trans (hl hp).2
  · rw [settledNotices_none hp]
    simp

theorem mem_settledNotices {h : HeatRecord} {lane : Lane} {cause : SettleCause} {r : LaneRecord}
    {exchanges : List ExchangeRecord} {e : ExchangeRecord} (he : e ∈ exchanges) (hv : e.verdict = .pending)
    (hn : h.notify ≠ .nothing) :
    .exchange lane { e with verdict := .unjudged } cause { r.reasons with unjudgedExchange := true } ∈
      settledNotices h lane cause r exchanges := by
  unfold settledNotices
  rw [if_neg hn]
  exact List.mem_map.2 ⟨e, List.mem_filter.2 ⟨he, by rw [hv]; rfl⟩, rfl⟩

end Sys2Proof.Machine

/-!
PROOFS. Turns, windows, presses and touches: what each makes of its lane's record, and its notices.
-/

namespace Sys2Proof.Machine

/-! ### An exchange that is created (R126) -/

/-- The notice of an exchange that is created UNJUDGED. -/
def State.faultyNotices (h : HeatRecord) (lane : Lane) (n : Nat) (r : LaneRecord) (s : State) :
    List NoticeBody :=
  if lengthKind h n = .legEnd ∧ s.scanner.state = .fault ∧ h.notify ≠ .nothing then
    [.exchange lane ⟨lengthLeg h n, .opened, none, none, none, .unjudged⟩ .scannerFault
      (expectingLane h true n r).reasons]
  else []

/-- A lane that comes to expect a leg end. -/
theorem State.createExchange_eq {h : HeatRecord} {lane : Lane} {n : Nat} {s : State}
    (hk : lengthKind h n = .legEnd)
    (hf : s.scanner.state = .fault → ∀ e ∈ (s.lanes[lane]).exchanges, e.leg ≠ lengthLeg h n) :
    s.createExchange h lane (lengthLeg h n) =
      (s.putLane lane (expectingLane h (s.scanner.state == .fault) n s.lanes[lane])).tell
        (s.faultyNotices h lane n s.lanes[lane]) := by
  have hupd := State.updLane_eq lane
    (fun r => { r with exchanges := r.exchanges ++ [⟨lengthLeg h n, .opened, none, none, none, .pending⟩] }) s
  unfold State.createExchange
  dsimp only
  by_cases hfault : s.scanner.state = .fault
  · have hbool : (s.scanner.state == .fault) = true := by rw [hfault]; rfl
    have hself := State.putLane_self lane
      { s.lanes[lane] with
        exchanges := (s.lanes[lane]).exchanges ++ [⟨lengthLeg h n, .opened, none, none, none, .pending⟩] } s
    rw [if_pos hfault, hupd, State.updLane_eq, hself, State.putLane_putLane]
    unfold State.settleUnjudged
    rw [State.giveVerdict_eq, State.putLane_self, State.putLane_putLane]
    have hv := verdictLane_last (before := (s.lanes[lane]).exchanges)
      (e := ⟨lengthLeg h n, .opened, none, none, none, .pending⟩)
      (record := ⟨lengthLeg h n, .opened, none, none, none, .unjudged⟩)
      (r := { s.lanes[lane] with
        exchanges := (s.lanes[lane]).exchanges ++ [⟨lengthLeg h n, .opened, none, none, none, .pending⟩]
        departures := lengthLeg h n + 1 }) rfl (hf hfault) rfl
    have hr : judgedLane (s.lanes[lane]).exchanges ⟨lengthLeg h n, .opened, none, none, none, .unjudged⟩
        { s.lanes[lane] with
          exchanges := (s.lanes[lane]).exchanges ++ [⟨lengthLeg h n, .opened, none, none, none, .pending⟩]
          departures := lengthLeg h n + 1 } = expectingLane h true n s.lanes[lane] := by
      rw [judgedLane_unjudged _ rfl]
      unfold expectingLane
      rw [if_neg (not_not.2 hk), if_pos rfl]
      simp
    unfold verdictNotices State.faultyNotices
    rw [hv, hr, hbool]
    by_cases hn : h.notify = .nothing
    · rw [if_neg (fun hc => reportsVerdict_unjudged.1 hc hn), if_neg (fun hc => hc.2.2 hn)]
    · rw [if_pos (reportsVerdict_unjudged.2 hn), if_pos ⟨hk, hfault, hn⟩]
  · have hbool : (s.scanner.state == .fault) = false := beq_eq_false_iff_ne.2 hfault
    unfold State.faultyNotices
    rw [if_neg hfault, hupd, if_neg (fun hc => hfault hc.2.1), hbool]
    unfold expectingLane
    rw [if_neg (not_not.2 hk), if_neg (by simp)]
    rfl

theorem arrivedLane_exchanges (r : LaneRecord) : (arrivedLane r).exchanges = r.exchanges := by
  unfold arrivedLane
  split <;> rfl

theorem arrivedLane_expected (r : LaneRecord) : (arrivedLane r).expected = r.expected := by
  unfold arrivedLane
  split <;> rfl

theorem arrivedLane_reasons (r : LaneRecord) : (arrivedLane r).reasons = r.reasons := by
  unfold arrivedLane
  split <;> rfl

theorem arrivedLane_counted (r : LaneRecord) : (arrivedLane r).departures ≠ 0 := by
  unfold arrivedLane
  split
  · simp
  · next h => exact h

/-- The lane stays as it is once a departure has been counted. -/
theorem arrivedLane_of_counted {r : LaneRecord} (h : r.departures ≠ 0) : arrivedLane r = r := if_neg h

theorem State.absenceNotices_counted {lane : Lane} {r : LaneRecord} {s : State} (h : r.departures ≠ 0) :
    s.absenceNotices lane r = [] := if_neg h

theorem settledLane_legs (r : LaneRecord) : (settledLane r).exchanges.map (·.leg) = r.exchanges.map (·.leg) := by
  unfold settledLane
  rw [List.map_map]
  refine List.map_congr_left fun e _ => ?_
  dsimp only [Function.comp]
  split <;> rfl

theorem mem_settledLane_leg {r : LaneRecord} {e : ExchangeRecord} (h : e ∈ (settledLane r).exchanges) :
    ∃ x ∈ r.exchanges, x.leg = e.leg := by
  have : e.leg ∈ (settledLane r).exchanges.map (·.leg) := List.mem_map_of_mem h
  rw [settledLane_legs] at this
  exact List.mem_map.1 this

theorem expectingLane_not {h : HeatRecord} {faulty : Bool} {n : Nat} {r : LaneRecord}
    (hk : lengthKind h n ≠ .legEnd) : expectingLane h faulty n r = r := if_pos hk

theorem State.faultyNotices_not {h : HeatRecord} {lane : Lane} {n : Nat} {r : LaneRecord} {s : State}
    (hk : lengthKind h n ≠ .legEnd) : s.faultyNotices h lane n r = [] := if_neg fun hc => hk hc.1

/-! ### A turn (R81, R123, R126, R130) -/

/-- The record of a lane that has turned and now expects length `n`, before its turn is judged. -/
def turnedLane (h : HeatRecord) (faulty : Bool) (n : Nat) (r : LaneRecord) : LaneRecord :=
  expectingLane h faulty n (settledLane (arrivedLane r))

/-- The notices of the judgement of a turn. -/
def State.turnNotices (h : HeatRecord) (lane : Lane) (n : Nat) (r : LaneRecord) (s : State) : List NoticeBody :=
  s.absenceNotices lane r ++ (settledNotices h lane .nextTurn r r.exchanges ++
    s.faultyNotices h lane n (settledLane (arrivedLane r)))

theorem State.judgeTurn_eq {h : HeatRecord} {lane : Lane} {s : State} {n : Nat}
    (hn : (s.lanes[lane]).expected = n)
    (hl : legsApart h (s.scanner.state == .fault) n (s.lanes[lane]).exchanges) :
    s.judgeTurn h lane =
      (s.putLane lane (turnedLane h (s.scanner.state == .fault) n s.lanes[lane])).tell
        (s.turnNotices h lane n s.lanes[lane]) := by
  have hself := State.putLane_self lane (settledLane (arrivedLane s.lanes[lane])) s
  have hexpected : (settledLane (arrivedLane s.lanes[lane])).expected = n := (arrivedLane_expected _).trans hn
  have hreasons : settledNotices h lane .nextTurn (arrivedLane s.lanes[lane]) (s.lanes[lane]).exchanges =
      settledNotices h lane .nextTurn s.lanes[lane] (s.lanes[lane]).exchanges := by
    unfold settledNotices
    rw [arrivedLane_reasons]
  have hmid : (s.notOnPlatform lane).settlePending h lane .nextTurn =
      (s.putLane lane (settledLane (arrivedLane s.lanes[lane]))).tell
        (s.absenceNotices lane s.lanes[lane] ++
          settledNotices h lane .nextTurn s.lanes[lane] (s.lanes[lane]).exchanges) := by
    rw [State.notOnPlatform_eq, State.settlePending_eq .nextTurn (by
      rw [State.tell_lanes, State.putLane_self, arrivedLane_exchanges]; exact hl.1),
      State.tell_lanes, State.putLane_self, arrivedLane_exchanges, State.putLane_tell, State.putLane_putLane,
      State.tell_tell, hreasons]
  unfold State.judgeTurn
  dsimp only
  rw [hmid, State.tell_lanes, hself, hexpected]
  unfold turnedLane State.turnNotices
  split
  · next hk =>
    rw [State.createExchange_eq hk (by
      rw [State.tell_lanes, hself]
      intro hfault e he
      obtain ⟨x, hx, hxe⟩ := mem_settledLane_leg he
      rw [arrivedLane_exchanges] at hx
      exact hxe ▸ hl.2 hk (beq_iff_eq.2 hfault) x hx), State.tell_lanes, hself, State.putLane_tell,
      State.putLane_putLane, State.tell_tell, List.append_assoc]
    rfl
  · next hk =>
    rw [expectingLane_not hk, State.faultyNotices_not hk, List.append_nil]

theorem touchedRecord_eq {h : HeatRecord} {n time : Nat} {wall : Wall} (hw : wall = lengthWall h n) :
    touchedRecord h n time = turnRecord n wall time := by
  subst hw
  rfl

/-- The record of a lane with its turn touched. -/
def touchedLane (n : Nat) (wall : Wall) (time : Nat) (r : LaneRecord) : LaneRecord :=
  { r with lengths := r.lengths ++ [turnRecord n wall time], gateBase := time, expected := n + 1 }

/-- A touch that is a turn. -/
theorem State.acceptTurn_eq {h : HeatRecord} {lane : Lane} {time : Nat} {s : State} {n : Nat} {wall : Wall}
    (hn : (s.lanes[lane]).expected = n) (hw : wall = lengthWall h n)
    (hl : legsApart h (s.scanner.state == .fault) (n + 1) (s.lanes[lane]).exchanges) :
    s.acceptTurn h lane time =
      (s.putLane lane (turnedLane h (s.scanner.state == .fault) (n + 1) (touchedLane n wall time s.lanes[lane]))).tell
        (.split lane (turnRecord n wall time) (s.lanes[lane]).leg ::
          s.turnNotices h lane (n + 1) (touchedLane n wall time s.lanes[lane])) := by
  unfold State.acceptTurn State.sendSplit
  dsimp only
  rw [State.updLane_eq, hn, touchedRecord_eq hw, State.notify_eq_tell]
  show State.judgeTurn h lane (State.tell _ (s.putLane lane (touchedLane n wall time s.lanes[lane]))) = _
  have hself := State.putLane_self lane (touchedLane n wall time s.lanes[lane]) s
  rw [State.judgeTurn_eq (n := n + 1) (by rw [State.tell_lanes, hself]; rfl)
    (by rw [State.tell_lanes, hself]; exact hl), State.tell_lanes, hself, State.putLane_tell,
    State.putLane_putLane, State.tell_tell]
  rfl

/-! ### A window that opens (R86, R87, R123) -/

/-- The lane with its window open. -/
def openedLane (h : HeatRecord) (e : Evidence) (r : LaneRecord) : LaneRecord :=
  { r with window := some (newWindow h r e) }

theorem State.openWindow_eq (h : HeatRecord) (lane : Lane) (e : Evidence) (s : State) :
    s.openWindow h lane e = (s.putLane lane (arrivedLane (openedLane h e s.lanes[lane]))).tell
      (s.absenceNotices lane s.lanes[lane]) := by
  unfold State.openWindow
  rw [State.updLane_eq, State.notOnPlatform_eq, State.putLane_self, State.putLane_putLane]
  rfl

/-! ### Notices that a lane's event tells -/

section

variable {lane : Lane} {r : LaneRecord} {bodies : List NoticeBody} {v t : State}
  (l : v.LaneEnds lane r bodies t) (hlen : bodies.length ≤ 64)
include l hlen

theorem State.LaneEnds.tellsAbsence {s : State} {r0 : LaneRecord} (hs : v.scanner = s.scanner)
    (hd : r0.departures = (s.lanes[lane]).departures) (hb : ∀ b ∈ v.absenceNotices lane r0, b ∈ bodies) :
    s.tellsAbsence lane t := by
  intro h0
  rw [← hs]
  refine l.tells hlen (.reaction [⟨lane, .absent .notOnPlatform, (v.scanner.channels[lane]).startLoad,
    r0.reasons⟩]) (hb _ ?_)
  unfold State.absenceNotices
  rw [if_pos (hd.trans h0)]
  exact List.mem_singleton_self _

theorem State.LaneEnds.tellsSettled {s : State} {h : HeatRecord} {cause : SettleCause} {r0 : LaneRecord}
    (hb : ∀ b ∈ settledNotices h lane cause r0 (s.lanes[lane]).exchanges, b ∈ bodies) :
    s.tellsSettled h lane cause t := fun e he hv hn =>
  l.tells hlen (.exchange lane { e with verdict := .unjudged } cause { r0.reasons with unjudgedExchange := true })
    (hb _ (mem_settledNotices he hv hn))

theorem State.LaneEnds.tellsFaulty {s : State} {h : HeatRecord} {n : Nat} {r0 : LaneRecord}
    (hs : v.scanner = s.scanner) (hb : ∀ b ∈ v.faultyNotices h lane n r0, b ∈ bodies) :
    s.tellsFaulty h lane n t := by
  intro hk hf hn
  refine l.tells hlen (.exchange lane ⟨lengthLeg h n, .opened, none, none, none, .unjudged⟩ .scannerFault
    (expectingLane h true n r0).reasons) (hb _ ?_)
  unfold State.faultyNotices
  rw [if_pos ⟨hk, by rw [hs]; exact hf, hn⟩]
  exact List.mem_singleton_self _

end

theorem State.absenceNotices_length (lane : Lane) (r : LaneRecord) (s : State) :
    (s.absenceNotices lane r).length ≤ 1 := by
  unfold State.absenceNotices
  split <;> simp

theorem State.faultyNotices_length (h : HeatRecord) (lane : Lane) (n : Nat) (r : LaneRecord) (s : State) :
    (s.faultyNotices h lane n r).length ≤ 1 := by
  unfold State.faultyNotices
  split <;> simp

theorem State.turnNotices_length {h : HeatRecord} {lane : Lane} {n : Nat} {r : LaneRecord} {s : State}
    (hl : oneEachLeg r.exchanges) : (s.turnNotices h lane n r).length ≤ 5 := by
  have h1 := s.absenceNotices_length lane r
  have h2 := settledNotices_length (h := h) (lane := lane) (cause := .nextTurn) (r := r) hl
  have h3 := s.faultyNotices_length h lane n (settledLane (arrivedLane r))
  unfold State.turnNotices
  simp only [List.length_append]
  omega

/-! ### A press (R64 to R66, R85 to R87) -/

theorem State.takePress_racing {h : HeatRecord} {lane : Lane} {s : State} (button : Button) (time : Nat)
    (hst : (s.lanes[lane]).status = .racing) : s.takePress h lane button time =
      match (s.lanes[lane]).window with
      | some w => s.updLane lane fun r => { r with window := some (collectPress w button time) }
      | none =>
        if lengthKind h (s.lanes[lane]).expected = .turn ∨ time < gateOpen h s.lanes[lane] then s
        else s.openWindow h lane (.press button time) := by
  unfold State.takePress
  exact if_neg (not_not.2 hst)

/-- A press on the state behind its edge, its lockout set. -/
def State.pressed (lane : Lane) (button : Button) (stamp : Nat) (s : State) : State :=
  { s with
    clock := max s.clock stamp
    wall := { s.wall with buttons := s.wall.buttons.set (buttonIx lane button) ⟨.closed, some (stamp + 200)⟩ } }

theorem State.buttonEdge_does {s : State} {lane : Lane} {button : Button} {level : Level} {stamp : Nat}
    (hr : s.isRunning = true) (hl : (s.wall.buttons[buttonIx lane button]).level ≠ level)
    (hm : stamp ≤ Config.masterLimit) (hq : s.quietUntil stamp = true) :
    exec (.buttonEdge lane button level stamp) s =
      .next ((s.advance stamp).buttonEdge lane button level stamp).settle := by
  show execButtonEdge lane button level stamp s = _
  unfold execButtonEdge
  dsimp only
  rw [if_neg hl, if_neg (by simp [hr]), State.pass_quiet hq, stampOf_of_le hm]

theorem lockedOut_eq_false {lockout : Option Nat} {stamp : Nat} :
    lockedOut lockout stamp = false ↔ lockout.all (fun e => decide (e ≤ stamp)) = true := by
  cases lockout with
  | none => simp [lockedOut]
  | some e => simp [lockedOut]

/-- A closing edge that is a press (R64). -/
theorem State.buttonCloses_press {s : State} {lane : Lane} {button : Button} {stamp : Nat}
    (ha : s.wall.armed = true) (hs : s.heat.startMark.getD 0 ≤ stamp)
    (hlock : lockedOut (s.wall.buttons[buttonIx lane button]).lockout stamp = false) :
    (s.advance stamp).buttonEdge lane button .closed stamp =
      (s.pressed lane button stamp).deliverPress lane button stamp := by
  show (s.advance stamp).buttonCloses lane button stamp = _
  unfold State.buttonCloses
  dsimp only
  exact if_pos ⟨ha, hs, hlock⟩

/-- What a press leaves, by what it makes of the lane's record. -/
theorem State.LaneEnds.press {s t : State} {lane : Lane} {button : Button} {stamp : Nat} {r : LaneRecord}
    {bodies : List NoticeBody} (l : (s.pressed lane button stamp).LaneEnds lane r bodies t) :
    s.PressLeaves lane button stamp r t := by
  have hw : t.wall.buttons = (s.pressed lane button stamp).wall.buttons := by
    have := congrArg (fun u : State => u.wall.buttons) l.eq
    exact this
  refine ⟨?_, ?_, fun ix hix => ?_, l.record, l.others, l.board, l.link⟩
  · rw [hw]; exact l.eq
  · rw [hw]; exact set_getElem_self _ _ _
  · rw [hw]; exact set_getElem_ne hix

/-- A press of a RACING lane, in quiet time. -/
theorem State.PressDue.does {s : State} {h : HeatRecord} {lane : Lane} {button : Button} {start stamp : Nat}
    (hdue : s.PressDue h lane button start stamp) :
    exec (.buttonEdge lane button .closed stamp) s =
        .next ((s.pressed lane button stamp).takePress h lane button (stamp - start)).settle ∧
      (s.lanes[lane]).status = .racing := by
  obtain ⟨hr, hcur, hstart, hopen, harmed, hle, hm, hq, hlock, hst⟩ := hdue
  refine ⟨?_, hst⟩
  rw [State.buttonEdge_does hr (by rw [hopen]; simp) hm hq,
    State.buttonCloses_press harmed (by rw [hstart]; exact hle) (lockedOut_eq_false.2 hlock)]
  unfold State.deliverPress
  rw [show (s.pressed lane button stamp).heat = s.heat from rfl, hcur, hstart]

/-- An edge that only moves the button's level. -/
theorem State.buttonMoves {s : State} {lane : Lane} {button : Button} {level : Level} {stamp : Nat}
    (h : level = .opened ∨ s.wall.armed = false ∨ stamp < s.heat.startMark.getD 0 ∨
      ((s.wall.buttons[buttonIx lane button]).lockout.any fun e => decide (stamp < e)) = true) :
    (s.advance stamp).buttonEdge lane button level stamp =
      (s.advance stamp).updButton (buttonIx lane button) fun r => { r with level := level } := by
  cases level with
  | opened => rfl
  | closed =>
    show (s.advance stamp).buttonCloses lane button stamp = _
    unfold State.buttonCloses
    dsimp only
    refine if_neg ?_
    rintro ⟨ha, hs, hlock⟩
    rcases h with h | h | h | h
    · cases h
    · rw [show (s.advance stamp).wall = s.wall from rfl, h] at ha; cases ha
    · exact absurd hs (Nat.not_le.2 h)
    · rw [lockedOut_eq_false] at hlock
      obtain ⟨e, he, hlt⟩ := (Option.any_eq_true _ _).1 h
      rw [show (s.advance stamp).wall = s.wall from rfl, he] at hlock
      simp at hlock hlt
      omega

/-- Settles O16. -/
theorem pressOpensTheWindow : Obligations.PressOpensTheWindow := by
  refine ⟨fun s h lane button start stamp hdue hw hk hgate => ?_, fun s h lane button start stamp w hdue hw => ?_,
    fun s h lane button start stamp hdue hw hign => ?_, fun s lane button level stamp hr hl hm hq hno => ?_,
    fun s lane button start stamp hr hstart hopen harmed hle hm hq hlock hst => ?_⟩
  · obtain ⟨he, hst⟩ := hdue.does
    have hg : ¬(lengthKind h (s.lanes[lane]).expected = .turn ∨ stamp - start < gateOpen h s.lanes[lane]) := by
      unfold gateOpen limitTicks
      rintro (hc | hc)
      · exact hk hc
      · omega
    have hp : (s.pressed lane button stamp).takePress h lane button (stamp - start) =
        (s.pressed lane button stamp).openWindow h lane (.press button (stamp - start)) := by
      rw [State.takePress_racing _ _ (by exact hst),
        show (s.pressed lane button stamp).lanes = s.lanes from rfl, hw]
      exact if_neg hg
    rw [hp, State.openWindow_eq] at he
    have l := State.lane_settles lane (arrivedLane (openedLane h (.press button (stamp - start)) s.lanes[lane]))
      ((s.pressed lane button stamp).absenceNotices lane s.lanes[lane]) (s.pressed lane button stamp)
    have hlen := ((s.pressed lane button stamp).absenceNotices_length lane s.lanes[lane]).trans (by omega : 1 ≤ 64)
    exact ⟨_, he, l.press, l.tellsAbsence hlen rfl rfl fun _ hb => hb⟩
  · obtain ⟨he, hst⟩ := hdue.does
    have hp : (s.pressed lane button stamp).takePress h lane button (stamp - start) =
        (s.pressed lane button stamp).putLane lane
          { s.lanes[lane] with window := some (collectPress w button (stamp - start)) } := by
      rw [State.takePress_racing _ _ (by exact hst),
        show (s.pressed lane button stamp).lanes = s.lanes from rfl, hw]
      rfl
    have hcollect : collectPress w button (stamp - start) =
        if (∀ e ∈ w.buttons, e.1 ≠ button) ∧ w.gateOpen ≤ stamp - start ∧ stamp - start < w.closesAt then
          { w with buttons := w.buttons ++ [(button, stamp - start)] } else w := by
      unfold collectPress
      have hall : (w.buttons.all fun e => e.1 != button) = true ↔ ∀ e ∈ w.buttons, e.1 ≠ button := by simp
      simp only [hall]
    rw [hp, hcollect] at he
    exact ⟨_, he, (State.lane_settles lane _ [] (s.pressed lane button stamp)).press⟩
  · obtain ⟨he, hst⟩ := hdue.does
    have hp : (s.pressed lane button stamp).takePress h lane button (stamp - start) =
        (s.pressed lane button stamp).putLane lane s.lanes[lane] := by
      rw [State.takePress_racing _ _ (by exact hst),
        show (s.pressed lane button stamp).lanes = s.lanes from rfl, hw,
        show (s.pressed lane button stamp).putLane lane s.lanes[lane] = s.pressed lane button stamp from
          State.putLane_same lane (s.pressed lane button stamp)]
      exact if_pos hign
    rw [hp] at he
    exact ⟨_, he, (State.lane_settles lane _ [] (s.pressed lane button stamp)).press⟩
  · have he := State.buttonEdge_does hr hl hm hq
    rw [State.buttonMoves hno] at he
    have l := State.settle_leaves
      ((s.advance stamp).updButton (buttonIx lane button) fun r => { r with level := level })
    refine ⟨_, he, ?_⟩
    generalize (State.updButton _ _ _).settle = t at l
    have hw : t.wall.buttons = _ := congrArg WallCapture.buttons l.wall
    refine ⟨?_, ?_, fun ix hix => ?_, l.board, l.link⟩
    · rw [hw]; exact l.eq
    · rw [hw]; exact set_getElem_self _ _ _
    · rw [hw]; exact set_getElem_ne hix
  · have he := State.buttonEdge_does (level := .closed) hr (by rw [hopen]; simp) hm hq
    rw [State.buttonCloses_press harmed (by rw [hstart]; exact hle) (lockedOut_eq_false.2 hlock)] at he
    have hp : (s.pressed lane button stamp).deliverPress lane button stamp =
        (s.pressed lane button stamp).putLane lane s.lanes[lane] := by
      rw [show (s.pressed lane button stamp).putLane lane s.lanes[lane] = s.pressed lane button stamp from
        State.putLane_same lane (s.pressed lane button stamp)]
      unfold State.deliverPress
      split
      · unfold State.takePress
        exact if_pos hst
      · rfl
    rw [hp] at he
    exact ⟨_, he, (State.lane_settles lane _ [] (s.pressed lane button stamp)).press,
      State.settle_keepsSilent rfl⟩

end Sys2Proof.Machine

/-!
PROOFS. A closure that qualifies, and what its touch makes of the lane.
-/

namespace Sys2Proof.Machine

/-! ### The closure (R58, R62) -/

theorem padIx_parts (lane : Lane) (wall : Wall) :
    padLane (padIx lane wall) = lane ∧ padWall (padIx lane wall) = wall :=
  padIx_injective _ _ _ _ (padOf_parts (padIx lane wall))

/-- The state behind the qualification of a closure: the pad is HELD. -/
def State.qualified (p : Profile) (lane : Lane) (wall : Wall) (lead : Nat) (s : State) : State :=
  { s with
    clock := max s.clock (lead + p.qualify)
    wall := { s.wall with
      pads := s.wall.pads.set (padIx lane wall) { s.wall.pads[padIx lane wall] with capture := .held } } }

theorem State.qualifyTicks_eq {p : Profile} {s : State} (hforce : s.store.inForce = some p) :
    s.qualifyTicks = p.qualify := by
  unfold State.qualifyTicks
  rw [hforce]
  rfl

/-- A closure qualifies when it has lasted Q ticks, in quiet time. -/
theorem State.padQualifyTime_does {s : State} {p : Profile} {lane : Lane} {wall : Wall} {lead : Nat}
    (hr : s.isRunning = true) (hforce : s.store.inForce = some p)
    (hcap : (s.wall.pads[padIx lane wall]).capture = .qualifying lead)
    (hq : s.quietUntil (lead + p.qualify) = true) :
    exec (.padQualifyTime lane wall) s =
      .next ((s.qualified p lane wall lead).deliverTouch (padIx lane wall) lead).settle := by
  have hd : ∀ u : State, u.wall = s.wall → u.store = s.store →
      State.qualifyDeadline (padIx lane wall) u = some (lead + p.qualify) := by
    intro u hw hs
    unfold State.qualifyDeadline
    rw [hw, hcap]
    dsimp only
    rw [State.qualifyTicks_eq (by rw [hs]; exact hforce)]
  rw [State.ifDue_does (c := .padQualifyTime lane wall) (State.qualifyPad (padIx lane wall)) hr rfl
    (hd s rfl rfl) hq (hd _ rfl rfl)]
  unfold State.qualifyPad
  rw [show (s.advance (lead + p.qualify)).wall = s.wall from rfl, hcap]
  dsimp only
  rw [if_pos (by
    rw [State.qualifyTicks_eq (s := s.advance _) hforce]
    exact Nat.le_max_right _ _)]
  rfl

/-- What a qualified touch leaves, by what it makes of the lane's record. -/
theorem State.LaneEnds.touch {s t : State} {p : Profile} {lane : Lane} {wall : Wall} {lead : Nat} {r : LaneRecord}
    {bodies : List NoticeBody} (l : (s.qualified p lane wall lead).LaneEnds lane r bodies t) :
    s.TouchLeaves p lane wall lead r t := by
  have hw : t.wall.pads = (s.qualified p lane wall lead).wall.pads := by
    have := congrArg (fun u : State => u.wall.pads) l.eq
    exact this
  refine ⟨?_, ?_, fun pad hpad => ?_, l.record, l.others, l.board, l.link⟩
  · rw [hw]; exact l.eq
  · rw [hw]; exact set_getElem_self _ _ _
  · rw [hw]; exact set_getElem_ne hpad

/-- The touch of a closure. -/
def touchOf (p : Profile) (lane : Lane) (wall : Wall) (start lead time : Nat) : PadTouch :=
  ⟨time, lead - start, p.latencies[padIx lane wall]⟩

/-- A touch of a RACING lane, in quiet time. -/
theorem State.TouchDue.does {s : State} {h : HeatRecord} {p : Profile} {lane : Lane} {wall : Wall}
    {start lead time : Nat} (hdue : s.TouchDue h p lane wall start lead time) :
    exec (.padQualifyTime lane wall) s = .next ((s.qualified p lane wall lead).takePad h lane wall
        (touchOf p lane wall start lead time)).settle ∧
      (s.lanes[lane]).status = .racing := by
  obtain ⟨hr, hrace, hcur, hstart, hforce, hcap, hq, hlimit, htime, hst⟩ := hdue
  refine ⟨?_, hst⟩
  rw [State.padQualifyTime_does hr hforce hcap hq]
  unfold State.deliverTouch
  rw [show (s.qualified p lane wall lead).heat = s.heat from rfl, hcur, hstart]
  dsimp only
  have hlat : (s.qualified p lane wall lead).padLatency (padIx lane wall) = p.latencies[padIx lane wall] := by
    unfold State.padLatency
    rw [show (s.qualified p lane wall lead).store = s.store from rfl, hforce]
    rfl
  rw [if_pos (by exact hlimit), (padIx_parts lane wall).1, (padIx_parts lane wall).2, hlat]
  unfold compensate touchOf
  rw [htime]

/-! ### What a lane makes of a touch (R80 to R87) -/

section

variable {h : HeatRecord} {lane : Lane} {wall : Wall} {touch : PadTouch} {s : State}
  (hst : (s.lanes[lane]).status = .racing)
include hst

/-- A touch at the other wall. -/
theorem State.takePad_other (hw : wall ≠ lengthWall h (s.lanes[lane]).expected) :
    s.takePad h lane wall touch = s.skip h lane touch := by
  unfold State.takePad
  exact (if_neg (not_not.2 hst)).trans (if_pos hw)

/-- A touch at the expected wall. -/
theorem State.takePad_expected (hw : wall = lengthWall h (s.lanes[lane]).expected) :
    s.takePad h lane wall touch =
      match (s.lanes[lane]).window with
      | some w => s.updLane lane fun r => { r with window := some (collectPad w touch) }
      | none =>
        if touch.time < gateOpen h s.lanes[lane] then s
        else
          match lengthKind h (s.lanes[lane]).expected with
          | .turn => s.acceptTurn h lane touch.time
          | _ => s.openWindow h lane (.touch touch) := by
  unfold State.takePad
  exact (if_neg (not_not.2 hst)).trans (if_neg (not_not.2 hw))

end

/-- The other wall is the next length's. -/
theorem lengthWall_succ {h : HeatRecord} {n : Nat} {wall : Wall} (hw : wall ≠ lengthWall h n) :
    wall = lengthWall h (n + 1) := by
  unfold lengthWall at *
  cases wall <;> by_cases hn : n % 2 = h.lengths % 2 <;> by_cases hm : (n + 1) % 2 = h.lengths % 2 <;>
    simp_all <;> omega

theorem State.skip_eq {h : HeatRecord} {lane : Lane} {touch : PadTouch} {s : State}
    (hs : skips h s.lanes[lane] touch.time = true) : s.skip h lane touch =
      match lengthKind h (s.lanes[lane]).expected with
      | .turn => s.skipTurn h lane touch
      | .legEnd => s.skipLegEnd h lane touch
      | .final => s := by
  unfold State.skip
  exact if_pos hs

theorem skips_turn {h : HeatRecord} {r : LaneRecord} {time : Nat} (hn : r.expected < h.lengths)
    (ht : r.gateBase + 2 * (h.inhibit * 100) ≤ time) (hk : lengthKind h r.expected = .turn) :
    skips h r time = true := by
  unfold skips limitTicks
  dsimp only
  rw [hk, decide_eq_true hn, decide_eq_true ht]
  rfl

/-- The record of a turn that was missed (R83). -/
def missedLane (h : HeatRecord) (n : Nat) (r : LaneRecord) : LaneRecord :=
  { r with
    lengths := r.lengths ++ [passedRecord n (lengthWall h n) .turn .missed], expected := n + 1 }

/-- The start of a skipped turn: its record and its notice. -/
def State.turnMissed (h : HeatRecord) (lane : Lane) (n : Nat) (s : State) : State :=
  (s.putLane lane (missedLane h n s.lanes[lane])).tell
    [.split lane (passedRecord n (lengthWall h n) .turn .missed) (s.lanes[lane]).leg]

theorem State.skipTurn_eq {h : HeatRecord} {lane : Lane} {touch : PadTouch} {s : State} {n : Nat}
    (hn : (s.lanes[lane]).expected = n) : s.skipTurn h lane touch =
      match lengthKind h (n + 1) with
      | .turn => (s.turnMissed h lane n).acceptTurn h lane touch.time
      | .legEnd =>
        ((((s.turnMissed h lane n).updLane lane fun r => { r with gateBase := r.gateBase + limitTicks h.inhibit
            }).notOnPlatform lane).createExchange h lane (lengthLeg h (n + 1))).openWindow h lane (.touch touch)
      | .final =>
        ((s.turnMissed h lane n).updLane lane fun r =>
          { r with gateBase := r.gateBase + limitTicks h.inhibit }).openWindow h lane (.touch touch) := by
  unfold State.skipTurn State.sendSplit
  dsimp only
  rw [State.updLane_eq, hn, State.notify_eq_tell]
  rfl

/-- A turn missed and the next one touched. -/
theorem State.skipTurn_turn {h : HeatRecord} {lane : Lane} {touch : PadTouch} {s : State} {n : Nat} {wall : Wall}
    (hn : (s.lanes[lane]).expected = n) (hw : wall = lengthWall h (n + 1)) (hk : lengthKind h (n + 1) = .turn)
    (hl : legsApart h (s.scanner.state == .fault) (n + 2) (s.lanes[lane]).exchanges) :
    s.skipTurn h lane touch =
      (s.putLane lane (turnedLane h (s.scanner.state == .fault) (n + 2)
        (touchedLane (n + 1) wall touch.time (missedLane h n s.lanes[lane])))).tell
        (.split lane (passedRecord n (lengthWall h n) .turn .missed) (s.lanes[lane]).leg ::
          .split lane (turnRecord (n + 1) wall touch.time) (s.lanes[lane]).leg ::
          s.turnNotices h lane (n + 2) (touchedLane (n + 1) wall touch.time (missedLane h n s.lanes[lane]))) := by
  have hself := State.putLane_self lane (missedLane h n s.lanes[lane]) s
  rw [State.skipTurn_eq hn, hk]
  dsimp only
  unfold State.turnMissed
  rw [State.acceptTurn_eq (n := n + 1) (wall := wall) (by rw [State.tell_lanes, hself]; rfl) hw
    (by rw [State.tell_lanes, hself]; exact hl), State.tell_lanes, hself, State.putLane_tell,
    State.putLane_putLane, State.tell_tell]
  rfl

/-- The record of a lane whose skipped turn stands before a window that the touch opens (R83, R86). -/
def skippedLane (h : HeatRecord) (n : Nat) (touch : PadTouch) (r : LaneRecord) : LaneRecord :=
  openedLane h (.touch touch)
    { missedLane h n r with gateBase := r.gateBase + limitTicks h.inhibit }

theorem expectingLane_counted {h : HeatRecord} {faulty : Bool} {n : Nat} {r : LaneRecord}
    (hc : r.departures ≠ 0) : (expectingLane h faulty n r).departures ≠ 0 := by
  unfold expectingLane
  split
  · exact hc
  · split
    · exact Nat.succ_ne_zero _
    · exact hc

/-- A window, an exchange and an absence are told apart in the lane's record. -/
theorem openedLane_expecting (h : HeatRecord) (faulty : Bool) (n : Nat) (touch : PadTouch) (r : LaneRecord) :
    openedLane h (.touch touch) (expectingLane h faulty n (arrivedLane r)) =
      expectingLane h faulty n (arrivedLane (openedLane h (.touch touch) r)) := by
  unfold openedLane expectingLane arrivedLane newWindow gateOpen
  split <;> split <;> (try split) <;> rfl

theorem State.absenceNotices_of {lane : Lane} {r q : LaneRecord} {s : State} (hd : q.departures = r.departures)
    (hr : q.reasons = r.reasons) : s.absenceNotices lane q = s.absenceNotices lane r := by
  unfold State.absenceNotices
  rw [hd, hr]

/-- A turn missed, and a window of the length behind it opened. -/
theorem State.skipTurn_window {h : HeatRecord} {lane : Lane} {touch : PadTouch} {s : State} {n : Nat}
    (hn : (s.lanes[lane]).expected = n) (hk : lengthKind h (n + 1) ≠ .turn)
    (hf : lengthKind h (n + 1) = .legEnd → s.scanner.state = .fault →
      ∀ e ∈ (s.lanes[lane]).exchanges, e.leg ≠ lengthLeg h (n + 1)) :
    s.skipTurn h lane touch =
      (s.putLane lane (expectingLane h (s.scanner.state == .fault) (n + 1)
        (arrivedLane (skippedLane h n touch s.lanes[lane])))).tell
        (.split lane (passedRecord n (lengthWall h n) .turn .missed) (s.lanes[lane]).leg ::
          (s.absenceNotices lane s.lanes[lane] ++ s.faultyNotices h lane (n + 1)
            (arrivedLane { missedLane h n s.lanes[lane] with
              gateBase := (s.lanes[lane]).gateBase + limitTicks h.inhibit }))) := by
  have hself := State.putLane_self lane (missedLane h n s.lanes[lane]) s
  generalize hg : ({ missedLane h n s.lanes[lane] with
    gateBase := (s.lanes[lane]).gateBase + limitTicks h.inhibit } : LaneRecord) = g
  have hgx : g.exchanges = (s.lanes[lane]).exchanges := by rw [← hg]; rfl
  have habs : s.absenceNotices lane g = s.absenceNotices lane s.lanes[lane] :=
    State.absenceNotices_of (by rw [← hg]; rfl) (by rw [← hg]; rfl)
  have hskipped : skippedLane h n touch s.lanes[lane] = openedLane h (.touch touch) g := by rw [← hg]; rfl
  have hupd : ((s.turnMissed h lane n).updLane lane fun r =>
      { r with gateBase := r.gateBase + limitTicks h.inhibit }) =
      (s.putLane lane g).tell
        [.split lane (passedRecord n (lengthWall h n) .turn .missed) (s.lanes[lane]).leg] := by
    unfold State.turnMissed
    rw [State.updLane_eq, State.tell_lanes, hself, State.putLane_tell, State.putLane_putLane]
    exact congrArg (fun r => State.tell _ (s.putLane lane r)) hg
  have hgself := State.putLane_self lane g s
  rw [State.skipTurn_eq hn]
  cases hkind : lengthKind h (n + 1) with
  | turn => exact absurd hkind hk
  | final =>
    dsimp only
    have hne : lengthKind h (n + 1) ≠ .legEnd := by rw [hkind]; simp
    rw [hupd, State.openWindow_eq, State.tell_lanes, hgself, State.putLane_tell, State.putLane_putLane,
      State.tell_tell, expectingLane_not hne, State.faultyNotices_not hne, List.append_nil, hskipped, ← habs]
    rfl
  | legEnd =>
    dsimp only
    have harr := State.putLane_self lane (arrivedLane g) s
    have hexp := State.putLane_self lane (expectingLane h (s.scanner.state == .fault) (n + 1) (arrivedLane g)) s
    have hcreated : ∀ bs, (((s.putLane lane g).tell bs).notOnPlatform lane).createExchange h lane
        (lengthLeg h (n + 1)) =
        (s.putLane lane (expectingLane h (s.scanner.state == .fault) (n + 1) (arrivedLane g))).tell
          (bs ++ s.absenceNotices lane g ++ s.faultyNotices h lane (n + 1) (arrivedLane g)) := by
      intro bs
      rw [State.notOnPlatform_eq, State.tell_lanes, hgself, State.putLane_tell, State.putLane_putLane,
        State.tell_tell, State.createExchange_eq hkind (by
          rw [State.tell_lanes, harr, arrivedLane_exchanges, hgx]; exact hf hkind), State.tell_lanes, harr,
        State.putLane_tell, State.putLane_putLane, State.tell_tell]
      rfl
    have hcount : (openedLane h (.touch touch) (expectingLane h (s.scanner.state == .fault) (n + 1)
        (arrivedLane g))).departures ≠ 0 := expectingLane_counted (arrivedLane_counted g)
    rw [hupd, hcreated, State.openWindow_eq, State.tell_lanes, hexp, arrivedLane_of_counted hcount,
      State.absenceNotices_counted (expectingLane_counted (arrivedLane_counted g)), State.tell_nil,
      State.putLane_tell, State.putLane_putLane, openedLane_expecting, ← hskipped, habs, List.append_assoc]
    rfl

/-! ### A leg end passed over (R84, R131) -/

/-- The record of a lane that has passed a leg end without a time, its exchange UNJUDGED. -/
def passedLane (h : HeatRecord) (n : Nat) (before : List ExchangeRecord) (unjudged : ExchangeRecord)
    (r : LaneRecord) : LaneRecord :=
  { r with
    lengths := r.lengths ++ [passedRecord n (lengthWall h n) .legEnd .noTime]
    reasons := { r.reasons with noTime := true, unjudgedExchange := true }
    leg := r.leg + 1
    expected := n + 1
    departures := if r.departures = unjudged.leg then unjudged.leg + 1 else r.departures
    exchanges := before ++ [unjudged] }

/-- The notices of the leg end passed over. -/
def passedNotices (h : HeatRecord) (lane : Lane) (n : Nat) (unjudged : ExchangeRecord) (r : LaneRecord) :
    List NoticeBody :=
  .split lane (passedRecord n (lengthWall h n) .legEnd .noTime) (r.leg + 1) ::
    if h.notify = .nothing then []
    else [.exchange lane unjudged .legEndMissed { r.reasons with noTime := true, unjudgedExchange := true }]

theorem none_pending {before : List ExchangeRecord} {e unjudged : ExchangeRecord}
    (hb : ∀ x ∈ before, x.leg ≠ e.leg ∧ x.verdict ≠ .pending) (hu : unjudged.verdict = .unjudged) :
    ¬∃ x ∈ before ++ [unjudged], x.verdict = .pending := by
  rintro ⟨x, hx, hxv⟩
  rcases List.mem_append.1 hx with hx | hx
  · exact (hb x hx).2 hxv
  · rw [List.mem_singleton.1 hx, hu] at hxv
    cases hxv

theorem passedLane_counted {h : HeatRecord} {n : Nat} {before : List ExchangeRecord} {unjudged : ExchangeRecord}
    {r : LaneRecord} (hc : r.departures ≠ 0) : (passedLane h n before unjudged r).departures ≠ 0 := by
  show (if r.departures = unjudged.leg then unjudged.leg + 1 else r.departures) ≠ 0
  split
  · exact Nat.succ_ne_zero _
  · exact hc

theorem passedNotices_length (h : HeatRecord) (lane : Lane) (n : Nat) (unjudged : ExchangeRecord)
    (r : LaneRecord) : (passedNotices h lane n unjudged r).length ≤ 2 := by
  unfold passedNotices
  split <;> simp

/-- A turn of a lane that has counted a departure and whose exchanges are settled, with a scanner that works. -/
theorem turnedLane_of_settled {h : HeatRecord} {faulty : Bool} {n : Nat} {r : LaneRecord} (hc : r.departures ≠ 0)
    (hp : ¬∃ e ∈ r.exchanges, e.verdict = .pending) (hf : lengthKind h n = .legEnd → faulty = false) :
    turnedLane h faulty n r = expectingLane h false n r := by
  unfold turnedLane
  rw [arrivedLane_of_counted hc, settledLane_none hp]
  by_cases hk : lengthKind h n = .legEnd
  · rw [hf hk]
  · rw [expectingLane_not hk, expectingLane_not hk]

theorem State.skipLegEnd_eq {h : HeatRecord} {lane : Lane} {touch : PadTouch} {s : State} {n : Nat} {wall : Wall}
    {before : List ExchangeRecord} {e unjudged : ExchangeRecord} (hn : (s.lanes[lane]).expected = n)
    (hw : wall = lengthWall h (n + 1)) (hx : (s.lanes[lane]).exchanges = before ++ [e])
    (hb : ∀ x ∈ before, x.leg ≠ e.leg ∧ x.verdict ≠ .pending) (hleg : e.leg = lengthLeg h n)
    (hd : e.departure.isSome = true) (hv : e.verdict = .pending)
    (hf : lengthKind h (n + 2) = .legEnd → s.scanner.state ≠ .fault)
    (hu : unjudged = { e with legEnd := .none, incoming := none, verdict := .unjudged }) :
    s.skipLegEnd h lane touch =
      (s.putLane lane (turnedLane h (s.scanner.state == .fault) (n + 2)
        (touchedLane (n + 1) wall touch.time (passedLane h n before unjudged s.lanes[lane])))).tell
        (passedNotices h lane n unjudged s.lanes[lane] ++
          .split lane (turnRecord (n + 1) wall touch.time) ((s.lanes[lane]).leg + 1) ::
          s.turnNotices h lane (n + 2)
            (touchedLane (n + 1) wall touch.time (passedLane h n before unjudged s.lanes[lane]))) := by
  have hbl : ∀ x ∈ before, x.leg ≠ e.leg := fun x hx => (hb x hx).1
  have hul : unjudged.leg = e.leg := by rw [hu]
  have huv : unjudged.verdict = .unjudged := by rw [hu]
  have hjudged : judgedExchange h (endedExchange .none none e) = unjudged := by
    obtain ⟨d, hd⟩ := Option.isSome_iff_exists.1 hd
    unfold judgedExchange endedExchange
    rw [hd, hu]
    exact congrArg (fun x : Option Int => { e with
      legEnd := .none, incoming := none, departure := x, verdict := .unjudged }) hd.symm
  generalize hr : ({ s.lanes[lane] with
    lengths := (s.lanes[lane]).lengths ++ [noTimeRecord h n]
    reasons := (s.lanes[lane]).reasons.union .onlyNoTime
    expected := n + 1 } : LaneRecord) = r
  have hself := State.putLane_self lane r s
  have hreasons : ({ r.reasons with unjudgedExchange := true } : ReviewReasons) =
      { (s.lanes[lane]).reasons with noTime := true, unjudgedExchange := true } := by
    rw [← hr]
    simp [ReviewReasons.union, ReviewReasons.onlyNoTime, ReviewReasons.empty]
  have hj : judgedLane before unjudged r =
      { passedLane h n before unjudged s.lanes[lane] with leg := (s.lanes[lane]).leg } := by
    rw [judgedLane_unjudged r huv, hreasons]
    rw [← hr]
    rfl
  have hclosed : ((s.putLane lane r).tell
        [.split lane (passedRecord n (lengthWall h n) .legEnd .noTime) ((s.lanes[lane]).leg + 1)]).legEndClosed
        h lane (lengthLeg h n) .none none .legEndMissed =
      (s.putLane lane (judgedLane before unjudged r)).tell (passedNotices h lane n unjudged s.lanes[lane]) := by
    rw [← hleg, State.legEndClosed_eq (before := before) (e := e) .none none .legEndMissed
      (by rw [State.tell_lanes, hself, ← hr]; exact hx) hbl hv hjudged, State.tell_lanes, hself,
      State.putLane_tell, State.putLane_putLane, State.tell_tell, huv]
    unfold passedNotices
    by_cases hno : h.notify = .nothing
    · rw [if_pos hno, if_neg fun hc => reportsVerdict_unjudged.1 hc hno]
      rfl
    · rw [if_neg hno, if_pos (reportsVerdict_unjudged.2 hno), hj]
      rfl
  have hnone := none_pending hb huv
  have hupd : (s.updLane lane fun r => { r with
      lengths := r.lengths ++ [noTimeRecord h n]
      reasons := r.reasons.union .onlyNoTime
      expected := r.expected + 1 }) = s.putLane lane r := by
    rw [State.updLane_eq, hn, hr]
  unfold State.skipLegEnd State.sendSplit
  dsimp only
  rw [hn, State.notify_eq_tell, hupd]
  show State.acceptTurn h lane touch.time (State.updLane lane _ (State.legEndClosed h lane (lengthLeg h n)
    .none none .legEndMissed ((s.putLane lane r).tell [.split lane
      (passedRecord n (lengthWall h n) .legEnd .noTime) ((s.lanes[lane]).leg + 1)]))) = _
  have hjself := State.putLane_self lane (judgedLane before unjudged r) s
  have hpself := State.putLane_self lane (passedLane h n before unjudged s.lanes[lane]) s
  rw [hclosed, State.updLane_eq, State.tell_lanes, hjself, State.putLane_tell, State.putLane_putLane, hj]
  show State.acceptTurn h lane touch.time (State.tell _
    (s.putLane lane (passedLane h n before unjudged s.lanes[lane]))) = _
  rw [State.acceptTurn_eq (n := n + 1) (wall := wall) (by rw [State.tell_lanes, hpself]; rfl) hw (by
      rw [State.tell_lanes, hpself]
      exact ⟨fun hp => absurd hp hnone, fun hk hfault => absurd (beq_iff_eq.1 hfault) (hf hk)⟩),
    State.tell_lanes, hpself, State.putLane_tell, State.putLane_putLane, State.tell_tell]
  rfl

/-- A touch that finds nothing to skip to is ignored. -/
theorem skips_not {h : HeatRecord} {lane : Lane} {s : State} {n time : Nat} (hn : n = (s.lanes[lane]).expected)
    (hign : h.lengths ≤ n ∨ time < (s.lanes[lane]).gateBase + 2 * (h.inhibit * 100) ∨
      (lengthKind h n = .legEnd ∧ ((s.lanes[lane]).window ≠ none ∨
        ∀ e ∈ (s.lanes[lane]).exchanges, e.leg = lengthLeg h n → e.departure = none))) :
    skips h s.lanes[lane] time = false := by
  subst hn
  unfold skips limitTicks
  dsimp only
  rcases hign with h1 | h2 | ⟨hk, h3 | h3⟩
  · rw [decide_eq_false (by omega : ¬(s.lanes[lane]).expected < h.lengths)]
    rfl
  · rw [decide_eq_false (by omega : ¬(s.lanes[lane]).gateBase + 2 * (h.inhibit * 100) ≤ time)]
    simp
  · rw [hk]
    dsimp only
    rw [Option.isNone_eq_false_iff.2 (Option.isSome_iff_ne_none.2 h3)]
    simp
  · rw [hk]
    dsimp only
    have : ((exchangeOf (lengthLeg h (s.lanes[lane]).expected) s.lanes[lane]).any fun e => e.departure.isSome) =
        false := by
      rw [Option.any_eq_false]
      intro e he
      have hleg : e.leg = lengthLeg h (s.lanes[lane]).expected := by
        simpa using List.find?_some he
      rw [h3 e (List.mem_of_find?_eq_some he) hleg]
      simp
    rw [this]
    simp

theorem skips_legEnd {h : HeatRecord} {r : LaneRecord} {time : Nat} {before : List ExchangeRecord}
    {e : ExchangeRecord} (hn : r.expected < h.lengths) (ht : r.gateBase + 2 * (h.inhibit * 100) ≤ time)
    (hk : lengthKind h r.expected = .legEnd) (hw : r.window = none) (hx : r.exchanges = before ++ [e])
    (hb : ∀ x ∈ before, x.leg ≠ e.leg) (hleg : e.leg = lengthLeg h r.expected)
    (hd : e.departure.isSome = true) : skips h r time = true := by
  unfold skips limitTicks
  dsimp only
  rw [hk, hw, ← hleg, exchangeOf_last hx hb, decide_eq_true hn, decide_eq_true ht]
  simpa using hd

/-! ### What a touch does, case by case (R81 to R85) -/

section

variable {v : State} {h : HeatRecord} {lane : Lane} {wall : Wall} {touch : PadTouch} {n : Nat}
  (hst : (v.lanes[lane]).status = .racing) (hn : n = (v.lanes[lane]).expected)
include hst hn

theorem State.takePad_turns (hw : wall = lengthWall h n) (hk : lengthKind h n = .turn)
    (hwin : (v.lanes[lane]).window = none) (hgate : (v.lanes[lane]).gateBase + h.inhibit * 100 ≤ touch.time) :
    v.takePad h lane wall touch = v.acceptTurn h lane touch.time := by
  subst hn
  rw [State.takePad_expected hst hw, hwin, hk]
  exact if_neg (by unfold gateOpen limitTicks; exact Nat.not_lt.2 hgate)

theorem State.takePad_opens (hw : wall = lengthWall h n) (hwin : (v.lanes[lane]).window = none)
    (hk : lengthKind h n ≠ .turn ∨ touch.time < (v.lanes[lane]).gateBase + h.inhibit * 100) :
    v.takePad h lane wall touch =
      if touch.time < (v.lanes[lane]).gateBase + h.inhibit * 100 then v else v.openWindow h lane (.touch touch) := by
  subst hn
  rw [State.takePad_expected hst hw, hwin]
  dsimp only
  by_cases hg : touch.time < (v.lanes[lane]).gateBase + h.inhibit * 100
  · rw [if_pos hg]
    exact if_pos (by unfold gateOpen limitTicks; exact hg)
  · rw [if_neg hg]
    refine (if_neg (by unfold gateOpen limitTicks; exact hg)).trans ?_
    split
    · next hc => exact absurd hc (hk.resolve_right hg)
    · rfl

theorem State.takePad_collects {w : FinishWindow} (hw : wall = lengthWall h n)
    (hwin : (v.lanes[lane]).window = some w) : v.takePad h lane wall touch =
      v.putLane lane { v.lanes[lane] with window := some (collectPad w touch) } := by
  subst hn
  rw [State.takePad_expected hst hw, hwin]
  rfl

theorem State.takePad_skipsTurn (hw : wall ≠ lengthWall h n) (hlt : n < h.lengths) (hk : lengthKind h n = .turn)
    (hgate : (v.lanes[lane]).gateBase + 2 * (h.inhibit * 100) ≤ touch.time) :
    v.takePad h lane wall touch = v.skipTurn h lane touch := by
  subst hn
  rw [State.takePad_other hst hw, State.skip_eq (skips_turn hlt hgate hk), hk]

theorem State.takePad_skipsLegEnd {before : List ExchangeRecord} {e : ExchangeRecord} (hw : wall ≠ lengthWall h n)
    (hlt : n < h.lengths) (hk : lengthKind h n = .legEnd)
    (hgate : (v.lanes[lane]).gateBase + 2 * (h.inhibit * 100) ≤ touch.time) (hwin : (v.lanes[lane]).window = none)
    (hx : (v.lanes[lane]).exchanges = before ++ [e]) (hb : ∀ x ∈ before, x.leg ≠ e.leg) (hleg : e.leg = lengthLeg h n)
    (hd : e.departure.isSome = true) : v.takePad h lane wall touch = v.skipLegEnd h lane touch := by
  subst hn
  rw [State.takePad_other hst hw, State.skip_eq (skips_legEnd hlt hgate hk hwin hx hb hleg hd), hk]

theorem State.takePad_passes (hw : wall ≠ lengthWall h n)
    (hign : h.lengths ≤ n ∨ touch.time < (v.lanes[lane]).gateBase + 2 * (h.inhibit * 100) ∨
      (lengthKind h n = .legEnd ∧ ((v.lanes[lane]).window ≠ none ∨
        ∀ e ∈ (v.lanes[lane]).exchanges, e.leg = lengthLeg h n → e.departure = none))) :
    v.takePad h lane wall touch = v := by
  have hskips := skips_not hn hign
  subst hn
  rw [State.takePad_other hst hw]
  unfold State.skip
  exact if_neg (by rw [hskips]; exact Bool.false_ne_true)

end

/-! ### The records that a touch leaves -/

theorem touchedLane_missedLane (h : HeatRecord) (n : Nat) (wall : Wall) (time : Nat) (r : LaneRecord) :
    touchedLane (n + 1) wall time (missedLane h n r) =
      { r with
        lengths := r.lengths ++ [passedRecord n (lengthWall h n) .turn .missed, turnRecord (n + 1) wall time]
        gateBase := time
        expected := n + 2 } := by
  unfold touchedLane missedLane
  simp

/-- The window that a touch opens. -/
theorem newWindow_touch (h : HeatRecord) (r : LaneRecord) (touch : PadTouch) : newWindow h r (.touch touch) =
    ⟨touch.time, touch.time + h.buttonWindow * 100, r.gateBase + h.inhibit * 100, some touch, []⟩ := rfl

theorem skippedLane_eq (h : HeatRecord) (n time lead latency : Nat) (r : LaneRecord) :
    skippedLane h n ⟨time, lead, latency⟩ r =
      { r with
        lengths := r.lengths ++ [passedRecord n (lengthWall h n) .turn .missed]
        gateBase := r.gateBase + h.inhibit * 100
        expected := n + 1
        window := some
          { openedBy := time
            closesAt := time + h.buttonWindow * 100
            gateOpen := r.gateBase + 2 * (h.inhibit * 100)
            pad := some ⟨time, lead, latency⟩
            buttons := [] } } := by
  unfold skippedLane openedLane missedLane
  rw [newWindow_touch]
  unfold limitTicks
  dsimp only
  rw [Nat.two_mul, Nat.add_assoc]

theorem touchedLane_passedLane {h : HeatRecord} {n : Nat} {wall : Wall} {time : Nat} {before : List ExchangeRecord}
    {unjudged : ExchangeRecord} {leg : Nat} (r : LaneRecord) (hleg : unjudged.leg = leg) :
    touchedLane (n + 1) wall time (passedLane h n before unjudged r) =
      { r with
        lengths := r.lengths ++ [passedRecord n (lengthWall h n) .legEnd .noTime, turnRecord (n + 1) wall time]
        reasons := { r.reasons with noTime := true, unjudgedExchange := true }
        gateBase := time
        leg := r.leg + 1
        expected := n + 2
        departures := if r.departures = leg then leg + 1 else r.departures
        exchanges := before ++ [unjudged] } := by
  unfold touchedLane passedLane
  rw [hleg]
  simp

/-! ### The touch as an event -/

/-- A turn, at the end of its event: its notices are told. -/
theorem State.LaneEnds.tellsTurn {s v t : State} {h : HeatRecord} {lane : Lane} {n : Nat} {r r0 : LaneRecord}
    {before : List NoticeBody} (l : v.LaneEnds lane r (before ++ v.turnNotices h lane n r0) t)
    (hb : before.length ≤ 2) (hs : v.scanner = s.scanner) (hd : r0.departures = (s.lanes[lane]).departures)
    (hx : r0.exchanges = (s.lanes[lane]).exchanges) (hone : oneEachLeg r0.exchanges) :
    (∀ b ∈ before, t.tells ⟨t.masterTime, b.withReasons t.lanes⟩) ∧ s.tellsAbsence lane t ∧
      s.tellsSettled h lane .nextTurn t ∧ s.tellsFaulty h lane n t := by
  have hlen : (before ++ v.turnNotices h lane n r0).length ≤ 64 := by
    have := State.turnNotices_length (h := h) (lane := lane) (n := n) (s := v) hone
    rw [List.length_append]
    omega
  unfold State.turnNotices at l hlen
  refine ⟨fun b hm => l.tells hlen b (List.mem_append_left _ hm), l.tellsAbsence hlen hs hd fun b hm => ?_,
    l.tellsSettled hlen (r0 := r0) fun b hm => ?_,
    l.tellsFaulty hlen (r0 := settledLane (arrivedLane r0)) hs fun b hm => ?_⟩
  · exact List.mem_append_right _ (List.mem_append_left _ hm)
  · rw [← hx] at hm
    exact List.mem_append_right _ (List.mem_append_right _ (List.mem_append_left _ hm))
  · exact List.mem_append_right _ (List.mem_append_right _ (List.mem_append_right _ hm))

/-- A touch that changes nothing of its lane. -/
theorem State.touch_ignored {s : State} {p : Profile} {lane : Lane} {wall : Wall} {lead : Nat} :
    s.TouchLeaves p lane wall lead s.lanes[lane] (s.qualified p lane wall lead).settle := by
  have l := State.lane_settles lane s.lanes[lane] [] (s.qualified p lane wall lead)
  rw [show (s.qualified p lane wall lead).putLane lane s.lanes[lane] = s.qualified p lane wall lead from
    State.putLane_same lane (s.qualified p lane wall lead), State.tell_nil] at l
  exact l.touch

/-- Settles O15: by the case of the touch, and the records and notices of that case. -/
theorem qualifiedTouchMakesATurn : Obligations.QualifiedTouchMakesATurn := by
  refine ⟨fun s h p lane wall start lead time n hdue hn hw hk hwin hgate hl => ?_,
    fun s h p lane wall start lead time n hdue hn hw hlt hk hk' hgate hl => ?_,
    fun s h p lane wall start lead time n hdue hn hw hlt hk hk' hgate hf => ?_,
    fun s h p lane wall start lead time n before e unjudged hdue hn hw hlt hk hgate hwin hx hb hleg hd hv hcount hf
      hu => ?_,
    fun s h p lane wall start lead time n hdue hn hw hign => ?_,
    fun s h p lane wall start lead time n hdue hn hw hwin hkt => ?_,
    fun s h p lane wall start lead time n w hdue hn hw hwin => ?_,
    fun s p lane wall lead hr hstart hforce hcap hq hst => ?_⟩
  · obtain ⟨he, hst⟩ := hdue.does
    rw [State.takePad_turns (v := s.qualified p lane wall lead)
      (touch := touchOf p lane wall start lead time) hst hn hw hk hwin hgate,
      show (touchOf p lane wall start lead time).time = time from rfl,
      State.acceptTurn_eq (s := s.qualified p lane wall lead) (n := n) (wall := wall) hn.symm hw hl] at he
    have l := State.lane_settles lane (turnedLane h (s.scanner.state == .fault) (n + 1)
      (touchedLane n wall time s.lanes[lane])) ([.split lane (turnRecord n wall time) (s.lanes[lane]).leg] ++
        (s.qualified p lane wall lead).turnNotices h lane (n + 1) (touchedLane n wall time s.lanes[lane]))
      (s.qualified p lane wall lead)
    obtain ⟨hsplit, ha, hs, hfa⟩ := l.tellsTurn (s := s) (by simp) rfl rfl rfl hl.1
    exact ⟨_, he, l.touch, hsplit _ (List.mem_singleton_self _), ha, hs, hfa⟩
  · obtain ⟨he, hst⟩ := hdue.does
    rw [State.takePad_skipsTurn (v := s.qualified p lane wall lead)
      (touch := touchOf p lane wall start lead time) hst hn hw hlt hk hgate,
      State.skipTurn_turn (s := s.qualified p lane wall lead) (n := n) (wall := wall) hn.symm
      (lengthWall_succ hw) hk' hl] at he
    have l := State.lane_settles lane (turnedLane h (s.scanner.state == .fault) (n + 2)
      (touchedLane (n + 1) wall time (missedLane h n s.lanes[lane])))
      ([.split lane (passedRecord n (lengthWall h n) .turn .missed) (s.lanes[lane]).leg,
        .split lane (turnRecord (n + 1) wall time) (s.lanes[lane]).leg] ++
        (s.qualified p lane wall lead).turnNotices h lane (n + 2)
          (touchedLane (n + 1) wall time (missedLane h n s.lanes[lane])))
      (s.qualified p lane wall lead)
    obtain ⟨hsplit, ha, hs, hfa⟩ := l.tellsTurn (s := s) (by simp) rfl rfl rfl hl.1
    refine ⟨_, he, ?_, hsplit _ List.mem_cons_self, hsplit _ (List.mem_cons_of_mem _ (List.mem_singleton_self _)),
      ha, hs, hfa⟩
    have := l.touch
    rw [← touchedLane_missedLane]
    exact this
  · obtain ⟨he, hst⟩ := hdue.does
    rw [State.takePad_skipsTurn (v := s.qualified p lane wall lead)
      (touch := touchOf p lane wall start lead time) hst hn hw hlt hk hgate,
      State.skipTurn_window (s := s.qualified p lane wall lead) (n := n) hn.symm hk' hf] at he
    have l := State.lane_settles lane (expectingLane h (s.scanner.state == .fault) (n + 1)
      (arrivedLane (skippedLane h n (touchOf p lane wall start lead time) s.lanes[lane])))
      (.split lane (passedRecord n (lengthWall h n) .turn .missed) (s.lanes[lane]).leg ::
        ((s.qualified p lane wall lead).absenceNotices lane s.lanes[lane] ++
          (s.qualified p lane wall lead).faultyNotices h lane (n + 1) (arrivedLane
            { missedLane h n s.lanes[lane] with
              gateBase := (s.lanes[lane]).gateBase + limitTicks h.inhibit })))
      (s.qualified p lane wall lead)
    have habsent := (s.qualified p lane wall lead).absenceNotices_length lane s.lanes[lane]
    have hfaulty := (s.qualified p lane wall lead).faultyNotices_length h lane (n + 1) (arrivedLane
      { missedLane h n s.lanes[lane] with gateBase := (s.lanes[lane]).gateBase + limitTicks h.inhibit })
    refine ⟨_, he, ?_, l.tells ?_ _ List.mem_cons_self, l.tellsAbsence ?_ rfl rfl fun b hb => ?_,
      l.tellsFaulty (r0 := arrivedLane { missedLane h n s.lanes[lane] with
        gateBase := (s.lanes[lane]).gateBase + limitTicks h.inhibit }) ?_ rfl fun b hb => ?_⟩
    · rw [← skippedLane_eq]
      exact l.touch
    · rw [List.length_cons, List.length_append]
      omega
    · rw [List.length_cons, List.length_append]
      omega
    · exact List.mem_cons_of_mem _ (List.mem_append_left _ hb)
    · rw [List.length_cons, List.length_append]
      omega
    · exact List.mem_cons_of_mem _ (List.mem_append_right _ hb)
  · obtain ⟨he, hst⟩ := hdue.does
    have hul : unjudged.leg = e.leg := by rw [hu]
    have huv : unjudged.verdict = .unjudged := by rw [hu]
    have hnone := none_pending hb huv
    have hturned := turnedLane_of_settled (h := h) (faulty := s.scanner.state == .fault) (n := n + 2)
      (r := touchedLane (n + 1) wall time (passedLane h n before unjudged s.lanes[lane]))
      (passedLane_counted (h := h) (n := n) (before := before) hcount) hnone fun hk => beq_eq_false_iff_ne.2 (hf hk)
    rw [State.takePad_skipsLegEnd (v := s.qualified p lane wall lead)
      (touch := touchOf p lane wall start lead time) hst hn hw hlt hk hgate hwin hx
      (fun x hx => (hb x hx).1) hleg hd,
      State.skipLegEnd_eq (s := s.qualified p lane wall lead) (n := n) (wall := wall) hn.symm
      (lengthWall_succ hw) hx hb hleg hd hv hf hu] at he
    have l := State.lane_settles lane (turnedLane h (s.scanner.state == .fault) (n + 2)
      (touchedLane (n + 1) wall time (passedLane h n before unjudged s.lanes[lane])))
      (passedNotices h lane n unjudged s.lanes[lane] ++
          .split lane (turnRecord (n + 1) wall time) ((s.lanes[lane]).leg + 1) ::
          (s.qualified p lane wall lead).turnNotices h lane (n + 2)
            (touchedLane (n + 1) wall time (passedLane h n before unjudged s.lanes[lane])))
      (s.qualified p lane wall lead)
    have hlen : (passedNotices h lane n unjudged s.lanes[lane] ++
          .split lane (turnRecord (n + 1) wall time) ((s.lanes[lane]).leg + 1) ::
          (s.qualified p lane wall lead).turnNotices h lane (n + 2)
            (touchedLane (n + 1) wall time (passedLane h n before unjudged s.lanes[lane]))).length ≤ 64 := by
      have h1 := State.turnNotices_length (h := h) (lane := lane) (n := n + 2)
        (s := s.qualified p lane wall lead)
        (r := touchedLane (n + 1) wall time (passedLane h n before unjudged s.lanes[lane])) fun hp => absurd hp hnone
      have h2 := passedNotices_length h lane n unjudged s.lanes[lane]
      rw [List.length_append, List.length_cons]
      omega
    refine ⟨_, he, ?_, l.tells hlen _ (List.mem_append_left _ List.mem_cons_self), fun hno =>
      l.tells hlen (.exchange lane unjudged .legEndMissed
        { (s.lanes[lane]).reasons with noTime := true, unjudgedExchange := true }) (List.mem_append_left _ ?_),
      l.tells hlen _ (List.mem_append_right _ List.mem_cons_self)⟩
    · rw [← touchedLane_passedLane _ hul, ← hturned]
      exact l.touch
    · unfold passedNotices
      rw [if_neg hno]
      exact List.mem_cons_of_mem _ (List.mem_singleton_self _)
  · obtain ⟨he, hst⟩ := hdue.does
    rw [State.takePad_passes (v := s.qualified p lane wall lead) hst hn hw hign] at he
    exact ⟨_, he, State.touch_ignored⟩
  · obtain ⟨he, hst⟩ := hdue.does
    have htake := State.takePad_opens (v := s.qualified p lane wall lead)
      (touch := touchOf p lane wall start lead time) hst hn hw hwin hkt
    rw [htake] at he
    have hbase : (s.qualified p lane wall lead).lanes = s.lanes := rfl
    have htime : (touchOf p lane wall start lead time).time = time := rfl
    rw [hbase, htime] at he
    by_cases hg : time < (s.lanes[lane]).gateBase + h.inhibit * 100
    · rw [if_pos hg] at he
      refine ⟨_, he, ?_, fun hle => absurd hg (Nat.not_lt.2 hle)⟩
      rw [if_pos hg]
      exact State.touch_ignored
    · rw [if_neg hg, State.openWindow_eq] at he
      have l := State.lane_settles lane (arrivedLane (openedLane h
        (.touch (touchOf p lane wall start lead time)) s.lanes[lane]))
        ((s.qualified p lane wall lead).absenceNotices lane s.lanes[lane]) (s.qualified p lane wall lead)
      have hlen := ((s.qualified p lane wall lead).absenceNotices_length lane s.lanes[lane]).trans
        (by omega : 1 ≤ 64)
      refine ⟨_, he, ?_, fun _ => l.tellsAbsence hlen rfl rfl fun _ hb => hb⟩
      rw [if_neg hg]
      exact l.touch
  · obtain ⟨he, hst⟩ := hdue.does
    rw [State.takePad_collects (v := s.qualified p lane wall lead) hst hn hw hwin] at he
    exact ⟨_, he, (State.lane_settles lane _ [] (s.qualified p lane wall lead)).touch⟩
  · have he := State.padQualifyTime_does hr hforce hcap hq
    have htake : (s.qualified p lane wall lead).deliverTouch (padIx lane wall) lead = s.qualified p lane wall lead := by
      unfold State.deliverTouch
      split
      · split
        · unfold State.takePad
          exact if_pos (by rw [(padIx_parts lane wall).1]; exact hst)
        · rfl
      · rfl
    rw [htake] at he
    exact ⟨_, he, State.touch_ignored, State.settle_keepsSilent rfl⟩

end Sys2Proof.Machine

/-!
PROOFS. The edges of the pads: what a closure is, what its end delivers, and what leveling hears.
-/

namespace Sys2Proof.Machine

/-! ### Lane accounting does not know wall capture -/

/-- The state with another wall capture. -/
def State.withWall (w : WallCapture) (s : State) : State := { s with wall := w }

section
variable (w : WallCapture) (s : State)

theorem State.notify_withWall (b : NoticeBody) : (s.withWall w).notify b = (s.notify b).withWall w := by
  unfold State.notify
  dsimp only
  rw [apply_ite (State.withWall w)]
  rfl

theorem State.updLane_withWall (lane : Lane) (f : LaneRecord → LaneRecord) :
    (s.withWall w).updLane lane f = (s.updLane lane f).withWall w := rfl

theorem State.notOnPlatform_withWall (lane : Lane) :
    (s.withWall w).notOnPlatform lane = (s.notOnPlatform lane).withWall w := by
  unfold State.notOnPlatform
  rw [apply_ite (State.withWall w)]
  unfold State.notifyReactions
  rw [← State.notify_withWall]
  rfl

theorem State.giveVerdict_withWall (h : HeatRecord) (lane : Lane) (r : ExchangeRecord) (c : SettleCause) :
    (s.withWall w).giveVerdict h lane r c = (s.giveVerdict h lane r c).withWall w := by
  unfold State.giveVerdict
  dsimp only
  rw [apply_ite (State.withWall w), ← State.notify_withWall]
  rfl

theorem State.settlePending_withWall (h : HeatRecord) (lane : Lane) (c : SettleCause) :
    (s.withWall w).settlePending h lane c = (s.settlePending h lane c).withWall w := by
  unfold State.settlePending
  rw [show (s.withWall w).lanes = s.lanes from rfl]
  generalize (s.lanes[lane].exchanges.filter fun r => r.verdict == .pending) = l
  induction l generalizing s with
  | nil => rfl
  | cons r rest ih =>
    rw [List.foldl_cons, List.foldl_cons, ← ih]
    exact congrArg (fun u => List.foldl _ u rest) (State.giveVerdict_withWall w s h lane _ c)

theorem State.evaluateExchange_withWall (h : HeatRecord) (lane : Lane) (leg : Nat) (c : SettleCause) :
    (s.withWall w).evaluateExchange h lane leg c = (s.evaluateExchange h lane leg c).withWall w := by
  unfold State.evaluateExchange
  rw [show (s.withWall w).lanes = s.lanes from rfl]
  split
  · rfl
  · rw [apply_ite (State.withWall w), ← State.giveVerdict_withWall]

theorem State.legEndClosed_withWall (h : HeatRecord) (lane : Lane) (leg : Nat) (source : OfficialSource)
    (p : Option Nat) (c : SettleCause) :
    (s.withWall w).legEndClosed h lane leg source p c = (s.legEndClosed h lane leg source p c).withWall w := by
  unfold State.legEndClosed
  rw [show (s.withWall w).lanes = s.lanes from rfl]
  split
  · rfl
  · dsimp only
    rw [← State.evaluateExchange_withWall]
    rfl

theorem State.createExchange_withWall (h : HeatRecord) (lane : Lane) (leg : Nat) :
    (s.withWall w).createExchange h lane leg = (s.createExchange h lane leg).withWall w := by
  unfold State.createExchange
  dsimp only
  unfold State.settleUnjudged
  rw [apply_ite (State.withWall w), ← State.giveVerdict_withWall]
  rfl

theorem State.judgeTurn_withWall (h : HeatRecord) (lane : Lane) :
    (s.withWall w).judgeTurn h lane = (s.judgeTurn h lane).withWall w := by
  unfold State.judgeTurn
  dsimp only
  rw [State.notOnPlatform_withWall, State.settlePending_withWall, State.createExchange_withWall,
    apply_ite (State.withWall w)]
  rfl

theorem State.acceptTurn_withWall (h : HeatRecord) (lane : Lane) (time : Nat) :
    (s.withWall w).acceptTurn h lane time = (s.acceptTurn h lane time).withWall w := by
  unfold State.acceptTurn State.sendSplit
  dsimp only
  rw [← State.judgeTurn_withWall, ← State.notify_withWall]
  rfl

theorem State.openWindow_withWall (h : HeatRecord) (lane : Lane) (e : Evidence) :
    (s.withWall w).openWindow h lane e = (s.openWindow h lane e).withWall w := by
  unfold State.openWindow
  rw [← State.notOnPlatform_withWall]
  rfl

theorem State.skipTurn_withWall (h : HeatRecord) (lane : Lane) (touch : PadTouch) :
    (s.withWall w).skipTurn h lane touch = (s.skipTurn h lane touch).withWall w := by
  rw [State.skipTurn_eq (s := s) rfl, State.skipTurn_eq (s := s.withWall w) rfl]
  have hm : (s.withWall w).turnMissed h lane ((s.withWall w).lanes[lane]).expected =
      (s.turnMissed h lane (s.lanes[lane]).expected).withWall w := by
    unfold State.turnMissed
    rw [← State.notify_eq_tell, ← State.notify_eq_tell, ← State.notify_withWall]
    rfl
  rw [hm, show (s.withWall w).lanes = s.lanes from rfl]
  generalize s.turnMissed h lane (s.lanes[lane]).expected = u
  split
  · exact State.acceptTurn_withWall ..
  · rw [State.updLane_withWall, State.notOnPlatform_withWall, State.createExchange_withWall,
      State.openWindow_withWall]
  · rw [State.updLane_withWall, State.openWindow_withWall]

theorem State.skipLegEnd_withWall (h : HeatRecord) (lane : Lane) (touch : PadTouch) :
    (s.withWall w).skipLegEnd h lane touch = (s.skipLegEnd h lane touch).withWall w := by
  unfold State.skipLegEnd State.sendSplit
  dsimp only
  rw [← State.acceptTurn_withWall, ← State.updLane_withWall, ← State.legEndClosed_withWall,
    ← State.notify_withWall]
  rfl

theorem State.takePad_withWall (h : HeatRecord) (lane : Lane) (wall : Wall) (touch : PadTouch) :
    (s.withWall w).takePad h lane wall touch = (s.takePad h lane wall touch).withWall w := by
  unfold State.takePad State.skip
  rw [show (s.withWall w).lanes = s.lanes from rfl, State.skipTurn_withWall, State.skipLegEnd_withWall,
    State.acceptTurn_withWall, State.openWindow_withWall]
  dsimp only
  split
  · rfl
  · split
    · split
      · split <;> rfl
      · rfl
    · split
      · rfl
      · split
        · rfl
        · split <;> rfl

theorem State.deliverTouch_withWall (pad : PadIx) (lead : Nat) :
    (s.withWall w).deliverTouch pad lead = (s.deliverTouch pad lead).withWall w := by
  unfold State.deliverTouch
  rw [show (s.withWall w).heat = s.heat from rfl]
  split
  · rw [apply_ite (State.withWall w)]
    exact congrArg (fun u => ite _ u _) (State.takePad_withWall ..)
  · rfl

theorem State.settle_withWall : (s.withWall w).settle = s.settle.withWall w := by
  unfold State.settle
  rw [show (s.withWall w).eventEnd = s.eventEnd.withWall w from rfl]
  generalize s.eventEnd = u
  unfold State.transmit
  rw [apply_ite (State.withWall w)]
  rfl

end

/-! ### An edge of a pad -/

theorem State.padEdge_does {s : State} {lane : Lane} {wall : Wall} {level : Level} {stamp : Nat}
    (hr : s.isRunning = true) (hl : (s.wall.pads[padIx lane wall]).level ≠ level)
    (hm : stamp ≤ Config.masterLimit) (hq : s.quietUntil stamp = true) :
    exec (.padEdge lane wall level stamp) s =
      .next ((s.advance stamp).padEdge (padIx lane wall) level stamp).settle := by
  show execPadEdge lane wall level stamp s = _
  unfold execPadEdge
  dsimp only
  rw [if_neg hl, if_neg (by simp [hr]), State.pass_quiet hq, stampOf_of_le hm]

/-- The state with another pad record, at the moment of an edge. -/
def State.padMoved (pad : PadIx) (r : PadRecord) (stamp : Nat) (s : State) : State :=
  { s with clock := max s.clock stamp, wall := { s.wall with pads := s.wall.pads.set pad r } }

/-- Without a measurement an edge is not heard by leveling (R69). -/
theorem State.levelEdge_idle {s : State} {pad : PadIx} {level : Level} {stamp : Nat} (h : s.wall.level = .idle) :
    s.levelEdge pad level stamp = s := by
  unfold State.levelEdge
  rw [h]

/-- What leveling hears of an edge (R69). -/
theorem State.levelEdge_measuring {s : State} {pad p : PadIx} {level : Level} {stamp : Nat} {step : LevelStep}
    {rest : List PadIx} (h : s.wall.level = .measuring p step rest) :
    s.levelEdge pad level stamp = { s with wall :=
      { s.wall with level := .measuring p (if pad = p then levelHears level stamp s.clock step else step) rest } } := by
  have hsame : ∀ x, x = step → ({ s with wall := { s.wall with level := .measuring p x rest } } : State) = s := by
    rintro x rfl
    rw [← h]
  unfold State.levelEdge
  rw [h]
  dsimp only
  by_cases hp : pad = p
  · rw [if_neg (not_not.2 hp.symm), if_pos hp]
    unfold levelHears
    match level, step with
    | .opened, .waiting began =>
      show (if stamp < began + 5000 then _ else _) = ({ s with wall :=
        { s.wall with level := .measuring p (if stamp < began + 5000 then _ else _) rest } } : State)
      by_cases hb : stamp < began + 5000
      · rw [if_pos hb, if_pos hb]
      · rw [if_neg hb, if_neg hb]
        exact (hsame _ rfl).symm
    | .closed, .driving start none =>
      show (if start ≤ stamp ∧ stamp ≤ start + 100 then _ else _) = ({ s with wall := { s.wall with
        level := .measuring p (if start ≤ stamp ∧ stamp ≤ start + 100 then _ else _) rest } } : State)
      by_cases hb : start ≤ stamp ∧ stamp ≤ start + 100
      · rw [if_pos hb, if_pos hb]
      · rw [if_neg hb, if_neg hb]
        exact (hsame _ rfl).symm
    | .opened, .driving _ none => exact (hsame _ rfl).symm
    | .opened, .driving _ (some _) => exact (hsame _ rfl).symm
    | .closed, .driving _ (some _) => exact (hsame _ rfl).symm
    | .closed, .waiting _ => exact (hsame _ rfl).symm
  · rw [if_pos fun h => hp h.symm, if_neg hp]
    exact (hsame _ rfl).symm

/-- What an edge leaves that delivers no touch. -/
theorem State.padMoved_settles {s : State} {pad : PadIx} {r : PadRecord} {stamp : Nat} :
    let t := (s.padMoved pad r stamp).settle
    t = { s with clock := max s.clock stamp, wall := { s.wall with pads := t.wall.pads }, board := t.board,
                 link := t.link } ∧
      t.wall.pads[pad] = r ∧ (∀ q : PadIx, q ≠ pad → t.wall.pads[q] = s.wall.pads[q]) ∧
      s.boardKept t ∧ s.linkKept t := by
  have l := State.settle_leaves (s.padMoved pad r stamp)
  have hw := congrArg State.wall l.eq
  refine ⟨?_, ?_, fun q hq => ?_, l.board, l.link⟩
  · rw [hw]; exact l.eq
  · rw [hw]; exact set_getElem_self _ _ _
  · rw [hw]; exact set_getElem_ne hq

/-- An edge of a pad while nothing is measured. -/
theorem State.padEdge_opened {s : State} {pad : PadIx} {stamp : Nat} (h : s.wall.level = .idle) {u : State}
    (hu : s.padOpens pad stamp = u) (hw : u.wall.level = s.wall.level) : s.padEdge pad .opened stamp = u := by
  show (s.padOpens pad stamp).levelEdge pad .opened stamp = u
  rw [hu]
  exact State.levelEdge_idle (hw.trans h)

theorem State.padCloses_eq (pad : PadIx) (stamp : Nat) (s : State) : s.padCloses pad stamp = s.updPad pad fun r =>
    ⟨.closed, some stamp, if r.capture = .opened then
      (if s.heat.startMark.getD 0 ≤ stamp then .qualifying stamp else .blocked) else r.capture, r.splash⟩ := by
  unfold State.padCloses
  refine congrArg (fun f => s.updPad pad f) (funext fun r => ?_)
  cases r.capture <;> rfl

theorem State.updPad_congr {s : State} {pad : PadIx} {f g : PadRecord → PadRecord}
    (h : f s.wall.pads[pad] = g s.wall.pads[pad]) : s.updPad pad f = s.updPad pad g := by
  unfold State.updPad
  rw [h]

/-- A pad's record changed, at the moment of an edge. -/
theorem State.updPad_advance {s : State} {pad : PadIx} {stamp : Nat} {f : PadRecord → PadRecord} {r : PadRecord}
    (h : f s.wall.pads[pad] = r) : (s.advance stamp).updPad pad f = s.padMoved pad r stamp := by
  unfold State.updPad
  rw [show (s.advance stamp).wall = s.wall from rfl, h]
  rfl

/-- The end of a closure that delivers nothing. -/
theorem State.padOpens_silent {s : State} {pad : PadIx} {stamp : Nat}
    (h : (s.wall.pads[pad]).capture = .unarmed ∨ (s.wall.pads[pad]).capture = .held ∨
      (s.wall.pads[pad]).capture = .blocked) :
    s.padOpens pad stamp = s.updPad pad fun r =>
      { r with level := .opened, capture := if r.capture = .unarmed then .unarmed else .opened } := by
  unfold State.padOpens
  rcases h with h | h | h <;> rw [h] <;> exact State.updPad_congr (by rw [h]; rfl)

/-- An edge of an UNARMED pad (R58). -/
theorem State.padEdge_unarmed {s : State} {pad : PadIx} (level : Level) (stamp : Nat)
    (h : (s.wall.pads[pad]).capture = .unarmed) :
    (s.advance stamp).padEdge pad level stamp =
      (s.padMoved pad { s.wall.pads[pad] with
        level := level
        closing := if level = .closed then some stamp else (s.wall.pads[pad]).closing } stamp).levelEdge
      pad level stamp := by
  cases level with
  | closed =>
    show ((s.advance stamp).padCloses pad stamp).levelEdge pad .closed stamp = _
    rw [State.padCloses_eq]
    refine congrArg (State.levelEdge pad .closed stamp) (State.updPad_advance ?_)
    generalize s.wall.pads[pad] = r at h ⊢
    simp [h]
  | opened =>
    show ((s.advance stamp).padOpens pad stamp).levelEdge pad .opened stamp = _
    rw [State.padOpens_silent (.inl (by exact h))]
    refine congrArg (State.levelEdge pad .opened stamp) (State.updPad_advance ?_)
    generalize s.wall.pads[pad] = r at h ⊢
    simp [h]

/-- Settles O14. -/
theorem padEdgesBeginAndEndClosures : Obligations.PadEdgesBeginAndEndClosures := by
  refine ⟨fun s lane wall stamp start hr hlevel hcap hstart hm hq hidle => ?_,
    fun s p lane wall lead stamp hr hforce hlevel hcap hlt hm hq hidle => ?_,
    fun s p lane wall lead stamp hr hforce hlevel hcap hle hm hq hidle => ?_,
    fun s lane wall level stamp hr hlevel hm hq hidle hcap => ?_,
    fun s lane wall level stamp pad step next rest hr hlevel hm hq hmeasure hcap hnext => ?_⟩
  · refine ⟨_, State.padEdge_does hr (by rw [hlevel]; simp) hm hq, ?_⟩
    have hedge : (s.advance stamp).padEdge (padIx lane wall) .closed stamp = s.padMoved (padIx lane wall)
        ⟨.closed, some stamp, if start ≤ stamp then .qualifying stamp else .blocked,
          (s.wall.pads[padIx lane wall]).splash⟩ stamp := by
      show ((s.advance stamp).padCloses (padIx lane wall) stamp).levelEdge _ _ _ = _
      rw [State.padCloses_eq, State.levelEdge_idle (by exact hidle)]
      refine State.updPad_advance ?_
      rw [hcap, if_pos rfl, show (s.advance stamp).heat = s.heat from rfl, hstart]
      rfl
    rw [hedge]
    exact State.padMoved_settles
  · refine ⟨_, State.padEdge_does hr (by rw [hlevel]; simp) hm hq, ?_⟩
    have hopens : (s.advance stamp).padOpens (padIx lane wall) stamp = s.padMoved (padIx lane wall)
        ⟨.opened, (s.wall.pads[padIx lane wall]).closing, .opened,
          min 255 ((s.wall.pads[padIx lane wall]).splash + 1)⟩ stamp := by
      unfold State.padOpens
      rw [show (s.advance stamp).wall = s.wall from rfl, hcap]
      dsimp only
      rw [if_pos (by rw [State.qualifyTicks_eq (s := s.advance stamp) hforce]; exact hlt)]
      rfl
    rw [State.padEdge_opened (by exact hidle) hopens rfl]
    exact State.padMoved_settles
  · have hdue : ({ s with clock := max s.clock stamp } : State).quietUntil (lead + p.qualify) = true := by
      unfold State.quietUntil at hq ⊢
      rw [Bool.and_eq_true] at hq ⊢
      refine ⟨State.noLimitBy_mono hle ?_, ?_⟩
      · rw [← hq.1]
        exact State.noLimitBy_congr rfl rfl Iff.rfl (by simp)
      · rw [decide_eq_false (show ¬max s.clock stamp < lead + p.qualify by omega), Bool.and_false]
        rfl
    refine ⟨_, _, State.padEdge_does hr (by rw [hlevel]; simp) hm hq,
      State.padQualifyTime_does (s := { s with clock := max s.clock stamp }) hr hforce hcap hdue, ?_⟩
    have hclock : max (max s.clock stamp) (lead + p.qualify) = max s.clock stamp := by omega
    have hqual : ({ s with clock := max s.clock stamp } : State).qualified p lane wall lead =
        ({ s with clock := max s.clock stamp } : State).withWall
          { s.wall with
            pads := s.wall.pads.set (padIx lane wall) { s.wall.pads[padIx lane wall] with capture := .held } } := by
      unfold State.qualified
      rw [show ({ s with clock := max s.clock stamp } : State).clock = max s.clock stamp from rfl, hclock]
      rfl
    have hopens : (s.advance stamp).padOpens (padIx lane wall) stamp =
        (({ s with clock := max s.clock stamp } : State).withWall
          { s.wall with
            pads := s.wall.pads.set (padIx lane wall)
              { s.wall.pads[padIx lane wall] with level := .opened, capture := .opened } }).deliverTouch
          (padIx lane wall) lead := by
      unfold State.padOpens
      rw [show (s.advance stamp).wall = s.wall from rfl, hcap]
      dsimp only
      rw [if_neg (by rw [State.qualifyTicks_eq (s := s.advance stamp) hforce]; exact Nat.not_lt.2 hle)]
      rfl
    rw [State.padEdge_opened (by exact hidle) hopens (by rw [State.deliverTouch_wall]; rfl), hqual,
      State.deliverTouch_withWall, State.settle_withWall, State.deliverTouch_withWall, State.settle_withWall]
    exact ⟨rfl, set_getElem_self _ _ _, fun q hq => set_getElem_ne hq⟩
  · refine ⟨_, State.padEdge_does hr hlevel hm hq, ?_⟩
    have hedge : (s.advance stamp).padEdge (padIx lane wall) level stamp = s.padMoved (padIx lane wall)
        { s.wall.pads[padIx lane wall] with
          level := level
          closing := if level = .closed then some stamp else (s.wall.pads[padIx lane wall]).closing
          capture := if (s.wall.pads[padIx lane wall]).capture = .unarmed then .unarmed else .opened } stamp := by
      cases level with
      | closed =>
        have hun : (s.wall.pads[padIx lane wall]).capture = .unarmed :=
          hcap.resolve_right fun h => by cases h.1
        show ((s.advance stamp).padCloses (padIx lane wall) stamp).levelEdge _ _ _ = _
        rw [State.padCloses_eq, State.levelEdge_idle (by exact hidle)]
        exact State.updPad_advance (by dsimp only; rw [hun]; rfl)
      | opened =>
        refine State.padEdge_opened (by exact hidle) ?_ rfl
        rw [State.padOpens_silent (by exact hcap.imp_right And.right)]
        exact State.updPad_advance rfl
    rw [hedge]
    exact State.padMoved_settles
  · refine ⟨_, State.padEdge_does hr hlevel hm hq, ?_⟩
    have hedge : (s.advance stamp).padEdge (padIx lane wall) level stamp = { s with
        clock := max s.clock stamp
        wall := { s.wall with
          pads := s.wall.pads.set (padIx lane wall)
            { s.wall.pads[padIx lane wall] with
              level := level
              closing := if level = .closed then some stamp else (s.wall.pads[padIx lane wall]).closing }
          level := .measuring pad next rest } } := by
      rw [State.padEdge_unarmed level stamp hcap, State.levelEdge_measuring (by exact hmeasure), hnext]
      rfl
    rw [hedge]
    generalize hu : ({ s with
        clock := max s.clock stamp
        wall := { s.wall with
          pads := s.wall.pads.set (padIx lane wall)
            { s.wall.pads[padIx lane wall] with
              level := level
              closing := if level = .closed then some stamp else (s.wall.pads[padIx lane wall]).closing }
          level := .measuring pad next rest } } : State) = u
    have l := State.settle_leaves u
    have hw : u.settle.wall = u.wall := by
      have := congrArg State.wall l.eq
      exact this
    subst hu
    refine ⟨?_, ?_, fun q hq => ?_, l.board, l.link⟩
    · rw [hw]; exact l.eq
    · rw [hw]; exact set_getElem_self _ _ _
    · rw [hw]; exact set_getElem_ne hq

end Sys2Proof.Machine

/-!
PROOFS. The start of a heat.
-/

namespace Sys2Proof.Machine

/-! ### Pads that are armed with their lines closed (R55) -/

/-- A pad whose closure has lasted Q ticks is HELD. -/
def heldBy (p : Profile) (clock : Nat) (r : PadRecord) : PadRecord :=
  match r.capture with
  | .qualifying lead => if lead + p.qualify ≤ clock then { r with capture := .held } else r
  | _ => r

theorem heldBy_heldBy (p : Profile) (clock : Nat) (r : PadRecord) :
    heldBy p clock (heldBy p clock r) = heldBy p clock r := by
  unfold heldBy
  cases hc : r.capture with
  | qualifying lead =>
    dsimp only
    by_cases h : lead + p.qualify ≤ clock
    · rw [if_pos h]
    · rw [if_neg h, hc]
      exact if_neg h
  | _ => dsimp only; rw [hc]

/-- What the armed pads are behind the closures that have lasted. -/
def State.holding (p : Profile) (l : List PadIx) (s : State) : State :=
  s.withWall { s.wall with
    pads := tab fun pad => if pad ∈ l then heldBy p s.clock s.wall.pads[pad] else s.wall.pads[pad] }

/-- A closure that has lasted, of a pad whose touch the lanes ignore. -/
theorem State.qualifyPad_deaf {p : Profile} {pad : PadIx} {s : State} (hforce : s.store.inForce = some p)
    (hdeaf : ∀ lead, (s.wall.pads[pad]).capture = .qualifying lead → s.deliverTouch pad lead = s) :
    s.qualifyPad pad = s.updPad pad (heldBy p s.clock) := by
  have hsame : s.updPad pad (fun r => r) = s := by
    unfold State.updPad
    simp
  unfold State.qualifyPad
  split
  · next lead hcap =>
    rw [State.qualifyTicks_eq hforce]
    by_cases h : lead + p.qualify ≤ s.clock
    · rw [if_pos h]
      have hheld : s.updPad pad (heldBy p s.clock) = s.updPad pad fun r => { r with capture := .held } :=
        State.updPad_congr (by unfold heldBy; rw [hcap]; exact if_pos h)
      rw [hheld]
      show (s.withWall _).deliverTouch pad lead = s.withWall _
      rw [State.deliverTouch_withWall, hdeaf lead hcap]
    · rw [if_neg h]
      refine (hsame.symm.trans (State.updPad_congr ?_))
      unfold heldBy
      rw [hcap]
      exact (if_neg h).symm
  · next hcap =>
    refine (hsame.symm.trans (State.updPad_congr ?_))
    unfold heldBy
    split
    · next lead hc => exact absurd hc (hcap lead)
    · rfl

theorem State.holding_qualifyPad {p : Profile} {pad : PadIx} {done : List PadIx} {s : State}
    (hforce : s.store.inForce = some p)
    (hdeaf : ∀ pad lead, (s.wall.pads[pad]).capture = .qualifying lead → s.deliverTouch pad lead = s) :
    (s.holding p done).qualifyPad pad = s.holding p (done ++ [pad]) := by
  have hpad : (s.holding p done).wall.pads[pad] =
      if pad ∈ done then heldBy p s.clock s.wall.pads[pad] else s.wall.pads[pad] := by
    unfold State.holding State.withWall
    simp only [tab_getElem, Fin.getElem_fin, Fin.eta]
  have hcapture : ∀ lead, ((s.holding p done).wall.pads[pad]).capture = .qualifying lead →
      (s.wall.pads[pad]).capture = .qualifying lead := by
    intro lead hc
    rw [hpad] at hc
    split at hc
    · unfold heldBy at hc
      split at hc
      · next lead' h' =>
        split at hc
        · cases hc
        · exact hc
      · exact hc
    · exact hc
  rw [State.qualifyPad_deaf (by exact hforce) fun lead hc => by
    unfold State.holding
    rw [State.deliverTouch_withWall, hdeaf pad lead (hcapture lead hc)]]
  unfold State.updPad
  rw [hpad]
  unfold State.holding State.withWall
  dsimp only
  congr 2
  refine vector_ext fun q => ?_
  have hright : (tab fun x => if x ∈ done ++ [pad] then heldBy p s.clock s.wall.pads[x] else s.wall.pads[x])[q] =
      if q ∈ done ++ [pad] then heldBy p s.clock s.wall.pads[q] else s.wall.pads[q] := by
    simp only [tab_getElem, Fin.getElem_fin, Fin.eta]
  rw [hright]
  by_cases hq : q = pad
  · subst hq
    rw [set_getElem_self, if_pos (show q ∈ done ++ [q] by simp)]
    split
    · exact heldBy_heldBy ..
    · rfl
  · rw [set_getElem_ne hq]
    have hmem : q ∈ done ++ [pad] ↔ q ∈ done := by simp [hq]
    simp only [hmem, tab_getElem, Fin.getElem_fin, Fin.eta]

/-- The closures that have lasted, at the arming, when the lanes ignore their touches. -/
theorem State.qualifyArmed_deaf {p : Profile} {s : State} (hforce : s.store.inForce = some p)
    (hdeaf : ∀ pad lead, (s.wall.pads[pad]).capture = .qualifying lead → s.deliverTouch pad lead = s) :
    s.qualifyArmed = s.holding p allPads := by
  unfold State.qualifyArmed
  have hnone : s.holding p [] = s := by
    unfold State.holding State.withWall
    have hpads : (tab fun pad : PadIx => if pad ∈ ([] : List PadIx) then heldBy p s.clock s.wall.pads[pad]
        else s.wall.pads[pad]) = s.wall.pads := by
      refine vector_ext fun pad => ?_
      simp only [tab_getElem, Fin.getElem_fin, List.not_mem_nil, if_false]
    rw [hpads]
  have hfold : ∀ l done : List PadIx, l.foldl (fun s pad => s.qualifyPad pad) (s.holding p done) =
      s.holding p (done ++ l) := by
    intro l
    induction l with
    | nil => intro done; rw [List.append_nil]; rfl
    | cons pad rest ih =>
      intro done
      rw [List.foldl_cons, State.holding_qualifyPad hforce hdeaf, ih, List.append_assoc]
      rfl
  have h := hfold allPads []
  rw [hnone, List.nil_append] at h
  exact h

/-! ### The start (R41) -/

/-- The lane record that a start leaves. -/
theorem startReaction_eq (h : HeatRecord) (scanner : ScannerState) (stamp : Nat) (r : LaneRecord) :
    startReaction h scanner stamp { r with status := .racing, leg := 1, expected := 1, gateBase := 0 } =
      startedLane h scanner stamp r := by
  unfold startReaction startedLane startRow
  cases h.startType with
  | inWater => simp [noReaction]
  | platform =>
    dsimp only
    by_cases hb : startWall h = .b
    · rw [if_pos hb, if_neg (by simp), if_pos ((startWall_eq_b_iff h).1 hb)]
      simp [noReaction]
    · rw [if_neg hb, if_neg (by simp), if_neg fun hc => hb ((startWall_eq_b_iff h).2 hc)]
      cases scanner with
      | scanning =>
        cases r.reaction <;> simp [measureReaction, ReviewReasons.union, ReviewReasons.onlyEarlyStart,
          ReviewReasons.empty]
      | _ => simp [noReaction]

/-- The pad that a start leaves. -/
theorem heldBy_armRecord (p : Profile) (stamp clock : Nat) (r : PadRecord) :
    heldBy p clock (armRecord stamp r) = startedPad p stamp clock r := by
  unfold armRecord startedPad heldBy
  cases r.level with
  | opened => rfl
  | closed =>
    cases r.closing with
    | none => rfl
    | some lead =>
      dsimp only
      by_cases h : stamp ≤ lead
      · rw [if_pos h, if_neg (Nat.not_lt.2 h)]
        dsimp only
        by_cases hq : lead + p.qualify ≤ clock
        · rw [if_pos hq, if_pos hq]
        · rw [if_neg hq, if_neg hq]
      · rw [if_neg h, if_pos (Nat.lt_of_not_le h)]

/-- A pad that qualifies at the arming has been closed since the start mark or later. -/
theorem armRecord_qualifying {stamp lead : Nat} {r : PadRecord} (h : (armRecord stamp r).capture = .qualifying lead) :
    r.closing = some lead ∧ r.level = .closed ∧ stamp ≤ lead := by
  unfold armRecord at h
  dsimp only at h
  split at h
  · cases h
  · next t hl hcl =>
    split at h
    · next hle =>
      cases h
      exact ⟨hcl, hl, hle⟩
    · cases h
  · cases h

/-- The state of a heat that has started. -/
def State.started (h : HeatRecord) (p : Profile) (stamp : Nat) (s : State) : State :=
  { s with
    heat := { s.heat with race := .running, startMark := some stamp, guardEnd := none }
    board := { s.board with hold := .none }
    wall := { s.wall with
      armed := true, pads := tab fun pad => startedPad p stamp s.clock s.wall.pads[pad] }
    lanes := tab fun lane =>
      if h.enters lane then startedLane h s.scanner.state stamp s.lanes[lane] else s.lanes[lane]
    scanner := { s.scanner with
      channels := tab fun lane =>
        { s.scanner.channels[lane] with
          startLoad := if s.scanner.state = .scanning then (s.scanner.channels[lane]).load else none } } }

/-- The notices of a start (R51, R124). -/
def State.startNotices (h : HeatRecord) (p : Profile) (stamp : Nat) (cause : HeatCause) (s : State) :
    List NoticeBody :=
  .heatState .running .armed cause (some (h.event, h.heat)) s.heat.flags (some stamp) none ::
    if settledLanes h s stamp = [] then []
    else [.reaction ((settledLanes h s stamp).map (s.started h p stamp).reactionEntry)]

/-- A touch before the gate, with no window open, is ignored at either wall (R80, R83). -/
theorem State.takePad_deaf {h : HeatRecord} {lane : Lane} {wall : Wall} {touch : PadTouch} {s : State}
    (hd : (s.lanes[lane]).status = .racing →
      (s.lanes[lane]).window = none ∧ touch.time < gateOpen h s.lanes[lane]) :
    s.takePad h lane wall touch = s := by
  by_cases hst : (s.lanes[lane]).status = .racing
  · obtain ⟨hw, ht⟩ := hd hst
    by_cases hwall : wall = lengthWall h (s.lanes[lane]).expected
    · rw [State.takePad_expected hst hwall, hw]
      exact if_pos ht
    · rw [State.takePad_other hst hwall]
      unfold State.skip
      refine if_neg ?_
      unfold gateOpen at ht
      unfold skips
      rw [decide_eq_false (by omega : ¬(s.lanes[lane]).gateBase + 2 * limitTicks h.inhibit ≤ touch.time)]
      simp
  · unfold State.takePad
    exact if_pos hst

theorem State.started_lane {h : HeatRecord} {p : Profile} {stamp : Nat} {s : State} (lane : Lane) :
    (s.started h p stamp).lanes[lane] =
      if h.enters lane then startedLane h s.scanner.state stamp s.lanes[lane] else s.lanes[lane] := by
  unfold State.started
  simp only [tab_getElem, Fin.getElem_fin, Fin.eta]

/-- No touch of a closure that lasts since before the gate is more than HELD at the start. -/
theorem State.started_deaf {h : HeatRecord} {p : Profile} {stamp : Nat} {s v : State}
    (hready : s.readyToStart h p stamp) (hheat : v.heat = (s.started h p stamp).heat)
    (hv : v.lanes = (s.started h p stamp).lanes) (pad : PadIx) {lead : Nat} (hstamp : stamp ≤ lead)
    (hlead : lead < stamp + h.inhibit * 100) :
    v.deliverTouch pad lead = v := by
  obtain ⟨-, -, hcur, -, hlanes, -, -⟩ := hready
  unfold State.deliverTouch
  rw [hheat, show (s.started h p stamp).heat.current = some h from hcur,
    show (s.started h p stamp).heat.startMark = some stamp from rfl]
  dsimp only
  split
  · refine State.takePad_deaf fun hst => ?_
    rw [hv, State.started_lane] at hst ⊢
    split at hst
    · next hin =>
      rw [if_pos hin]
      refine ⟨(hlanes _).2, ?_⟩
      unfold compensate gateOpen startedLane limitTicks
      dsimp only
      omega
    · exact absurd hst (hlanes _).1
  · rfl

theorem State.settledAtStart_eq {h : HeatRecord} {p : Profile} {stamp : Nat} {s v : State}
    (hv : v.lanes = (s.started h p stamp).lanes) : v.settledAtStart h = settledLanes h s stamp := by
  unfold State.settledAtStart settledLanes
  refine List.filter_congr fun lane _ => ?_
  rw [hv, State.started_lane]
  by_cases hin : h.enters lane = true
  · rw [if_pos hin]
    rfl
  · rw [Bool.eq_false_iff.2 hin]
    rfl

theorem State.settleStart_lane {h : HeatRecord} {stamp : Nat} {s : State} (lane : Lane) :
    (s.settleStart h stamp).lanes[lane] =
      if h.enters lane then startReaction h s.scanner.state stamp s.lanes[lane] else s.lanes[lane] := by
  unfold State.settleStart State.setStartLoads
  simp only [tab_getElem, Fin.getElem_fin, Fin.eta]

theorem State.raceEntered_lane {h : HeatRecord} {s : State} (lane : Lane) : (s.raceEntered h).lanes[lane] =
    if h.enters lane then { s.lanes[lane] with status := .racing, leg := 1, expected := 1, gateBase := 0 }
    else s.lanes[lane] := by
  unfold State.raceEntered
  simp only [tab_getElem, Fin.getElem_fin, Fin.eta]

theorem State.armPads_lanes (stamp : Nat) (s : State) : (s.armPads stamp).lanes = s.lanes := rfl

/-- A start leaves the started heat and its notices. -/
theorem State.startHeat_eq {h : HeatRecord} {p : Profile} {stamp : Nat} {cause : HeatCause} {s : State}
    (hready : s.readyToStart h p stamp) (hc : cause = .startLine ∨ cause = .startRequest) :
    s.startHeat h stamp cause = (s.started h p stamp).tell (s.startNotices h p stamp cause) := by
  have hcur : s.heat.current = some h := hready.2.2.1
  have hforce : s.store.inForce = some p := hready.2.2.2.1
  have hpads := hready.2.2.2.2.2.2
  generalize hw : ({ s.wall with armed := true, pads := tab fun pad => armRecord stamp s.wall.pads[pad] } :
    WallCapture) = w
  have hv : State.settleStart h stamp (State.armPads stamp (State.raceEntered h { s with
      heat := { s.heat with race := .running, startMark := some stamp, guardEnd := none }
      board := { s.board with hold := .none } })) = (s.started h p stamp).withWall w := by
    apply State.ext_fields <;> try rfl
    · rw [← hw]
      rfl
    · refine vector_ext fun lane => ?_
      rw [show ((s.started h p stamp).withWall w).lanes[lane] = _ from
        State.started_lane (h := h) (p := p) (stamp := stamp) (s := s) lane]
      rw [State.settleStart_lane, State.armPads_lanes, State.raceEntered_lane]
      by_cases hin : h.enters lane = true
      · rw [if_pos hin, if_pos hin, if_pos hin]
        exact startReaction_eq ..
      · rw [if_neg hin, if_neg hin, if_neg hin]
  have hnumbers : ((s.started h p stamp).withWall w).numbers = some (h.event, h.heat) := by
    show s.heat.current.map _ = _
    rw [hcur]
    rfl
  have hheat : ((s.started h p stamp).withWall w).notifyHeat .armed cause = ((s.started h p stamp).withWall w).tell
      [.heatState .running .armed cause (some (h.event, h.heat)) s.heat.flags (some stamp) none] := by
    unfold State.notifyHeat
    rw [State.notify_eq_tell, hnumbers, show ((s.started h p stamp).withWall w).heat.current = some h from hcur]
    rcases hc with rfl | rfl <;> rfl
  have htold : ((((s.started h p stamp).withWall w).notifyHeat .armed cause).notifyReactions
      (((s.started h p stamp).withWall w).settledAtStart h)) =
      ((s.started h p stamp).tell (s.startNotices h p stamp cause)).withWall w := by
    rw [State.settledAtStart_eq (v := (s.started h p stamp).withWall w) (p := p) (s := s) rfl, hheat]
    unfold State.notifyReactions State.startNotices
    cases hset : settledLanes h s stamp with
    | nil => rfl
    | cons lane rest =>
      dsimp only
      rw [State.notify_eq_tell, State.tell_tell, if_neg (by simp)]
      rfl
  unfold State.startHeat
  dsimp only
  rw [hv, htold, State.qualifyArmed_deaf (p := p) (by exact hforce) fun pad lead hcap => ?_]
  · have hpads : (tab fun pad => if pad ∈ allPads then heldBy p s.clock w.pads[pad] else w.pads[pad]) =
        tab fun pad => startedPad p stamp s.clock s.wall.pads[pad] := by
      refine vector_ext fun pad => ?_
      rw [← hw]
      simp only [tab_getElem, Fin.getElem_fin, mem_allPads, if_true]
      exact heldBy_armRecord ..
    have hwall : ({ w with
        pads := tab fun pad => if pad ∈ allPads then heldBy p s.clock w.pads[pad] else w.pads[pad] } : WallCapture) =
      (s.started h p stamp).wall := by
      rw [hpads, ← hw]
      rfl
    exact congrArg (fun x => State.withWall x ((s.started h p stamp).tell (s.startNotices h p stamp cause))) hwall
  · have hrecord : (armRecord stamp s.wall.pads[pad]).capture = .qualifying lead := by
      have hw' : w.pads[pad] = armRecord stamp s.wall.pads[pad] := by
        rw [← hw]
        simp only [tab_getElem, Fin.getElem_fin]
      rw [← hw']
      exact hcap
    obtain ⟨hclosing, hlevel, hle⟩ := armRecord_qualifying hrecord
    have hlead : lead < stamp + h.inhibit * 100 := by
      have := hpads pad
      rw [hclosing, hlevel] at this
      simpa using this
    exact State.started_deaf (v := ((s.started h p stamp).tell (s.startNotices h p stamp cause)).withWall w)
      hready rfl rfl pad hle hlead

/-- The state at a start signal: its moment, and the START line. -/
def State.atSignal (m : Nat) (line : Level) (s : State) : State :=
  { s.advance m with heat := { s.heat with startLine := line } }

theorem State.readyToStart.atSignal {s : State} {h : HeatRecord} {p : Profile} {stamp m : Nat} {line : Level}
    (hready : s.readyToStart h p stamp) : (s.atSignal m line).readyToStart h p stamp := by
  obtain ⟨hr, hrace, hcur, hforce, hlanes, hon, hpads⟩ := hready
  exact ⟨hr, hrace, hcur, hforce, hlanes, hon, hpads⟩

theorem State.withinGuard_eq_false {s : State} {stamp : Nat} (h : ∀ g, s.heat.guardEnd = some g → g ≤ stamp) :
    s.withinGuard stamp = false := by
  unfold State.withinGuard
  cases hg : s.heat.guardEnd with
  | none => rfl
  | some g => simpa using h g hg

/-- What the started heat is at the end of its event. -/
theorem State.startedFrom_of_ends {s t : State} {h : HeatRecord} {p : Profile} {stamp m : Nat} {line : Level}
    {cause : HeatCause} (hready : s.readyToStart h p stamp)
    (e : ((s.atSignal m line).started h p stamp).EndsTelling ((s.atSignal m line).startNotices h p stamp cause) t) :
    s.StartedFrom h p stamp t ∧ t.heat.startLine = line ∧ t.clock = max s.clock m ∧ s.linkKept t ∧
      t.tells ⟨t.masterTime, .heatState .running .armed cause (some (h.event, h.heat)) s.heat.flags (some stamp)
        none⟩ ∧
      (settledLanes h s stamp ≠ [] →
        [⟨t.masterTime, .heatState .running .armed cause (some (h.event, h.heat)) s.heat.flags (some stamp) none⟩,
        ⟨t.masterTime, .reaction ((settledLanes h s stamp).map fun lane =>
          ⟨lane, (t.lanes[lane]).reaction, (t.scanner.channels[lane]).startLoad, (t.lanes[lane]).reasons⟩)⟩]
          <:+ t.told) := by
  obtain ⟨he, hb, hk⟩ := e.ends
  obtain ⟨-, -, -, hhold, -⟩ := hb
  have hlanes : t.lanes = ((s.atSignal m line).started h p stamp).lanes := by
    have := congrArg State.lanes he
    exact this
  have hscanner : t.scanner = ((s.atSignal m line).started h p stamp).scanner := by
    have := congrArg State.scanner he
    exact this
  have hentries : ∀ v : State, v = (s.atSignal m line).started h p stamp →
      NoticeBody.withReasons v.lanes (.reaction ((settledLanes h s stamp).map v.reactionEntry)) =
      .reaction ((settledLanes h s stamp).map fun lane =>
        ⟨lane, (t.lanes[lane]).reaction, (t.scanner.channels[lane]).startLoad, (t.lanes[lane]).reasons⟩) := by
    rintro v rfl
    rw [hlanes, hscanner]
    unfold NoticeBody.withReasons
    dsimp only
    rw [List.map_map]
    rfl
  have hlen : ((s.atSignal m line).startNotices h p stamp cause).length ≤ 64 := by
    unfold State.startNotices
    split <;> simp
  have hbodies : settledLanes h s stamp ≠ [] → (s.atSignal m line).startNotices h p stamp cause =
      [.heatState .running .armed cause (some (h.event, h.heat)) s.heat.flags (some stamp) none,
        .reaction ((settledLanes h s stamp).map ((s.atSignal m line).started h p stamp).reactionEntry)] :=
    fun hne => congrArg (List.cons _) (if_neg hne)
  refine ⟨⟨?_, ?_, ?_, ?_, ?_, ?_, ?_, ?_, fun pad => ?_, fun lane => ?_, ?_, fun lane => ?_, fun hne => ?_, ?_,
    hhold, ?_, ?_, ?_, ?_⟩, ?_, ?_, hk, ?_, fun hne => ?_⟩
  case refine_9 =>
    rw [he]
    simp only [State.started, tab_getElem, Fin.getElem_fin]
    rfl
  case refine_10 => rw [hlanes]; exact State.started_lane lane
  case refine_12 =>
    rw [hscanner]
    simp only [State.started, tab_getElem, Fin.getElem_fin]
    rfl
  case refine_13 =>
    rw [← hentries _ rfl]
    exact e.tells hlen _ (by rw [hbodies hne]; simp)
  case refine_21 => exact e.tells hlen _ List.mem_cons_self
  case refine_22 =>
    have := e.suffix [] _ (hbodies hne) (by simp)
    rw [List.map_cons, List.map_singleton, hentries _ rfl] at this
    exact this
  case refine_5 => rw [he]; exact hready.2.2.1
  all_goals rw [he]; rfl

/-- Settles O11. -/
theorem startSignalStartsTheHeat : Obligations.StartSignalStartsTheHeat := by
  refine ⟨fun s h p stamp hready hl hm hq hguard => ?_, fun s h p m tag hl hq hready hguard => ?_⟩
  · have hcur : s.heat.current = some h := hready.2.2.1
    have hrace : s.heat.race = .armed := hready.2.1
    have hedge : ((s.advance stamp).putStartLine .closed).startEdge stamp =
        (s.atSignal stamp .closed).startHeat h stamp .startLine := by
      show (s.atSignal stamp .closed).startEdge stamp = _
      unfold State.startEdge
      rw [stampOf_of_le hm, show (s.atSignal stamp .closed).heat.race = .armed from hrace,
        show (s.atSignal stamp .closed).heat.current = some h from hcur]
      exact if_neg (by
        rw [State.withinGuard_eq_false (s := s.atSignal stamp .closed) (by exact hguard)]
        exact Bool.false_ne_true)
    have he := State.startLineEdge_does (level := .closed) hready.1 (by simp [hl]) hq
    rw [if_pos rfl, hedge, State.startHeat_eq hready.atSignal (.inl rfl)] at he
    obtain ⟨h1, h2, h3, h4, h5, h6⟩ := State.startedFrom_of_ends hready (State.tell_settles _ _)
    exact ⟨_, he, h1, h2, h3, h4, h5, h6⟩
  · have hcur : s.heat.current = some h := hready.2.2.1
    have hrace : s.heat.race = .armed := hready.2.1
    have hh : (s.advance m).handle ⟨.start, tag, []⟩ =
        ((s.advance m).startHeat h (s.advance m).masterTime .startRequest).accept
          (.started (s.advance m).masterTime) := by
      show (if s.heat.race ≠ .armed then _ else _) = _
      rw [if_neg (not_not_intro hrace), State.withinGuard_eq_false (s := s.advance m) (by exact hguard),
        if_neg Bool.false_ne_true, show (s.advance m).heat.current = some h from hcur]
    rw [State.startHeat_eq (s := s.advance m) (p := p) (hready.atSignal (m := m) (line := s.heat.startLine))
      (.inr rfl)] at hh
    obtain ⟨t, ht, e, ha⟩ := State.request_tells (c := .start m tag []) rfl hready.1 hl hq hh
      (v := (s.advance m).started h p (s.advance m).masterTime)
      (bodies := (s.advance m).startNotices h p (s.advance m).masterTime .startRequest) ⟨rfl, rfl⟩ rfl
    obtain ⟨h1, h2, h3, h4, h5, h6⟩ := State.startedFrom_of_ends (line := s.heat.startLine) (m := m) hready e
    exact ⟨t, ht, h1, h3, h2, h4, ha, h5, h6⟩

end Sys2Proof.Machine

/-!
PROOFS. The end of a heat: what it sets, and the notices behind those of its lanes.
-/

namespace Sys2Proof.Machine

/-! ### What the lanes' operations change (R46) -/

/-- Between `s` and `u` only the lanes, the place order, the hold and the link have changed. -/
def State.LanesOnly (s u : State) : Prop :=
  u = { s with
    lanes := u.lanes
    placing := { s.placing with order := u.placing.order }
    board := { s.board with hold := u.board.hold }
    link := u.link }

@[refl] theorem State.LanesOnly.refl (s : State) : s.LanesOnly s := rfl

theorem State.LanesOnly.trans {s t u : State} (h : s.LanesOnly t) (h' : t.LanesOnly u) : s.LanesOnly u := by
  unfold State.LanesOnly at *
  rw [h', h]

theorem State.LanesOnly.notify (b : NoticeBody) (s : State) : s.LanesOnly (s.notify b) := by
  rw [State.notify_eq]
  rfl

theorem State.LanesOnly.thenNotify {s t : State} (h : s.LanesOnly t) (b : NoticeBody) :
    s.LanesOnly (t.notify b) := h.trans (.notify b t)

theorem State.LanesOnly.updLane (lane : Lane) (f : LaneRecord → LaneRecord) (s : State) :
    s.LanesOnly (s.updLane lane f) := rfl

theorem State.LanesOnly.foldl {α : Type} {f : State → α → State} (hf : ∀ s a, State.LanesOnly s (f s a))
    (l : List α) (s : State) : s.LanesOnly (l.foldl f s) := by
  induction l generalizing s with
  | nil => exact .refl s
  | cons a l ih => exact (hf s a).trans (ih _)

theorem State.notOnPlatform_lanesOnly (lane : Lane) (s : State) : s.LanesOnly (s.notOnPlatform lane) := by
  rw [State.notOnPlatform_eq]
  rfl

theorem State.giveVerdict_lanesOnly (h : HeatRecord) (lane : Lane) (r : ExchangeRecord) (cause : SettleCause)
    (s : State) : s.LanesOnly (s.giveVerdict h lane r cause) := by
  rw [State.giveVerdict_eq]
  rfl

theorem State.settlePending_lanesOnly (h : HeatRecord) (lane : Lane) (cause : SettleCause) (s : State) :
    s.LanesOnly (s.settlePending h lane cause) :=
  .foldl (fun s _ => s.giveVerdict_lanesOnly ..) _ s

theorem State.evaluateExchange_lanesOnly (h : HeatRecord) (lane : Lane) (leg : Nat) (cause : SettleCause)
    (s : State) : s.LanesOnly (s.evaluateExchange h lane leg cause) := by
  unfold State.evaluateExchange
  split
  · exact .refl s
  · split
    · exact State.giveVerdict_lanesOnly ..
    · exact .refl s

theorem State.legEndClosed_lanesOnly (h : HeatRecord) (lane : Lane) (leg : Nat) (source : OfficialSource)
    (padTime : Option Nat) (cause : SettleCause) (s : State) :
    s.LanesOnly (s.legEndClosed h lane leg source padTime cause) := by
  unfold State.legEndClosed
  split
  · exact .refl s
  · exact .trans (.updLane ..) (State.evaluateExchange_lanesOnly ..)

theorem State.closeLegEnd_lanesOnly (h : HeatRecord) (lane : Lane) (w : FinishWindow) (s : State) :
    s.LanesOnly (s.closeLegEnd h lane w) := by
  unfold State.closeLegEnd
  refine .trans ?_ (State.legEndClosed_lanesOnly ..)
  exact .thenNotify (.updLane ..) _

theorem State.notifyPlaces_lanesOnly (cause : PlacesCause) (before : Vector LaneRecord 10) (s : State) :
    s.LanesOnly (s.notifyPlaces cause before) := by
  unfold State.notifyPlaces
  split
  · exact .refl s
  · exact .notify ..

theorem State.closeFinal_lanesOnly (h : HeatRecord) (lane : Lane) (w : FinishWindow) (cause : CloseCause)
    (s : State) : s.LanesOnly (s.closeFinal h lane w cause) := by
  have hold : ∀ u : State, u.LanesOnly u.startHold := fun u => by
    unfold State.startHold
    split
    · rfl
    · exact .refl u
  have place : ∀ (u : State) (official : Nat), u.LanesOnly (u.placeFinish lane official) := fun u official =>
    .trans (t := u.setOrder _) rfl (State.notifyPlaces_lanesOnly ..)
  unfold State.closeFinal
  dsimp only
  split
  · refine .trans ?_ (hold _)
    refine .trans ?_ (place _ _)
    exact .thenNotify (.updLane ..) _
  · exact .updLane ..

theorem State.closeOpen_lanesOnly (h : HeatRecord) (lane : Lane) (s : State) :
    s.LanesOnly (State.closeOpen h lane s) := by
  unfold State.closeOpen State.closeWindow
  dsimp only
  repeat' split
  · exact .refl s
  · exact .refl s
  · exact s.closeLegEnd_lanesOnly ..
  · exact s.closeFinal_lanesOnly ..
  · exact .refl s

theorem State.closeRacing_lanesOnly (h : HeatRecord) (lane : Lane) (s : State) :
    s.LanesOnly (State.closeRacing h lane s) := by
  unfold State.closeRacing
  split
  · exact .trans (.updLane ..) (State.notOnPlatform_lanesOnly ..)
  · exact .refl s

/-- The steps of R46 up to the exchanges, behind the disarming of the pads. -/
theorem State.lanesSettled_lanesOnly (h : HeatRecord) (s : State) : s.disarmPads.LanesOnly (s.lanesSettled h) := by
  unfold State.lanesSettled
  refine .trans ?_ (.foldl (fun s lane => s.settlePending_lanesOnly ..) _ _)
  refine .trans ?_ (.foldl (fun s lane => s.closeRacing_lanesOnly h lane) _ _)
  exact .foldl (fun s lane => s.closeOpen_lanesOnly h lane) _ _

/-! ### The race state, the board and the timebase behind the lanes (R6, R46) -/

/-- No heat holds the timebase: the return and its notice. -/
theorem State.holdoverReturn_eq_tell {s : State} (hr : s.armedOrRunning = false) :
    s.holdoverReturn = ({ s with timebase := s.returned } : State).tell s.returnNotices := by
  unfold State.holdoverReturn State.returned State.returnNotices Config.goodWindows
  by_cases hret : s.timebase.state = .holdover ∧ s.timebase.goodCount = 20000
  · rw [if_pos ⟨hret.1, hret.2, hr⟩, if_pos hret, if_pos hret]
    unfold State.enterLocked State.notifyTimebase
    dsimp only
    rw [hret.1, State.notify_eq_tell]
    rfl
  · rw [if_neg fun h => hret ⟨h.1, h.2.1⟩, if_neg hret, if_neg hret]
    rfl

/-- The notices of the end of a heat behind those of its lanes. -/
def State.endNotices (h : HeatRecord) (cause : HeatCause) (s : State) : List NoticeBody :=
  .heatState .judging .running cause (some (h.event, h.heat)) s.heat.flags none none :: s.returnNotices

/-- The state of a heat that has ended, its lanes settled. -/
def State.ended (s : State) : State := { s.scannerOff.enterJudging with timebase := s.returned }

theorem State.endHeat_tells {h : HeatRecord} {cause : HeatCause} {s : State} (hcur : s.heat.current = some h)
    (hc : cause ≠ .recallLine ∧ cause ≠ .recallRequest) :
    s.endHeat h cause = ((s.lanesSettled h).ended).tell (s.endNotices h cause) := by
  have hheat : (s.lanesSettled h).heat = s.heat := by simp
  have htimebase : (s.lanesSettled h).timebase = s.timebase := by simp
  have hreturn : (s.lanesSettled h).returnNotices = s.returnNotices := by
    unfold State.returnNotices
    rw [htimebase]
  rw [State.endHeat_eq]
  unfold State.endNotices
  rw [← hreturn]
  generalize s.lanesSettled h = u at *
  have hnotice : u.scannerOff.enterJudging.notifyHeat .running cause = u.scannerOff.enterJudging.tell
      [.heatState .judging .running cause (some (h.event, h.heat)) s.heat.flags none none] := by
    unfold State.notifyHeat State.numbers
    rw [State.notify_eq_tell, show u.scannerOff.enterJudging.heat = { u.heat with race := .judging } from rfl, hheat]
    dsimp only
    rw [hcur]
    cases cause <;> first | rfl | exact absurd rfl hc.1 | exact absurd rfl hc.2
  rw [hnotice]
  rw [State.holdoverReturn_eq_tell rfl]
  exact State.tell_tell _ _ u.ended

/-! ### Notices said on the way -/

/-- Between `s` and `u` at most `n` notices have been made, and these among them, in this order. -/
def State.Says (said : List NoticeBody) (n : Nat) (s u : State) : Prop :=
  ∃ bodies, said.Sublist bodies ∧ bodies.length ≤ n ∧ State.Emits bodies s u

theorem State.Says.nothing {s u : State} (hc : u.clock = s.clock) (hl : u.link = s.link) : State.Says [] 0 s u :=
  ⟨[], .slnil, Nat.le_refl _, .nothing hc hl⟩

theorem State.Says.trans {a b : List NoticeBody} {n m : Nat} {s t u : State} (h : State.Says a n s t)
    (h' : State.Says b m t u) : State.Says (a ++ b) (n + m) s u := by
  obtain ⟨bs, ha, hn, em⟩ := h
  obtain ⟨cs, hb, hm, em'⟩ := h'
  refine ⟨bs ++ cs, ha.append hb, ?_, em.trans em'⟩
  rw [List.length_append]
  omega

theorem State.Says.mono {a : List NoticeBody} {n m : Nat} {s u : State} (h : State.Says a n s u) (hnm : n ≤ m) :
    State.Says a m s u := by
  obtain ⟨bs, ha, hn, em⟩ := h
  exact ⟨bs, ha, hn.trans hnm, em⟩

theorem State.Emits.tell (bodies : List NoticeBody) (s : State) : State.Emits bodies s (s.tell bodies) :=
  ⟨rfl, rfl⟩

theorem State.Says.tell (bodies : List NoticeBody) {v : State} {s : State} (hc : v.clock = s.clock)
    (hl : v.link = s.link) : State.Says bodies bodies.length s (v.tell bodies) :=
  ⟨bodies, .refl _, Nat.le_refl _, (State.Emits.tell bodies v).behind hc hl⟩

/-- Whatever notices lead from `v` to `u`, `t` is the end of the event that has made them. -/
def State.EventEnds (v u t : State) : Prop := ∀ bodies, State.Emits bodies v u → v.EndsTelling bodies t

theorem State.settle_eventEnds {v u : State} (hu : u = { v with link := u.link }) : v.EventEnds u u.settle :=
  fun _ em => em.settles hu

/-- A request at its end. -/
theorem State.request_eventEnds {s : State} {kind : RequestKind} {m : Nat} {tag : Byte} {p : List Byte}
    {c : Instr} (hc : exec c s = .next (s.request kind m tag p)) {v u : State} {a : Answer}
    (hr : s.isRunning = true) (h : s.linkReady) (hq : s.quietUntil m = true)
    (hh : (s.advance m).handle ⟨kind, tag, p⟩ = ⟨u, some a⟩) (hu : u = { v with link := u.link }) :
    ∃ t, exec c s = .next t ∧ v.EventEnds u t ∧ t.answers kind tag a := by
  obtain ⟨t, ht, hset, l, ha⟩ := State.request_does hc hr h hq hh
  refine ⟨t, ht, fun bodies em => ?_, ha⟩
  have told := State.settle_told (em.pushReply ⟨.execution, some kind, tag, a⟩)
  rw [← hset] at told
  exact em.endsTelling hu l told

/-- The notices of an event that are of these steps of R46, in their order, are told in the order of its steps. -/
theorem State.EndsTelling.tellsInSteps {s v t : State} {bodies : List NoticeBody} (h : v.EndsTelling bodies t)
    (hl : v.link = s.link) (hb : bodies.Pairwise fun a b => a.endStep ≤ b.endStep) : s.tellsInSteps t := by
  intro hf
  obtain ⟨older, k, hs, ht⟩ := h.inOrder (by rw [hl]; exact hf)
  have hstep : ∀ b : NoticeBody, (b.withReasons v.lanes).endStep = b.endStep := fun b => by
    cases b with
    | exchange _ _ c _ => cases c <;> rfl
    | _ => rfl
  refine ⟨older, _, ht, ?_, List.pairwise_map.2 ?_⟩
  · have : v.told = s.told := by unfold State.told; rw [hl]
    rwa [← this]
  · refine (hb.sublist (List.drop_sublist k bodies)).imp fun {a b} hab => ?_
    show (a.withReasons v.lanes).endStep ≤ (b.withReasons v.lanes).endStep
    rw [hstep, hstep]
    exact hab

/-- The lanes' notices stand in the order of the steps that make them. -/
theorem State.lanesSettled_inSteps (h : HeatRecord) (s : State) : ∃ bodies,
    bodies.Pairwise (fun a b : NoticeBody => a.endStep ≤ b.endStep) ∧
      (∀ b ∈ bodies, 2 ≤ b.endStep ∧ b.endStep ≤ 4) ∧ State.Emits bodies s (s.lanesSettled h) := by
  obtain ⟨b2, h2, e2⟩ := State.makes_iff_emits.1 (s.disarmPads.closeWindows_makes h)
  obtain ⟨b3, h3, e3⟩ := State.makes_iff_emits.1 ((s.disarmPads.closeWindows h).closeLanes_makes h)
  obtain ⟨b4, h4, e4⟩ := State.makes_iff_emits.1 (((s.disarmPads.closeWindows h).closeLanes h).settleExchanges_makes h)
  have s2 : ∀ b ∈ b2, b.endStep = 2 := h2
  have s3 : ∀ b ∈ b3, b.endStep = 3 := fun b hb => by
    have := h3 b hb
    cases b <;> first | rfl | exact this.elim
  have s4 : ∀ b ∈ b4, b.endStep = 4 := fun b hb => by
    have := h4 b hb
    cases b with
    | exchange _ _ c _ => cases (show c = .heatEnd from this); rfl
    | _ => exact this.elim
  have same : ∀ (n : Nat) (l : List NoticeBody), (∀ b ∈ l, b.endStep = n) →
      l.Pairwise fun a b : NoticeBody => a.endStep ≤ b.endStep := fun n l hl =>
    List.pairwise_of_forall_mem_list fun a ha b hb => by rw [hl a ha, hl b hb]
  refine ⟨b2 ++ (b3 ++ b4), ?_, ?_, ?_⟩
  · refine List.pairwise_append.2 ⟨same 2 b2 s2, List.pairwise_append.2 ⟨same 3 b3 s3, same 4 b4 s4, ?_⟩, ?_⟩
    · intro a ha b hb
      rw [s3 a ha, s4 b hb]
      omega
    · intro a ha b hb
      rw [s2 a ha]
      rcases List.mem_append.1 hb with hb | hb
      · rw [s3 b hb]; omega
      · rw [s4 b hb]; omega
  · intro b hb
    rcases List.mem_append.1 hb with hb | hb
    · rw [s2 b hb]; omega
    · rcases List.mem_append.1 hb with hb | hb
      · rw [s3 b hb]; omega
      · rw [s4 b hb]; omega
  · exact (e2.behind rfl rfl).trans (e3.trans e4)

theorem State.endNotices_step {h : HeatRecord} {cause : HeatCause} {s : State} {b : NoticeBody}
    (hb : b ∈ s.endNotices h cause) : 4 ≤ b.endStep := by
  unfold State.endNotices State.returnNotices at hb
  rcases List.mem_cons.1 hb with rfl | hb
  · exact (by decide : 4 ≤ 6)
  · split at hb
    · rw [List.mem_singleton.1 hb]
      exact (by decide : 4 ≤ 7)
    · cases hb

theorem State.endNotices_inSteps {h : HeatRecord} {cause : HeatCause} {s : State} {bodies : List NoticeBody}
    (hp : bodies.Pairwise fun a b : NoticeBody => a.endStep ≤ b.endStep)
    (hb : ∀ b ∈ bodies, b.endStep ≤ 4) :
    (bodies ++ s.endNotices h cause).Pairwise fun a b : NoticeBody => a.endStep ≤ b.endStep := by
  refine List.pairwise_append.2 ⟨hp, ?_, ?_⟩
  · unfold State.endNotices State.returnNotices
    split <;> simp [NoticeBody.endStep]
  · intro a ha b hm
    exact (hb a ha).trans (State.endNotices_step hm)

/-! ### What the end of a heat leaves -/

/-- The state of a heat that has ended, before its notices: with the link of `s`. -/
def State.endedFor (s u : State) : State := { u.ended with link := s.link }

section

variable {h : HeatRecord} {cause : HeatCause} {s : State} (hcur : s.heat.current = some h)
  (hc : cause ≠ .recallLine ∧ cause ≠ .recallRequest)
include hcur hc

theorem State.endHeat_endedFor (s0 : State) :
    s.endHeat h cause = { s0.endedFor (s.lanesSettled h) with link := (s.endHeat h cause).link } := by
  rw [State.endHeat_tells hcur hc]
  generalize s.lanesSettled h = u
  rfl

theorem State.endHeat_emits {s0 : State} {bodies : List NoticeBody} (em : State.Emits bodies s0 (s.lanesSettled h)) :
    State.Emits (bodies ++ s.endNotices h cause) (s0.endedFor (s.lanesSettled h)) (s.endHeat h cause) := by
  rw [State.endHeat_tells hcur hc]
  obtain ⟨hclock, hlink⟩ := em
  generalize s.lanesSettled h = u at *
  refine .trans (t := u.ended) ⟨rfl, ?_⟩ (.tell _ _)
  have hm : (s0.endedFor u).masterTime = s0.masterTime := by
    unfold State.masterTime
    rw [show (s0.endedFor u).clock = u.clock from rfl, hclock]
  rw [hm]
  exact hlink

end

/-- What the end of a heat leaves, its lanes apart. -/
theorem State.endedFrom_of_ends {h : HeatRecord} {s u t : State} {l : Link} (hcur : s.heat.current = some h)
    (hu : s.disarmPads.LanesOnly u)
    (hdone : ∀ lane : Lane, h.enters lane = true → (s.lanes[lane]).status = .racing →
      (u.lanes[lane]).status = .finished ∨ (u.lanes[lane]).status = .closed)
    (e : ({ u.ended with link := l } : State).EndsAs t) : s.EndedFrom h t := by
  obtain ⟨he, ⟨hmode, htest, hover, hhold, hfrozen⟩, -⟩ := e
  unfold State.LanesOnly at hu
  have hlanes : t.lanes = u.lanes := by
    have := congrArg State.lanes he
    exact this
  have hheat : t.heat = { s.heat with race := .judging } := by
    rw [he, hu]
    rfl
  have hwall : t.wall = s.disarmPads.wall := by
    rw [he, hu]
    rfl
  have hscanner : t.scanner = s.scannerOff.scanner := by
    rw [he, hu]
    rfl
  refine ⟨?_, ?_, ?_, ?_, ?_, fun lane hin hst => ?_, ?_, ?_, fun ends => ?_, ?_, ?_, ?_, ?_⟩
  case refine_1 => rw [hheat]
  case refine_2 => rw [hheat]; exact ⟨hcur, rfl⟩
  case refine_3 => rw [hheat]; exact ⟨rfl, rfl, rfl⟩
  case refine_4 =>
    rw [hwall]
    refine ⟨rfl, fun pad => ?_⟩
    unfold State.disarmPads
    simp only [tab_getElem, Fin.getElem_fin]
  case refine_5 => rw [hwall]; exact ⟨rfl, rfl, rfl⟩
  case refine_6 => rw [hlanes]; exact hdone lane hin hst
  case refine_7 =>
    rw [hscanner]
    refine ⟨rfl, rfl, rfl, fun lane => ?_⟩
    unfold State.scannerOff
    simp only [tab_getElem, Fin.getElem_fin]
  case refine_8 =>
    refine hfrozen.trans ?_
    rw [he]
    rfl
  case refine_9 =>
    rw [hhold]
    show u.scannerOff.enterJudging.board.hold ≠ _
    unfold State.enterJudging State.freezeBoard
    dsimp only
    split
    · simp
    · next hne => exact hne ends
  case refine_10 =>
    rw [hmode, htest, hover, hu]
    exact ⟨rfl, rfl, rfl⟩
  case refine_11 => rw [he, hu]; rfl
  case refine_12 => rw [he, hu]; exact ⟨rfl, rfl, rfl⟩
  case refine_13 => rw [he, hu]; exact ⟨rfl, rfl, rfl⟩

end Sys2Proof.Machine

/-!
PROOFS. The lane that finishes, or is closed, and the end of the heat behind the last.
-/

namespace Sys2Proof.Machine

/-! ### A FINAL window with an official time (R90, R138, R140) -/

/-- The place order with a lane in it. -/
def State.orderWith (lane : Lane) (official : Nat) (s : State) : List (Lane × Nat) :=
  insertOrder (lane, official / 100) (removeOrder lane s.placing.order)

/-- A lane FINISHED and placed, the first finish's hold begun. -/
def State.finishes (h : HeatRecord) (lane : Lane) (w : FinishWindow) (official : Nat) (s : State) : State :=
  ((s.putLane lane (s.finishedLane h lane w official)).setOrder (s.orderWith lane official)).startHold

/-- The PLACES notice of changed places; none when no place has changed. -/
def placesNotices (cause : PlacesCause) (before after : Vector LaneRecord 10) (count : Nat) : List NoticeBody :=
  match placeChanges before after with
  | [] => []
  | changes => [.places cause changes count]

theorem placesNotices_length (cause : PlacesCause) (before after : Vector LaneRecord 10) (count : Nat) :
    (placesNotices cause before after count).length ≤ 1 := by
  unfold placesNotices
  split <;> simp

theorem State.notifyPlaces_eq (cause : PlacesCause) (before : Vector LaneRecord 10) (s : State) :
    s.notifyPlaces cause before = s.tell (placesNotices cause before s.lanes s.placing.order.length) := by
  unfold State.notifyPlaces placesNotices
  cases placeChanges before s.lanes with
  | nil => rfl
  | cons change rest => exact State.notify_eq_tell _ s

/-- The FINISH notice of a lane. -/
def State.finishNotice (h : HeatRecord) (lane : Lane) (w : FinishWindow) (cause : CloseCause) (s : State) :
    NoticeBody :=
  .finish lane (s.lanes[lane]).label (closedRecord h h.lengths w (s.deriveWindow h lane w)) (if h.relay then 4 else 1)
    ((s.lanes[lane]).reasons.union (s.deriveWindow h lane w).reasons) cause

/-- The notices of a lane that finishes. -/
def State.finishNotices (h : HeatRecord) (lane : Lane) (w : FinishWindow) (official : Nat) (cause : CloseCause)
    (s : State) : List NoticeBody :=
  s.finishNotice h lane w cause ::
    placesNotices (.finish lane) s.lanes (s.finishes h lane w official).lanes (s.orderWith lane official).length

theorem State.tell_startHold (bodies : List NoticeBody) (s : State) :
    (s.tell bodies).startHold = s.startHold.tell bodies := by
  unfold State.startHold
  rw [apply_ite (State.tell bodies)]
  rfl

theorem State.startHold_lanes (s : State) : s.startHold.lanes = s.lanes := by
  unfold State.startHold
  split <;> rfl

theorem State.finishes_lane (h : HeatRecord) (lane : Lane) (w : FinishWindow) (official : Nat) (s : State) (l : Lane) :
    (s.finishes h lane w official).lanes[l] =
      { (if l = lane then s.finishedLane h lane w official else s.lanes[l]) with
        place := placeIn (s.orderWith lane official) l } := by
  have hset : ∀ v : State, (v.setOrder (s.orderWith lane official)).lanes[l] =
      { v.lanes[l] with place := placeIn (s.orderWith lane official) l } := fun v => by
    unfold State.setOrder
    simp only [tab_getElem, Fin.getElem_fin, Fin.eta]
  unfold State.finishes
  rw [State.startHold_lanes, hset]
  by_cases hl : l = lane
  · subst hl
    rw [if_pos rfl, State.putLane_self]
  · rw [if_neg hl, State.putLane_ne hl]

/-- A change of other fields of a lane's record changes no place. -/
theorem placeChanges_putLane (lane : Lane) (r : LaneRecord) (s : State) (after : Vector LaneRecord 10)
    (hr : r.place = (s.lanes[lane]).place) :
    placeChanges (s.putLane lane r).lanes after = placeChanges s.lanes after := by
  have hplace : ∀ l : Lane, ((s.putLane lane r).lanes[l]).place = (s.lanes[l]).place := fun l => by
    by_cases hl : l = lane
    · subst hl
      rw [State.putLane_self, hr]
    · rw [State.putLane_ne hl]
  unfold placeChanges
  simp only [hplace]

theorem State.closeFinal_eq {h : HeatRecord} {lane : Lane} {w : FinishWindow} {official : Nat} {s : State}
    (cause : CloseCause) (hd : (s.deriveWindow h lane w).official = some official)
    (hn : (s.lanes[lane]).expected = h.lengths) :
    s.closeFinal h lane w cause = (s.finishes h lane w official).tell (s.finishNotices h lane w official cause) := by
  unfold State.closeFinal
  dsimp only
  rw [hd, hn]
  dsimp only
  rw [State.updLane_eq, State.notify_eq_tell]
  unfold State.placeFinish State.reorder
  rw [State.notifyPlaces_eq]
  show (State.tell _ (((s.putLane lane (s.finishedLane h lane w official)).setOrder
    (s.orderWith lane official)).tell _)).startHold = _
  rw [State.tell_tell, State.tell_startHold, State.tell_lanes]
  unfold State.finishNotices
  rw [show (s.finishes h lane w official).lanes = ((s.putLane lane (s.finishedLane h lane w official)).setOrder
    (s.orderWith lane official)).lanes from State.startHold_lanes _]
  refine congrArg (fun l => State.tell l (s.finishes h lane w official)) ?_
  refine congrArg (List.cons _) ?_
  unfold placesNotices
  rw [← placeChanges_putLane lane (s.finishedLane h lane w official) s _ rfl]
  rfl

/-! ### The places that are told (R140) -/

theorem placeIn_isSome {order : List (Lane × Nat)} {lane : Lane} {n : Nat} (h : (lane, n) ∈ order) :
    (placeIn order lane).isSome = true := by
  unfold placeIn orderHundredths
  rw [Option.isSome_map, Option.isSome_map, List.find?_isSome]
  exact ⟨(lane, n), h, by simp⟩

theorem State.finishes_placed (h : HeatRecord) (lane : Lane) (w : FinishWindow) (official : Nat) (s : State) :
    (((s.finishes h lane w official).lanes[lane]).place).isSome = true := by
  rw [State.finishes_lane]
  exact placeIn_isSome (mem_insertOrder.2 (.inl rfl))

/-- A place that has changed is told. -/
theorem placesNotices_changed {cause : PlacesCause} {before after : Vector LaneRecord 10} {count : Nat} {lane : Lane}
    (h : (before[lane]).place ≠ (after[lane]).place) :
    placesNotices cause before after count = [.places cause (placeChanges before after) count] := by
  have hne : placeChanges before after ≠ [] := by
    unfold placeChanges
    rw [Ne, List.map_eq_nil_iff, List.filter_eq_nil_iff]
    intro hall
    exact hall lane (mem_allLanes lane) (decide_eq_true h)
  unfold placesNotices
  cases hp : placeChanges before after with
  | nil => exact absurd hp hne
  | cons change rest => rfl

theorem State.placesTold_eq {cause : PlacesCause} {s t : State} {after : Vector LaneRecord 10}
    (hl : ∀ l : Lane, (t.lanes[l]).place = (after[l]).place ∧ (t.lanes[l]).finalTime = (after[l]).finalTime) :
    s.placesTold cause t =
      ⟨t.masterTime, .places cause (placeChanges s.lanes after) t.placing.order.length⟩ := by
  have hchanges : ((allLanes.filter fun lane => (s.lanes[lane]).place != (t.lanes[lane]).place).map fun lane =>
      (⟨lane, (s.lanes[lane]).place, (t.lanes[lane]).place, (t.lanes[lane]).finalTime.map (· / 100)⟩ : PlaceChange)) =
      placeChanges s.lanes after := by
    unfold placeChanges
    have hb : ∀ a b : Option Nat, (a != b) = decide (a ≠ b) := fun a b => by
      rw [Bool.eq_iff_iff]
      simp
    simp only [fun l => (hl l).1, fun l => (hl l).2, hb]
    rfl
  unfold State.placesTold
  rw [hchanges]

/-- The notices of a lane that finishes without a place before. -/
theorem State.finishNotices_unplaced {h : HeatRecord} {lane : Lane} {w : FinishWindow} {official : Nat}
    {cause : CloseCause} {s : State} (hp : (s.lanes[lane]).place = none) :
    s.finishNotices h lane w official cause = [s.finishNotice h lane w cause,
      .places (.finish lane) (placeChanges s.lanes (s.finishes h lane w official).lanes)
        (s.orderWith lane official).length] := by
  unfold State.finishNotices
  rw [placesNotices_changed (lane := lane) fun he => ?_]
  have := s.finishes_placed h lane w official
  rw [← he, hp] at this
  exact absurd this (by simp)

theorem State.finishNotices_length (h : HeatRecord) (lane : Lane) (w : FinishWindow) (official : Nat)
    (cause : CloseCause) (s : State) : (s.finishNotices h lane w official cause).length ≤ 2 := by
  have := placesNotices_length (.finish lane) s.lanes (s.finishes h lane w official).lanes
    (s.orderWith lane official).length
  unfold State.finishNotices
  rw [List.length_cons]
  omega

/-- The close of a FINAL window with an official time, as an event. -/
theorem State.finalClose_does {s : State} {h : HeatRecord} {lane : Lane} {w : FinishWindow} {start official : Nat}
    (hr : s.isRunning = true) (hrace : s.heat.race = .running) (hcur : s.heat.current = some h)
    (hstart : s.heat.startMark = some start) (hw : (s.lanes[lane]).window = some w)
    (hn : (s.lanes[lane]).expected = h.lengths) (hq : s.quietUntil (start + w.closesAt) = true)
    (hd : (s.deriveWindow h lane w).official = some official) :
    exec (.finishWindowClose lane) s = .next ((((s.advance (start + w.closesAt)).finishes h lane w official).tell
      ((s.advance (start + w.closesAt)).finishNotices h lane w official .window)).endIfDone h).settle := by
  rw [State.windowClose_does hr hrace hstart hw hq]
  unfold State.windowTimeout State.closeWindow
  rw [show (s.advance (start + w.closesAt)).heat.current = some h from hcur]
  dsimp only
  rw [show (s.advance (start + w.closesAt)).lanes = s.lanes from rfl, hw, hn, lengthKind_lengths]
  dsimp only
  rw [State.closeFinal_eq (s := s.advance (start + w.closesAt)) .window hd hn]

theorem State.finishes_placing (h : HeatRecord) (lane : Lane) (w : FinishWindow) (official : Nat) (s : State) :
    (s.finishes h lane w official).placing = { s.placing with order := s.orderWith lane official } := by
  unfold State.finishes State.startHold
  split <;> rfl

theorem State.finishes_eq (h : HeatRecord) (lane : Lane) (w : FinishWindow) (official : Nat) (s : State) :
    s.finishes h lane w official = { s with
      lanes := (s.finishes h lane w official).lanes
      placing := { s.placing with order := s.orderWith lane official }
      board := { s.board with hold :=
        if s.board.hold = .none ∧ s.heat.race = .running then .holding (s.clock + 50000) else s.board.hold } } := by
  rw [show (s.finishes h lane w official).lanes = ((s.putLane lane (s.finishedLane h lane w official)).setOrder
    (s.orderWith lane official)).lanes from State.startHold_lanes _]
  unfold State.finishes State.startHold
  by_cases hhold : s.board.hold = .none ∧ s.heat.race = .running
  · rw [if_pos (by exact hhold), if_pos hhold]
    rfl
  · rw [if_neg (by exact hhold), if_neg hhold]
    rfl

/-! ### The end of a heat whose lanes are done but one (R46) -/

theorem State.foldl_idle {f : Lane → State → State} {s : State} (l : List Lane) (h : ∀ a ∈ l, f a s = s) :
    l.foldl (fun s a => f a s) s = s := by
  induction l with
  | nil => rfl
  | cons a rest ih =>
    rw [List.foldl_cons, h a List.mem_cons_self]
    exact ih fun b hb => h b (List.mem_cons_of_mem _ hb)

/-- What leaves every lane alone. -/
theorem State.eachLane_idle {f : Lane → State → State} {s : State} (h : ∀ l, f l s = s) : s.eachLane f = s :=
  State.foldl_idle allLanes fun a _ => h a

theorem allLanes_split (lane : Lane) : ∃ before after, allLanes = before ++ lane :: after ∧ lane ∉ before ∧
    lane ∉ after := by
  obtain ⟨before, after, h⟩ := List.append_of_mem (mem_allLanes lane)
  have hn : (before ++ lane :: after).Nodup := h ▸ (by decide : allLanes.Nodup)
  obtain ⟨-, hafter, hbefore⟩ := List.nodup_append.1 hn
  exact ⟨before, after, h, fun hm => hbefore lane hm lane List.mem_cons_self rfl, (List.nodup_cons.1 hafter).1⟩

/-- What leaves all lanes but one alone, before it and behind it. -/
theorem State.eachLane_only {f : Lane → State → State} {s : State} {lane : Lane}
    (h : ∀ l, l ≠ lane → f l s = s ∧ f l (f lane s) = f lane s) : s.eachLane f = f lane s := by
  obtain ⟨before, after, hs, hb, ha⟩ := allLanes_split lane
  unfold State.eachLane
  rw [hs, List.foldl_append, State.foldl_idle before fun l hl => (h l fun he => hb (he ▸ hl)).1, List.foldl_cons]
  exact State.foldl_idle after fun l hl => (h l fun he => ha (he ▸ hl)).2

theorem State.settlePending_idle {h : HeatRecord} {lane : Lane} {cause : SettleCause} {s : State}
    (hp : ∀ e ∈ (s.lanes[lane]).exchanges, e.verdict ≠ .pending) : s.settlePending h lane cause = s := by
  unfold State.settlePending
  rw [List.filter_eq_nil_iff.2 (by simpa using hp)]
  rfl

/-- With no window open and no lane RACING the end of a heat settles the exchanges only. -/
theorem State.lanesSettled_done {h : HeatRecord} {s : State} (hw : ∀ l : Lane, (s.lanes[l]).window = none)
    (hst : ∀ l : Lane, (s.lanes[l]).status ≠ .racing) : s.lanesSettled h = s.disarmPads.settleExchanges h := by
  have hopen : s.disarmPads.closeWindows h = s.disarmPads := by
    refine State.eachLane_idle fun l => ?_
    unfold State.closeOpen State.closeWindow
    dsimp only
    rw [show s.disarmPads.lanes = s.lanes from rfl, hw]
    exact ite_self _
  have hclose : s.disarmPads.closeLanes h = s.disarmPads := by
    refine State.eachLane_idle fun l => ?_
    unfold State.closeRacing
    exact if_neg fun hc => hst l hc.2
  unfold State.lanesSettled
  rw [hopen, hclose]

/-- The one lane that has something to settle. -/
theorem State.lanesSettled_last {h : HeatRecord} {lane : Lane} {s : State} (hdone : ∀ l : Lane, l ≠ lane → s.laneDone l)
    (hw : (s.lanes[lane]).window = none) (hst : (s.lanes[lane]).status ≠ .racing)
    (hone : oneEachLeg (s.lanes[lane]).exchanges) :
    s.lanesSettled h = (s.disarmPads.putLane lane (settledLane s.lanes[lane])).tell
      (settledNotices h lane .heatEnd s.lanes[lane] (s.lanes[lane]).exchanges) := by
  rw [State.lanesSettled_done (fun l => ?_) fun l => ?_]
  · have hsettle := State.settlePending_eq (h := h) (s := s.disarmPads) .heatEnd hone
    unfold State.settleExchanges
    rw [State.eachLane_only (f := fun lane s => s.settlePending h lane .heatEnd) (s := s.disarmPads) (lane := lane)
      fun l hl => ⟨State.settlePending_idle (hdone l hl).2.2, ?_⟩]
    · exact hsettle
    · refine State.settlePending_idle ?_
      rw [hsettle, State.tell_lanes, State.putLane_ne hl]
      exact (hdone l hl).2.2
  · by_cases hl : l = lane
    · rw [hl]; exact hw
    · exact (hdone l hl).2.1
  · by_cases hl : l = lane
    · rw [hl]; exact hst
    · exact (hdone l hl).1

/-- With no lane RACING the heat ends (R46). -/
theorem State.endIfDone_done {h : HeatRecord} {s : State} (hst : ∀ l : Lane, (s.lanes[l]).status ≠ .racing) :
    s.endIfDone h = s.endHeat h .allLanesDone := by
  unfold State.endIfDone
  refine if_pos ?_
  unfold State.allDone
  rw [List.all_eq_true]
  intro l _
  rw [bne_iff_ne.2 (hst l), Bool.or_true]

/-! ### The notices of the end of a heat -/

section

variable {h : HeatRecord} {cause : HeatCause} {s s0 t v : State} {bodies : List NoticeBody}
  (e : v.EndsTelling (bodies ++ s.endNotices h cause) t)
include e

theorem State.EndsTelling.tellsEnd : t.tells ⟨t.masterTime, .heatState .judging .running cause
    (some (h.event, h.heat)) s.heat.flags none none⟩ := by
  have hlast := e.suffix bodies (s.endNotices h cause) rfl (by
    have := s.returnNotices_length
    unfold State.endNotices
    rw [List.length_cons]
    omega)
  rw [State.tells_iff_mem_told]
  refine hlast.subset ?_
  unfold State.endNotices
  exact List.mem_cons_self

/-- The timebase behind the end of a heat (R6). -/
theorem State.EndsTelling.holdoverReturns (hv : v.timebase = s.returned) : s.HoldoverReturns t := by
  have htimebase : t.timebase = s.returned := by
    rw [e.ends.1]
    exact hv
  unfold State.HoldoverReturns
  split
  · next hret =>
    refine ⟨by rw [htimebase]; exact if_pos hret, ?_⟩
    have hnotices : s.returnNotices = [.timebase .locked .holdover s.timebase.source .referenceRestored] :=
      if_pos hret
    have hlast := e.suffix (bodies ++ [.heatState .judging .running cause (some (h.event, h.heat)) s.heat.flags
      none none]) s.returnNotices (by unfold State.endNotices; simp) (by rw [hnotices]; simp)
    rw [State.tells_iff_mem_told]
    refine hlast.subset ?_
    rw [hnotices]
    exact List.mem_singleton_self _
  · next hret => rw [htimebase]; exact if_neg hret

end

theorem State.LanesOnly.tell (bodies : List NoticeBody) (s : State) : s.LanesOnly (s.tell bodies) := rfl

theorem State.LanesOnly.disarmPads {s u : State} (h : s.LanesOnly u) : s.disarmPads.LanesOnly u.disarmPads := by
  unfold State.LanesOnly at *
  rw [h]
  rfl

/-- The end of a heat behind the last of its lanes: `v`, with what it has told, is what the event has made of `s`
before. -/
structure State.EndedLast (h : HeatRecord) (lane : Lane) (before : List NoticeBody) (s v t : State) : Prop where
  ended : s.EndedFrom h t
  clock : t.clock = s.clock
  record : t.lanes[lane] = settledLane v.lanes[lane]
  others : ∀ l : Lane, l ≠ lane → t.lanes[l] = v.lanes[l]
  placing : t.placing = v.placing
  flags : t.heat.flags = s.heat.flags
  hold : t.board.hold = match v.board.hold with
    | .holding _ => .spent
    | other => other
  returns : s.HoldoverReturns t
  link : s.linkKept t
  tellsEnd : t.tells ⟨t.masterTime, .heatState .judging .running .allLanesDone (some (h.event, h.heat))
    s.heat.flags none none⟩
  tells : before.length ≤ 50 →
    ∀ b ∈ before ++ settledNotices h lane .heatEnd v.lanes[lane] (v.lanes[lane]).exchanges,
      t.tells ⟨t.masterTime, b.withReasons t.lanes⟩
  told : before.length ≤ 50 →
    (before.map fun b => (⟨t.masterTime, b.withReasons t.lanes⟩ : Notice)).Sublist t.told
  steps : (∀ b ∈ before, b.endStep = 2) → s.tellsInSteps t

theorem State.endedLast {h : HeatRecord} {lane : Lane} {before : List NoticeBody} {s v t : State}
    (hcur : s.heat.current = some h) (hv : s.LanesOnly v) (hlink : v.link = s.link)
    (hothers : ∀ l : Lane, l ≠ lane → (s.lanes[l]).status ≠ .racing) (hdone : ∀ l : Lane, l ≠ lane → v.laneDone l)
    (hw : (v.lanes[lane]).window = none)
    (hst : (v.lanes[lane]).status = .finished ∨ (v.lanes[lane]).status = .closed)
    (hone : oneEachLeg (v.lanes[lane]).exchanges)
    (he : (s.endedFor ((v.tell before).lanesSettled h)).EventEnds ((v.tell before).endHeat h .allLanesDone) t) :
    s.EndedLast h lane before v t := by
  have hracing : (v.lanes[lane]).status ≠ .racing := by
    rcases hst with hst | hst <;> rw [hst] <;> simp
  have hsettled := State.lanesSettled_last (h := h) (lane := lane) (s := v.tell before) hdone hw hracing hone
  have hheat : (v.tell before).heat = s.heat := by
    show v.heat = s.heat
    rw [hv]
  have htimebase : (v.tell before).timebase = s.timebase := by
    show v.timebase = s.timebase
    rw [hv]
  have hclock : v.clock = s.clock := by rw [hv]
  have em : State.Emits (before ++ settledNotices h lane .heatEnd v.lanes[lane] (v.lanes[lane]).exchanges) s
      ((v.tell before).lanesSettled h) := by
    rw [hsettled]
    exact ((State.Emits.tell before v).behind hclock hlink).trans ((State.Emits.tell _ _).behind rfl rfl)
  have hlanesOnly : s.disarmPads.LanesOnly ((v.tell before).lanesSettled h) :=
    .trans (State.LanesOnly.disarmPads (hv.trans (.tell before v))) (State.lanesSettled_lanesOnly h _)
  have hrecord : ((v.tell before).lanesSettled h).lanes[lane] = settledLane v.lanes[lane] := by
    rw [hsettled, State.tell_lanes, State.putLane_self]
    rfl
  have hother : ∀ l : Lane, l ≠ lane → ((v.tell before).lanesSettled h).lanes[l] = v.lanes[l] := fun l hl => by
    rw [hsettled, State.tell_lanes, State.putLane_ne hl]
    rfl
  have hplacing : ((v.tell before).lanesSettled h).placing = v.placing := by
    rw [hsettled]
    rfl
  have hboard : ((v.tell before).lanesSettled h).board = v.board := by
    rw [hsettled]
    rfl
  have hlanesClock : ((v.tell before).lanesSettled h).clock = s.clock := em.1
  have htb : ((v.tell before).lanesSettled h).timebase = s.timebase := by simp [htimebase]
  have hflags : ((v.tell before).lanesSettled h).heat = s.heat := by simp [hheat]
  obtain ⟨b', hpair, hsteps, em'⟩ := (v.tell before).lanesSettled_inSteps h
  have hnone : HeatCause.allLanesDone ≠ .recallLine ∧ HeatCause.allLanesDone ≠ .recallRequest := by decide
  have e := he _ (State.endHeat_emits (by rw [hheat]; exact hcur) hnone em)
  have e' := he _ (State.endHeat_emits (by rw [hheat]; exact hcur) hnone
    (((State.Emits.tell before v).behind hclock hlink).trans em'))
  have hreturned : (v.tell before).returned = s.returned := by
    unfold State.returned
    rw [htimebase]
  have hnotices : (v.tell before).endNotices h .allLanesDone = s.endNotices h .allLanesDone := by
    unfold State.endNotices State.returnNotices
    rw [htimebase, hheat]
  rw [hnotices] at e e'
  generalize (v.tell before).lanesSettled h = u at *
  obtain ⟨ht, -, hlk⟩ := e.ends
  have hlanes : t.lanes = u.lanes := by
    have := congrArg State.lanes ht
    exact this
  have hcount : before.length ≤ 50 →
      ((before ++ settledNotices h lane .heatEnd v.lanes[lane] (v.lanes[lane]).exchanges) ++
        s.endNotices h .allLanesDone).length ≤ 64 := by
    intro hb
    have h1 := settledNotices_length (h := h) (lane := lane) (cause := .heatEnd) (r := v.lanes[lane]) hone
    have h2 := s.returnNotices_length
    unfold State.endNotices
    rw [List.length_append, List.length_append, List.length_cons]
    omega
  refine ⟨?_, ?_, ?_, fun l hl => ?_, ?_, ?_, ?_, ?_, hlk, e.tellsEnd, fun hb b hm => ?_, fun hb => ?_, fun hs => ?_⟩
  · refine State.endedFrom_of_ends hcur hlanesOnly (fun l _ hr => ?_) e.ends
    by_cases hl : l = lane
    · rw [hl, hrecord]
      exact hst
    · exact absurd hr (hothers l hl)
  · rw [ht]
    exact hlanesClock
  · rw [hlanes, hrecord]
  · rw [hlanes, hother l hl]
  · rw [ht]
    exact hplacing
  · rw [ht]
    show u.heat.flags = s.heat.flags
    rw [hflags]
  · rw [e.ends.2.1.2.2.2.1, ← hboard]
    rfl
  · refine e.holdoverReturns ?_
    show u.returned = s.returned
    unfold State.returned
    rw [htb]
  · rw [hlanes]
    exact e.tells (hcount hb) b (List.mem_append_left _ hm)
  · have hall := (e.suffix [] _ rfl (hcount hb)).sublist
    rw [hlanes]
    refine .trans ?_ hall
    refine List.Sublist.map (fun b : NoticeBody => (⟨t.masterTime, b.withReasons u.lanes⟩ : Notice)) ?_
    exact (List.sublist_append_left _ _).trans (List.sublist_append_left _ _)
  · refine e'.tellsInSteps rfl (State.endNotices_inSteps (List.pairwise_append.2 ⟨?_, hpair, fun a ha b hb => ?_⟩)
      fun b hb => ?_)
    · exact List.pairwise_of_forall_mem_list fun a ha b hb => by rw [hs a ha, hs b hb]
    · rw [hs a ha]
      exact (hsteps b hb).1
    · rcases List.mem_append.1 hb with hb | hb
      · rw [hs b hb]
        omega
      · exact (hsteps b hb).2

theorem State.EndedFrom.of_advance {h : HeatRecord} {s t : State} {m : Nat} (e : (s.advance m).EndedFrom h t) :
    s.EndedFrom h t :=
  ⟨e.race, e.record, e.marks, e.unarmed, e.wall, e.done, e.scanner, e.frozen, e.hold, e.board, e.store, e.part,
    e.archive⟩

theorem State.finishNotices_step {h : HeatRecord} {lane : Lane} {w : FinishWindow} {official : Nat}
    {cause : CloseCause} {s : State} {b : NoticeBody} (hb : b ∈ s.finishNotices h lane w official cause) :
    b.endStep = 2 := by
  unfold State.finishNotices placesNotices at hb
  rcases List.mem_cons.1 hb with rfl | hb
  · rfl
  · split at hb
    · cases hb
    · rw [List.mem_singleton.1 hb]
      rfl

/-- Settles O22. -/
theorem finalWindowFinishesTheLane : Obligations.FinalWindowFinishesTheLane := by
  refine ⟨fun s h lane other w start official hr hrace hcur hstart hw hn hq hd hne hin hst => ?_,
    fun s h lane w start official hr hrace hcur hstart hin hw hn hq hd hnodup hlen hothers => ?_⟩
  · have he := State.finalClose_does hr hrace hcur hstart hw hn hq hd
    generalize hu : s.advance (start + w.closesAt) = u at he
    have hgoes : (((u.finishes h lane w official).tell (u.finishNotices h lane w official .window)).endIfDone h) =
        (u.finishes h lane w official).tell (u.finishNotices h lane w official .window) := by
      refine State.endIfDone_racing hin ?_
      rw [State.tell_lanes, State.finishes_lane, if_neg hne, ← hu]
      exact hst
    rw [hgoes] at he
    have hv := u.finishes_eq h lane w official
    have hlane := u.finishes_lane h lane w official
    have hplaced := fun hp : (s.lanes[lane]).place = none =>
      State.finishNotices_unplaced (h := h) (lane := lane) (w := w) (official := official) (cause := .window) (s := u)
        (by rw [← hu]; exact hp)
    have hcount := State.finishNotices_length h lane w official .window u
    generalize u.finishes h lane w official = v at *
    have e := State.tell_settles (u.finishNotices h lane w official .window) v
    generalize (v.tell _).settle = t at he e
    obtain ⟨ht, ⟨hmode, htest, hover, hhold, hfrozen⟩, hlink⟩ := e.ends
    have hlanes : t.lanes = v.lanes := by
      have := congrArg State.lanes ht
      exact this
    have hplacing : t.placing = { s.placing with order := s.orderWith lane official } := by
      rw [ht, hv, ← hu]
      rfl
    have hfinish : (u.finishNotice h lane w .window).withReasons v.lanes = .finish lane (s.lanes[lane]).label
        (closedRecord h h.lengths w (s.deriveWindow h lane w)) (if h.relay then 4 else 1)
        (t.lanes[lane]).reasons .window := by
      rw [hlanes, ← hu]
      rfl
    have htells := e.tells (by omega) (u.finishNotice h lane w .window) List.mem_cons_self
    rw [hfinish] at htells
    refine ⟨t, he, ?_, fun l => ?_, ?_, ?_, ?_, ?_, ?_, ?_, htells, fun hp => ?_⟩
    · rw [hlanes]
      refine ht.trans ?_
      rw [hv, ← hu]
      rfl
    · rw [hplacing, hlanes, hlane, ← hu]
      rfl
    · have hclock : t.clock = u.clock := by rw [ht, hv]
      have hboard : v.board.hold = if u.board.hold = .none ∧ u.heat.race = .running then .holding (u.clock + 50000)
          else u.board.hold := by rw [hv]
      rw [hhold, hboard, hclock, ← hu]
      exact if_congr (and_iff_left hrace) rfl rfl
    · rw [hmode, hv, ← hu]; rfl
    · rw [htest, hv, ← hu]; rfl
    · rw [hover, hv, ← hu]; rfl
    · rw [hfrozen, hv, ← hu]; rfl
    · have : v.link = s.link := by rw [hv, ← hu]; rfl
      unfold State.linkKept at hlink ⊢
      rwa [this] at hlink
    · have := e.suffix [] _ (hplaced hp) (by simp)
      rw [List.map_cons, hfinish] at this
      rw [State.placesTold_eq (after := v.lanes) fun l => by rw [hlanes]; exact ⟨rfl, rfl⟩, hplacing]
      rw [← hu] at this
      exact this
  · have he := State.finalClose_does hr hrace hcur hstart hw hn hq hd
    generalize hu : s.advance (start + w.closesAt) = u at he
    have hone : oneEachLeg (s.lanes[lane]).exchanges := fun _ => ⟨hnodup, hlen⟩
    have hlane : (u.finishes h lane w official).lanes[lane] =
        { s.finishedLane h lane w official with place := placeIn (s.orderWith lane official) lane } := by
      rw [State.finishes_lane, if_pos rfl, ← hu]
      rfl
    have hother : ∀ l : Lane, l ≠ lane → (u.finishes h lane w official).lanes[l] =
        { s.lanes[l] with place := placeIn (s.orderWith lane official) l } := fun l hl => by
      rw [State.finishes_lane, if_neg hl, ← hu]
      rfl
    have hv := u.finishes_eq h lane w official
    have hplaced := fun hp : (s.lanes[lane]).place = none =>
      State.finishNotices_unplaced (h := h) (lane := lane) (w := w) (official := official) (cause := .window) (s := u)
        (by rw [← hu]; exact hp)
    have hcount := State.finishNotices_length h lane w official .window u
    generalize hnotices : u.finishNotices h lane w official .window = finishing at *
    generalize u.finishes h lane w official = v at *
    have hdone : ∀ l : Lane, l ≠ lane → v.laneDone l := fun l hl => by
      unfold State.laneDone
      rw [hother l hl]
      exact hothers l hl
    have hst : ∀ l : Lane, ((v.tell finishing).lanes[l]).status ≠ .racing := fun l => by
      rw [State.tell_lanes]
      by_cases hl : l = lane
      · rw [hl, hlane]
        exact fun hc => by cases hc
      · exact (hdone l hl).1
    have hwindow : (v.lanes[lane]).window = none := by rw [hlane]; rfl
    have hexchanges : (v.lanes[lane]).exchanges = (s.lanes[lane]).exchanges := by rw [hlane]; rfl
    have hlink : v.link = s.link := by
      rw [hv, ← hu]
      rfl
    have hlanesOnly : u.LanesOnly v := by
      rw [State.LanesOnly, hv]
    have hcurrent : (v.tell finishing).heat.current = some h := by
      show v.heat.current = some h
      rw [hv, ← hu]
      exact hcur
    rw [State.endIfDone_done hst] at he
    have hends := State.settle_eventEnds (State.endHeat_endedFor hcurrent (cause := .allLanesDone) (by decide) u)
    have e := State.endedLast (h := h) (before := finishing) (s := u) (v := v) (lane := lane)
      (by rw [← hu]; exact hcur) hlanesOnly (by rw [hlink, ← hu]; rfl)
      (fun l hl => by rw [← hu]; exact (hothers l hl).1) hdone hwindow
      (.inl (by rw [hlane]; rfl)) (by rw [hexchanges]; exact hone) hends
    generalize ((v.tell finishing).endHeat h .allLanesDone).settle = t at he e
    have hrecord : t.lanes[lane] = { settledLane (s.finishedLane h lane w official) with
        place := placeIn (s.orderWith lane official) lane } := by
      rw [e.record, hlane]
      rfl
    have hplacing : t.placing = { s.placing with order := s.orderWith lane official } := by
      rw [e.placing, hv, ← hu]
      rfl
    have hfinish : (u.finishNotice h lane w .window).withReasons t.lanes = .finish lane (s.lanes[lane]).label
        (closedRecord h h.lengths w (s.deriveWindow h lane w)) (if h.relay then 4 else 1)
        (t.lanes[lane]).reasons .window := by
      rw [← hu]
      rfl
    have hmember : u.finishNotice h lane w .window ∈ finishing := by
      rw [← hnotices]
      exact List.mem_cons_self
    have htells := e.tells (by omega) (u.finishNotice h lane w .window) (List.mem_append_left _ hmember)
    rw [hfinish] at htells
    have hboard : v.board.hold = if u.board.hold = .none ∧ u.heat.race = .running then .holding (u.clock + 50000)
        else u.board.hold := by rw [hv]
    have hrunning : u.heat.race = .running := by rw [← hu]; exact hrace
    refine ⟨t, he, ?_, ?_, hplacing, ?_, fun x hm hp hno => ?_, fun l hl => ?_, ?_, ?_, ?_, ?_, htells, ?_,
      fun hp => ?_, ?_⟩
    · rw [e.clock, ← hu]
      rfl
    · exact State.EndedFrom.of_advance (by rw [hu]; exact e.ended)
    · rw [hplacing]
      exact hrecord
    · have := e.tells (by omega) (.exchange lane { x with verdict := .unjudged } .heatEnd
        { (v.lanes[lane]).reasons with unjudgedExchange := true })
        (List.mem_append_right _ (mem_settledNotices (by rw [hexchanges]; exact hm) hp hno))
      exact this
    · rw [e.others l hl, hother l hl, hplacing]
    · rw [e.flags, ← hu]
      rfl
    · rw [e.hold, hboard, hrunning]
      cases hhold : u.board.hold <;> simp
    · have := e.returns
      rw [← hu] at this
      exact this
    · have := e.link
      rw [← hu] at this
      exact this
    · have := e.tellsEnd
      rw [← hu] at this
      exact this
    · have hlist := e.told (by omega)
      rw [hplaced hp, List.map_cons, hfinish] at hlist
      rw [State.placesTold_eq (after := v.lanes) fun l => ?_, hplacing]
      · rw [← hu] at hlist
        exact hlist
      · by_cases hl : l = lane
        · rw [hl, e.record]
          exact ⟨rfl, rfl⟩
        · rw [e.others l hl]
          exact ⟨rfl, rfl⟩
    · have := e.steps (fun b hb => ?_)
      · rw [← hu] at this
        exact this
      · rw [← hnotices] at hb
        exact State.finishNotices_step hb

end Sys2Proof.Machine

/-!
PROOFS. CLOSE_LANE: the lane closed, its window discarded, and the end of the heat behind the last.
-/

namespace Sys2Proof.Machine

/-- A lane closed, its window discarded (R92). -/
def discardedLane (r : LaneRecord) : LaneRecord := { r with status := .closed, window := none }

/-- The notices of a lane that is closed: its reaction, and its exchanges settled. -/
def State.closingNotices (h : HeatRecord) (lane : Lane) (s : State) : List NoticeBody :=
  s.absenceNotices lane s.lanes[lane] ++ settledNotices h lane .laneClosed (arrivedLane (discardedLane s.lanes[lane]))
    (s.lanes[lane]).exchanges

theorem State.closingNotices_length {h : HeatRecord} {lane : Lane} {s : State}
    (hone : oneEachLeg (s.lanes[lane]).exchanges) : (s.closingNotices h lane).length ≤ 4 := by
  have h1 := s.absenceNotices_length lane s.lanes[lane]
  have h2 := settledNotices_length (h := h) (lane := lane) (cause := .laneClosed)
    (r := arrivedLane (discardedLane s.lanes[lane])) hone
  unfold State.closingNotices
  rw [List.length_append]
  omega

/-- What CLOSE_LANE makes of the lane. -/
theorem State.closeLane_eq {h : HeatRecord} {lane : Lane} {s : State}
    (hone : oneEachLeg (s.lanes[lane]).exchanges) :
    ((s.updLane lane fun r => { r with status := .closed, window := none }).notOnPlatform lane).settlePending
      h lane .laneClosed =
      (s.putLane lane (settledLane (arrivedLane (discardedLane s.lanes[lane])))).tell (s.closingNotices h lane) := by
  have hself := State.putLane_self lane (discardedLane s.lanes[lane]) s
  have harrived := State.putLane_self lane (arrivedLane (discardedLane s.lanes[lane])) s
  rw [State.updLane_eq]
  show State.settlePending h lane .laneClosed ((s.putLane lane (discardedLane s.lanes[lane])).notOnPlatform lane) = _
  rw [State.notOnPlatform_eq, hself, State.putLane_putLane, State.settlePending_eq (s := State.tell _ _) .laneClosed
    (by rw [State.tell_lanes, harrived, arrivedLane_exchanges]; exact hone), State.tell_lanes, harrived,
    State.putLane_tell, State.putLane_putLane, State.tell_tell, arrivedLane_exchanges]
  rfl

/-- CLOSE_LANE of a RACING lane. -/
theorem State.closeLane_handles {h : HeatRecord} {tag b : Byte} {lane : Lane} {s : State}
    (hrace : s.heat.race = .running) (hcur : s.heat.current = some h) (hb : b.toNat = lane.val)
    (hst : (s.lanes[lane]).status = .racing) (hone : oneEachLeg (s.lanes[lane]).exchanges) :
    s.handle ⟨.closeLane, tag, [b]⟩ =
      ((((s.putLane lane (settledLane (arrivedLane (discardedLane s.lanes[lane])))).tell
        (s.closingNotices h lane)).endIfDone h).accept (.laneClosed lane .closed)) := by
  have hlane : laneOf b.toNat = lane := by
    rw [hb]
    exact Fin.ext (Nat.mod_eq_of_lt lane.isLt)
  have hbound : ¬9 < b.toNat := by
    have := lane.isLt
    omega
  subst hlane
  show s.handleCloseLane [b] = _
  unfold State.handleCloseLane
  dsimp only
  rw [if_neg hbound, if_neg (not_not_intro hrace), hcur]
  dsimp only
  rw [if_neg (not_not_intro hst), State.closeLane_eq hone]

/-- Of a lane that is settled nothing is PENDING. -/
theorem settledLane_settles (r : LaneRecord) : ¬∃ e ∈ (settledLane r).exchanges, e.verdict = .pending := by
  rintro ⟨e, he, hv⟩
  obtain ⟨x, -, rfl⟩ := List.mem_map.1 he
  split at hv
  · cases hv
  · next hx => exact hx hv

/-- Settles O43. -/
theorem closeLaneDiscardsTheWindow : Obligations.CloseLaneDiscardsTheWindow := by
  refine ⟨fun s h m tag b lane other hr hl hq hrace hcur hb hst hlegs hne hin hother => ?_,
    fun s h m tag b lane hr hl hq hrace hcur hb hst hlegs hdone => ?_⟩
  · have hh := State.closeLane_handles (h := h) (tag := tag) (s := s.advance m) hrace hcur hb hst hlegs.1
    rw [State.endIfDone_racing (lane := other) hin (by rw [State.tell_lanes, State.putLane_ne hne]; exact hother)] at hh
    obtain ⟨t, ht, e, ha⟩ := State.request_tells (c := .closeLane m tag [b]) rfl hr hl hq hh (State.Emits.tell _ _) rfl
    have l := e.laneEnds
    have hlen := ((s.advance m).closingNotices_length (h := h) (lane := lane) hlegs.1).trans (by omega : 4 ≤ 64)
    refine ⟨t, ht, l.eq, l.record, ?_, ?_, l.others, l.board, l.link, ha⟩
    · exact l.tellsAbsence hlen rfl rfl fun x hx => List.mem_append_left _ hx
    · exact l.tellsSettled hlen fun x hx => List.mem_append_right _ hx
  · have hh := State.closeLane_handles (h := h) (tag := tag) (s := s.advance m) hrace hcur hb hst hlegs.1
    have hrecord := State.putLane_self lane (settledLane (arrivedLane (discardedLane s.lanes[lane]))) (s.advance m)
    have hothers : ∀ l : Lane, l ≠ lane → ((s.advance m).putLane lane
        (settledLane (arrivedLane (discardedLane s.lanes[lane])))).lanes[l] = s.lanes[l] := fun l hl =>
      State.putLane_ne hl _ _
    have hclosed : (settledLane (arrivedLane (discardedLane s.lanes[lane]))).status = .closed := by
      unfold settledLane arrivedLane
      split <;> rfl
    have hwindow : (settledLane (arrivedLane (discardedLane s.lanes[lane]))).window = none := by
      unfold settledLane arrivedLane
      split <;> rfl
    have hsettled : ¬∃ e ∈ (settledLane (arrivedLane (discardedLane s.lanes[lane]))).exchanges,
        e.verdict = .pending := settledLane_settles _
    have hone : oneEachLeg (settledLane (arrivedLane (discardedLane s.lanes[lane]))).exchanges :=
      fun hp => absurd hp hsettled
    have hbodies := (s.advance m).closingNotices_length (h := h) (lane := lane) hlegs.1
    have hst' : ∀ l : Lane, ((((s.advance m).putLane lane (settledLane (arrivedLane (discardedLane
        s.lanes[lane])))).tell ((s.advance m).closingNotices h lane)).lanes[l]).status ≠ .racing := fun l => by
      rw [State.tell_lanes]
      by_cases hl : l = lane
      · rw [hl, hrecord, hclosed]
        simp
      · rw [hothers l hl]
        exact (hdone l hl).1
    rw [show (s.advance m).lanes = s.lanes from rfl, State.endIfDone_done hst'] at hh
    obtain ⟨t, ht, hends, ha⟩ := State.request_eventEnds (c := .closeLane m tag [b]) rfl hr hl hq hh
      (State.endHeat_endedFor (cause := .allLanesDone) (by exact hcur) (by decide) (s.advance m))
    have e := State.endedLast (h := h) (s := s.advance m) (lane := lane) (by exact hcur) (by exact rfl) (by exact rfl)
      (fun l hl => (hdone l hl).1) (fun l hl => by
        unfold State.laneDone
        rw [hothers l hl]
        exact hdone l hl) (by rw [hrecord]; exact hwindow) (.inr (by rw [hrecord]; exact hclosed))
      (by rw [hrecord]; exact hone) hends
    have hlane : t.lanes[lane] = settledLane (arrivedLane (discardedLane s.lanes[lane])) := by
      rw [e.record, hrecord]
      exact settledLane_none hsettled
    refine ⟨t, ht, e.clock, e.ended.of_advance, hlane, fun h0 => ?_, fun x hm hp hno => ?_, fun l hl => ?_, e.placing,
      e.flags, e.returns, e.link, ha, e.tellsEnd⟩
    · refine e.tells (by omega) (.reaction [⟨lane, .absent .notOnPlatform, (s.scanner.channels[lane]).startLoad,
        (s.lanes[lane]).reasons⟩]) (List.mem_append_left _ (List.mem_append_left _ ?_))
      unfold State.absenceNotices
      rw [if_pos (by exact h0)]
      exact List.mem_singleton_self _
    · exact e.tells (by omega) (.exchange lane { x with verdict := .unjudged } .laneClosed
        { (arrivedLane (discardedLane s.lanes[lane])).reasons with unjudgedExchange := true })
        (List.mem_append_left _ (List.mem_append_right _ (mem_settledNotices hm hp hno)))
    · rw [e.others l hl, hothers l hl]

end Sys2Proof.Machine

/-!
PROOFS. The end of a heat lane by lane: what each step of R46 makes of its lane, and what it leaves of the others.
-/

namespace Sys2Proof.Machine

/-! ### One lane's operation, and the others (R46) -/

/-- Every place is the one of the place order (R138). -/
def State.placesFollow (s : State) : Prop := ∀ l : Lane, (s.lanes[l]).place = placeIn s.placing.order l

/-- Of every lane there is one exchange a leg, when one is PENDING. -/
def State.legsAlone (s : State) : Prop := ∀ l : Lane, oneEachLeg (s.lanes[l]).exchanges

/-- Between `s` and `u` a lane's record has kept everything but its place, and at most `n` notices have been
made. -/
structure State.KeepsLane (lane : Lane) (n : Nat) (s u : State) : Prop where
  frame : s.LanesOnly u
  record : ∃ p, u.lanes[lane] = { s.lanes[lane] with place := p }
  makes : State.Says [] n s u
  follow : s.placesFollow → u.placesFollow
  unplaced : (∀ k, (lane, k) ∉ s.placing.order) → ∀ k, (lane, k) ∉ u.placing.order

/-- Between `s` and `u` something has been done about one lane, and at most `n` notices have been made. -/
structure State.Touches (lane : Lane) (n : Nat) (s u : State) : Prop where
  others : ∀ l : Lane, l ≠ lane → State.KeepsLane l n s u
  alone : oneEachLeg (s.lanes[lane]).exchanges → oneEachLeg (u.lanes[lane]).exchanges

theorem State.KeepsLane.refl (lane : Lane) (s : State) : State.KeepsLane lane 0 s s :=
  ⟨.refl s, ⟨_, rfl⟩, .nothing rfl rfl, id, id⟩

theorem State.KeepsLane.trans {lane : Lane} {n m : Nat} {s t u : State} (h : State.KeepsLane lane n s t)
    (h' : State.KeepsLane lane m t u) : State.KeepsLane lane (n + m) s u := by
  obtain ⟨p, hp⟩ := h.record
  obtain ⟨q, hq⟩ := h'.record
  exact ⟨h.frame.trans h'.frame, ⟨q, by rw [hq, hp]⟩, h.makes.trans h'.makes, h'.follow ∘ h.follow,
    h'.unplaced ∘ h.unplaced⟩

theorem State.KeepsLane.mono {lane : Lane} {n m : Nat} {s u : State} (h : State.KeepsLane lane n s u) (hnm : n ≤ m) :
    State.KeepsLane lane m s u :=
  ⟨h.frame, h.record, h.makes.mono hnm, h.follow, h.unplaced⟩

theorem State.KeepsLane.exchanges {lane : Lane} {n : Nat} {s u : State} (h : State.KeepsLane lane n s u) :
    (u.lanes[lane]).exchanges = (s.lanes[lane]).exchanges := by
  obtain ⟨p, hp⟩ := h.record
  rw [hp]

theorem State.Touches.refl (lane : Lane) (n : Nat) (s : State) : State.Touches lane n s s :=
  ⟨fun l _ => (State.KeepsLane.refl l s).mono (Nat.zero_le n), id⟩

theorem State.Touches.trans {lane : Lane} {n m : Nat} {s t u : State} (h : State.Touches lane n s t)
    (h' : State.Touches lane m t u) : State.Touches lane (n + m) s u :=
  ⟨fun l hl => (h.others l hl).trans (h'.others l hl), h'.alone ∘ h.alone⟩

theorem State.Touches.mono {lane : Lane} {n m : Nat} {s u : State} (h : State.Touches lane n s u) (hnm : n ≤ m) :
    State.Touches lane m s u :=
  ⟨fun l hl => (h.others l hl).mono hnm, h.alone⟩

/-- A change of a lane's record but its place, with notices. -/
theorem State.Touches.put {lane : Lane} {r : LaneRecord} (bodies : List NoticeBody) {s : State}
    (hplace : r.place = (s.lanes[lane]).place)
    (halone : oneEachLeg (s.lanes[lane]).exchanges → oneEachLeg r.exchanges) :
    State.Touches lane bodies.length s ((s.putLane lane r).tell bodies) := by
  refine ⟨fun l hl => ⟨rfl, ⟨(s.lanes[l]).place, ?_⟩, ?_, fun hf => ?_, id⟩, fun h => ?_⟩
  · rw [State.tell_lanes, State.putLane_ne hl]
  · obtain ⟨bs, -, hb, em⟩ := State.Says.tell bodies (v := s.putLane lane r) (s := s) rfl rfl
    exact ⟨bs, List.nil_sublist _, hb, em⟩
  · intro q
    rw [State.tell_lanes]
    by_cases hq : q = lane
    · rw [hq, State.putLane_self, hplace]
      exact hf lane
    · rw [State.putLane_ne hq]
      exact hf q
  · rw [State.tell_lanes, State.putLane_self]
    exact halone h

/-- A change of a lane's record but its place. -/
theorem State.Touches.putLane {lane : Lane} {r : LaneRecord} {s : State} (hplace : r.place = (s.lanes[lane]).place)
    (halone : oneEachLeg (s.lanes[lane]).exchanges → oneEachLeg r.exchanges) :
    State.Touches lane 0 s (s.putLane lane r) :=
  State.Touches.put [] hplace halone

theorem State.Touches.legsAlone {lane : Lane} {n : Nat} {s u : State} (h : State.Touches lane n s u)
    (hs : s.legsAlone) : u.legsAlone := fun l => by
  by_cases hl : l = lane
  · rw [hl]
    exact h.alone (hs lane)
  · rw [(h.others l hl).exchanges]
    exact hs l

/-! ### What each operation does about its lane -/

theorem oneEachLeg_putExchange {record : ExchangeRecord} {l : List ExchangeRecord}
    (hv : record.verdict = .pending → ∃ e ∈ l, e.verdict = .pending) (hl : oneEachLeg l) :
    oneEachLeg (putExchange record l) := by
  rintro ⟨x, hx, hp⟩
  obtain ⟨e, he, rfl⟩ := List.mem_map.1 hx
  have hold : ∃ e ∈ l, e.verdict = .pending := by
    split at hp
    · exact hv hp
    · exact ⟨e, he, hp⟩
  obtain ⟨hn, hc⟩ := hl hold
  have hlegs : (putExchange record l).map (·.leg) = l.map (·.leg) := by
    unfold putExchange
    rw [List.map_map]
    refine List.map_congr_left fun e _ => ?_
    by_cases h : e.leg = record.leg
    · exact (congrArg ExchangeRecord.leg (if_pos h)).trans h.symm
    · exact congrArg ExchangeRecord.leg (if_neg h)
  refine ⟨by rw [hlegs]; exact hn, ?_⟩
  unfold putExchange
  rw [List.length_map]
  exact hc

theorem verdictNotices_length (h : HeatRecord) (lane : Lane) (record : ExchangeRecord) (cause : SettleCause)
    (r : LaneRecord) : (verdictNotices h lane record cause r).length ≤ 1 := by
  unfold verdictNotices
  split <;> simp

theorem State.giveVerdict_touches {h : HeatRecord} {lane : Lane} {record : ExchangeRecord} {cause : SettleCause}
    {s : State} (hv : record.verdict = .pending → ∃ e ∈ (s.lanes[lane]).exchanges, e.verdict = .pending) :
    State.Touches lane 1 s (s.giveVerdict h lane record cause) := by
  rw [State.giveVerdict_eq]
  refine (State.Touches.put (r := verdictLane record s.lanes[lane]) _ rfl ?_).mono (verdictNotices_length ..)
  exact oneEachLeg_putExchange hv

theorem exchangeOf_mem {leg : Nat} {r : LaneRecord} {e : ExchangeRecord} (h : exchangeOf leg r = some e) :
    e ∈ r.exchanges := List.mem_of_find?_eq_some h

theorem State.evaluateExchange_touches (h : HeatRecord) (lane : Lane) (leg : Nat) (cause : SettleCause) (s : State) :
    State.Touches lane 1 s (s.evaluateExchange h lane leg cause) := by
  unfold State.evaluateExchange
  split
  · exact .refl lane 1 s
  · next record hr =>
    split
    · next hc => exact State.giveVerdict_touches fun _ => ⟨record, exchangeOf_mem hr, hc.1⟩
    · exact .refl lane 1 s

theorem State.legEndClosed_touches (h : HeatRecord) (lane : Lane) (leg : Nat) (source : OfficialSource)
    (padTime : Option Nat) (cause : SettleCause) (s : State) :
    State.Touches lane 1 s (s.legEndClosed h lane leg source padTime cause) := by
  unfold State.legEndClosed
  split
  · exact .refl lane 1 s
  · next record hr =>
    dsimp only
    rw [State.updLane_eq]
    refine (State.Touches.trans (n := 0) ?_ (State.evaluateExchange_touches ..)).mono (by omega)
    refine State.Touches.putLane ?_ ?_
    · rfl
    · exact oneEachLeg_putExchange fun hp => ⟨record, exchangeOf_mem hr, hp⟩

theorem State.closeLegEnd_touches (h : HeatRecord) (lane : Lane) (w : FinishWindow) (s : State) :
    State.Touches lane 2 s (s.closeLegEnd h lane w) := by
  unfold State.closeLegEnd State.sendSplit
  dsimp only
  rw [State.updLane_eq, State.notify_eq_tell]
  refine State.Touches.trans (n := 1) (m := 1) ?_ (State.legEndClosed_touches ..)
  refine State.Touches.put [_] ?_ ?_
  · rfl
  · exact id

theorem mem_removeOrder_ne {l lane : Lane} {k : Nat} {order : List (Lane × Nat)}
    (h : (l, k) ∈ removeOrder lane order) : (l, k) ∈ order := (List.mem_filter.1 h).1

theorem State.finishes_touches (h : HeatRecord) (lane : Lane) (w : FinishWindow) (official : Nat) (cause : CloseCause)
    (s : State) : State.Touches lane 2 s
      ((s.finishes h lane w official).tell (s.finishNotices h lane w official cause)) := by
  have hv := s.finishes_eq h lane w official
  have hlane := s.finishes_lane h lane w official
  refine ⟨fun l hl => ⟨?_, ⟨placeIn (s.orderWith lane official) l, ?_⟩, ?_, fun _ => ?_, fun hn k hk => ?_⟩,
    fun hone => ?_⟩
  · refine .trans ?_ (.tell _ _)
    rw [State.LanesOnly, hv]
  · rw [State.tell_lanes, hlane, if_neg hl]
  · refine ⟨_, List.nil_sublist _, s.finishNotices_length .., (State.Emits.tell _ _).behind ?_ ?_⟩
    · rw [hv]
    · rw [hv]
  · intro q
    rw [State.tell_lanes, hlane, hv]
    rfl
  · have hk : (l, k) ∈ s.orderWith lane official := by
      have : (State.finishes h lane w official s).placing.order = s.orderWith lane official := by rw [hv]
      rw [← this]
      exact hk
    rcases mem_insertOrder.1 hk with he | hm
    · exact hl (congrArg Prod.fst he)
    · exact hn k (mem_removeOrder_ne hm)
  · rw [State.tell_lanes, hlane, if_pos rfl]
    exact hone

theorem State.closeFinal_touches {h : HeatRecord} {lane : Lane} {w : FinishWindow} {cause : CloseCause} {s : State}
    (hn : (s.lanes[lane]).expected = h.lengths) : State.Touches lane 2 s (s.closeFinal h lane w cause) := by
  cases hd : (s.deriveWindow h lane w).official with
  | some official =>
    rw [State.closeFinal_eq cause hd hn]
    exact s.finishes_touches ..
  | none =>
    unfold State.closeFinal
    dsimp only
    rw [hd]
    dsimp only
    rw [State.updLane_eq]
    refine (State.Touches.putLane ?_ ?_).mono (Nat.zero_le 2)
    · rfl
    · exact id

theorem lengthKind_final_iff {h : HeatRecord} {n : Nat} : lengthKind h n = .final ↔ n = h.lengths := by
  unfold lengthKind
  constructor
  · intro hk
    by_contra hn
    rw [if_neg hn] at hk
    split at hk <;> cases hk
  · intro hn
    exact if_pos hn

theorem State.closeOpen_touches (h : HeatRecord) (lane : Lane) (s : State) :
    State.Touches lane 2 s (State.closeOpen h lane s) := by
  unfold State.closeOpen State.closeWindow
  split
  · dsimp only
    split
    · exact .refl lane 2 s
    · split
      · exact .refl lane 2 s
      · exact s.closeLegEnd_touches ..
      · next hk => exact State.closeFinal_touches (lengthKind_final_iff.1 hk)
  · exact .refl lane 2 s

/-- A lane closed at the end of the heat. -/
theorem State.closeRacing_eq {h : HeatRecord} {lane : Lane} {s : State} (hin : h.enters lane = true)
    (hst : (s.lanes[lane]).status = .racing) : State.closeRacing h lane s =
      (s.putLane lane (arrivedLane { s.lanes[lane] with status := .closed })).tell
        (s.absenceNotices lane s.lanes[lane]) := by
  unfold State.closeRacing
  rw [if_pos ⟨hin, hst⟩, State.updLane_eq, State.notOnPlatform_eq, State.putLane_self, State.putLane_putLane]
  rfl

theorem arrivedLane_place (r : LaneRecord) : (arrivedLane r).place = r.place := by
  unfold arrivedLane
  split <;> rfl

theorem State.closeRacing_touches (h : HeatRecord) (lane : Lane) (s : State) :
    State.Touches lane 1 s (State.closeRacing h lane s) := by
  by_cases hc : h.enters lane = true ∧ (s.lanes[lane]).status = .racing
  · rw [State.closeRacing_eq hc.1 hc.2]
    refine (State.Touches.put _ ?_ ?_).mono (s.absenceNotices_length lane _)
    · exact arrivedLane_place _
    · rw [arrivedLane_exchanges]
      exact id
  · unfold State.closeRacing
    rw [if_neg hc]
    exact .refl lane 1 s

theorem State.settlePending_touches {h : HeatRecord} {lane : Lane} {cause : SettleCause} {s : State}
    (hone : oneEachLeg (s.lanes[lane]).exchanges) : State.Touches lane 3 s (s.settlePending h lane cause) := by
  rw [State.settlePending_eq cause hone]
  refine (State.Touches.put (r := settledLane s.lanes[lane]) _ rfl ?_).mono (settledNotices_length hone)
  exact fun _ hp => absurd hp (settledLane_settles _)

/-! ### One lane among all -/

section

variable {f : Lane → State → State} {n : Nat}
  (hf : ∀ l v, State.legsAlone v → State.Touches l n v (f l v))
include hf

/-- What is done about other lanes. -/
theorem State.foldl_keepsLane {lane : Lane} (l : List Lane) (hl : lane ∉ l) {s : State} (hs : s.legsAlone) :
    State.KeepsLane lane (n * l.length) s (l.foldl (fun s a => f a s) s) ∧
      (l.foldl (fun s a => f a s) s).legsAlone := by
  induction l generalizing s with
  | nil => exact ⟨.refl lane s, hs⟩
  | cons a rest ih =>
    rw [List.mem_cons, not_or] at hl
    obtain ⟨hk, ha⟩ := ih hl.2 ((hf a s hs).legsAlone hs)
    refine ⟨(((hf a s hs).others lane hl.1).trans hk).mono ?_, ha⟩
    rw [List.length_cons, Nat.mul_succ]
    omega

/-- What is done about all lanes in turn, as one of them sees it. -/
theorem State.eachLane_keepsLane (lane : Lane) {s : State} (hs : s.legsAlone) : ∃ a i j, i + j = 9 * n ∧ a.legsAlone ∧
    State.KeepsLane lane i s a ∧ State.KeepsLane lane j (f lane a) (s.eachLane f) ∧ (s.eachLane f).legsAlone := by
  obtain ⟨before, after, hsplit, hb, ha⟩ := allLanes_split lane
  have hlen : before.length + after.length = 9 := by
    have : (before ++ lane :: after).length = 10 := by rw [← hsplit]; rfl
    rw [List.length_append, List.length_cons] at this
    omega
  obtain ⟨hk, hs'⟩ := State.foldl_keepsLane hf before hb hs
  generalize hm : before.foldl (fun s a => f a s) s = a at hk hs'
  obtain ⟨hk', hend⟩ := State.foldl_keepsLane hf after ha ((hf lane a hs').legsAlone hs')
  have heq : s.eachLane f = after.foldl (fun s a => f a s) (f lane a) := by
    unfold State.eachLane
    rw [hsplit, List.foldl_append, List.foldl_cons, hm]
  rw [heq]
  refine ⟨a, n * before.length, n * after.length, ?_, hs', hk, hk', hend⟩
  rw [← Nat.mul_add, hlen, Nat.mul_comm]

end

theorem State.disarmPads_makes (s : State) : State.Says [] 0 s s.disarmPads := .nothing rfl rfl

/-- The end of a heat up to its exchanges, as one lane sees it. -/
theorem State.lanesSettled_lane {h : HeatRecord} {s : State} (hs : s.legsAlone) (lane : Lane) :
    ∃ a c e i j k l, i + j + k + l ≤ 54 ∧ State.KeepsLane lane i s.disarmPads a ∧
      State.KeepsLane lane j (State.closeOpen h lane a) c ∧ State.KeepsLane lane k (State.closeRacing h lane c) e ∧
      oneEachLeg (e.lanes[lane]).exchanges ∧
      State.KeepsLane lane l (e.settlePending h lane .heatEnd) (s.lanesSettled h) := by
  obtain ⟨a, i, j, hij, -, h1, h2, hs2⟩ :=
    State.eachLane_keepsLane (fun l v _ => State.closeOpen_touches h l v) lane (s := s.disarmPads) hs
  obtain ⟨c, j', k, hjk, -, h3, h4, hs4⟩ :=
    State.eachLane_keepsLane (fun l v _ => State.closeRacing_touches h l v) lane hs2
  obtain ⟨e, k', l, hkl, he, h5, h6, -⟩ :=
    State.eachLane_keepsLane (f := fun lane s => s.settlePending h lane .heatEnd)
      (fun l v hv => State.settlePending_touches (hv l)) lane hs4
  exact ⟨a, c, e, i, j + j', k + k', l, by omega, h1, h2.trans h3, h4.trans h5, he lane, h6⟩

/-! ### What the steps make of a lane -/

/-- A lane's record with its race ended: CLOSED when it was still RACING (R46). -/
def closedLane (h : HeatRecord) (lane : Lane) (r : LaneRecord) : LaneRecord :=
  if h.enters lane = true ∧ r.status = .racing then arrivedLane { r with status := .closed } else r

/-- The notices of a lane behind the derivation of its window. -/
def State.closedNotices (h : HeatRecord) (lane : Lane) (r : LaneRecord) (s : State) : List NoticeBody :=
  (if h.enters lane = true ∧ r.status = .racing then s.absenceNotices lane r else []) ++
    settledNotices h lane .heatEnd (closedLane h lane r) r.exchanges

theorem closedLane_exchanges (h : HeatRecord) (lane : Lane) (r : LaneRecord) :
    (closedLane h lane r).exchanges = r.exchanges := by
  unfold closedLane
  split
  · rw [arrivedLane_exchanges]
  · rfl

theorem closedLane_place (h : HeatRecord) (lane : Lane) (r : LaneRecord) (p : Option Nat) :
    closedLane h lane { r with place := p } = { closedLane h lane r with place := p } := by
  unfold closedLane arrivedLane
  dsimp only
  split
  · split <;> rfl
  · rfl

theorem State.KeepsLane.scanner {lane : Lane} {n : Nat} {s u : State} (h : State.KeepsLane lane n s u) :
    u.scanner = s.scanner := by
  rw [h.frame]

theorem State.closeRacing_does {h : HeatRecord} {lane : Lane} {c : State} :
    State.closeRacing h lane c = (c.putLane lane (closedLane h lane c.lanes[lane])).tell
      (if h.enters lane = true ∧ (c.lanes[lane]).status = .racing then c.absenceNotices lane c.lanes[lane]
        else []) := by
  unfold closedLane
  by_cases hc : h.enters lane = true ∧ (c.lanes[lane]).status = .racing
  · rw [if_pos hc, if_pos hc]
    exact State.closeRacing_eq hc.1 hc.2
  · rw [if_neg hc, if_neg hc, State.putLane_same]
    unfold State.closeRacing
    exact if_neg hc

theorem State.Says.put (bodies : List NoticeBody) (lane : Lane) (r : LaneRecord) (s : State) :
    State.Says bodies bodies.length s ((s.putLane lane r).tell bodies) := State.Says.tell bodies rfl rfl

/-- What the end of a heat makes of a lane, from what the derivation of its window makes of it. -/
theorem State.lanesSettled_record {h : HeatRecord} {lane : Lane} {s : State} (hs : s.legsAlone) {r : LaneRecord}
    {said : List NoticeBody → Prop}
    (hwindow : ∀ a n, State.KeepsLane lane n s.disarmPads a →
      (∃ p, (State.closeOpen h lane a).lanes[lane] = { r with place := p }) ∧
        ∃ bodies, said bodies ∧ State.Says bodies 2 a (State.closeOpen h lane a)) :
    (∃ p, (s.lanesSettled h).lanes[lane] = { settledLane (closedLane h lane r) with place := p }) ∧
      ∃ bodies, said bodies ∧ State.Says (bodies ++ s.closedNotices h lane r) 60 s (s.lanesSettled h) := by
  obtain ⟨a, c, e, i, j, k, l, hcount, h1, h2, h3, hone, h4⟩ := State.lanesSettled_lane (h := h) hs lane
  obtain ⟨⟨p, hp⟩, bodies, hsaid, hsays⟩ := hwindow a i h1
  obtain ⟨q, hq⟩ := h2.record
  have hc : c.lanes[lane] = { r with place := q } := by rw [hq, hp]
  have hcscanner : c.scanner = s.scanner := by
    rw [h2.scanner, State.closeOpen_lanesOnly h lane a]
    exact h1.scanner
  obtain ⟨q', hq'⟩ := h3.record
  have he : e.lanes[lane] = { closedLane h lane r with place := q' } := by
    rw [hq', State.closeRacing_does, State.tell_lanes, State.putLane_self, hc, closedLane_place]
  obtain ⟨q'', hq''⟩ := h4.record
  have hsettle := State.settlePending_eq (h := h) (lane := lane) .heatEnd hone
  have hclose := State.closeRacing_does (h := h) (lane := lane) (c := c)
  have habsent : (if h.enters lane = true ∧ (c.lanes[lane]).status = .racing then
      c.absenceNotices lane c.lanes[lane] else []) =
      if h.enters lane = true ∧ r.status = .racing then s.absenceNotices lane r else [] := by
    unfold State.absenceNotices
    rw [hc, hcscanner]
  rw [habsent] at hclose
  have hexchanges : settledNotices h lane .heatEnd e.lanes[lane] (e.lanes[lane]).exchanges =
      settledNotices h lane .heatEnd (closedLane h lane r) r.exchanges := by
    rw [he]
    unfold settledNotices
    rw [closedLane_exchanges]
  rw [hexchanges] at hsettle
  refine ⟨⟨q'', ?_⟩, bodies, hsaid, ?_⟩
  · rw [hq'', hsettle, State.tell_lanes, State.putLane_self, he]
    rfl
  · have habs : (if h.enters lane = true ∧ r.status = .racing then s.absenceNotices lane r else []).length ≤ 1 := by
      split
      · exact s.absenceNotices_length lane r
      · exact Nat.zero_le 1
    have hset : (settledNotices h lane .heatEnd (closedLane h lane r) r.exchanges).length ≤ 3 := by
      rw [← hexchanges]
      exact settledNotices_length hone
    have h3' : State.Says _ _ c (State.closeRacing h lane c) := hclose ▸ State.Says.put _ lane _ c
    have h4' : State.Says _ _ e (e.settlePending h lane .heatEnd) := hsettle ▸ State.Says.put _ lane _ e
    have := ((((((s.disarmPads_makes).trans h1.makes).trans hsays).trans h2.makes).trans h3').trans
      (h3.makes.trans h4')).trans h4.makes
    simp only [List.nil_append, List.append_nil, List.append_assoc] at this
    exact this.mono (by omega)

/-! ### The place order (R138, R139) -/

/-- The place order with the lane's FINAL window derived. -/
def State.orderBehind (h : HeatRecord) (s : State) (order : List (Lane × Nat)) (lane : Lane) : List (Lane × Nat) :=
  match s.openFinal h lane with
  | some official => insertOrder (lane, official / 100) (removeOrder lane order)
  | none => order

theorem State.closeOpen_order (h : HeatRecord) (lane : Lane) (s : State) :
    (State.closeOpen h lane s).placing.order = s.orderBehind h s.placing.order lane := by
  have hlegEnd : ∀ w : FinishWindow, (s.closeLegEnd h lane w).placing = s.placing := fun w => by
    simp
  unfold State.orderBehind State.openFinal State.closeOpen State.closeWindow
  dsimp only
  by_cases hin : h.enters lane = true
  · rw [if_pos hin]
    cases hw : (s.lanes[lane]).window with
    | none => rfl
    | some w =>
      dsimp only
      cases hk : lengthKind h (s.lanes[lane]).expected with
      | turn =>
        rw [if_neg fun hc => by rw [lengthKind_final_iff.2 hc.2] at hk; cases hk]
      | legEnd =>
        rw [if_neg fun hc => by rw [lengthKind_final_iff.2 hc.2] at hk; cases hk]
        exact congrArg Placing.order (hlegEnd w)
      | final =>
        rw [if_pos ⟨hin, lengthKind_final_iff.1 hk⟩]
        cases hd : (s.deriveWindow h lane w).official with
        | some official =>
          rw [State.closeFinal_eq .heatEnd hd (lengthKind_final_iff.1 hk)]
          exact congrArg Placing.order (State.finishes_placing ..)
        | none =>
          unfold State.closeFinal
          dsimp only
          rw [hd]
          rfl
  · rw [if_neg hin]
    cases (s.lanes[lane]).window with
    | none => rfl
    | some w =>
      dsimp only
      rw [if_neg fun hc => hin hc.1]

theorem State.openFinal_congr {h : HeatRecord} {s v : State} {lane : Lane} (hstore : v.store = s.store)
    (hlane : ∃ p, v.lanes[lane] = { s.lanes[lane] with place := p }) : v.openFinal h lane = s.openFinal h lane := by
  obtain ⟨p, hp⟩ := hlane
  unfold State.openFinal State.deriveWindow State.deadWallA
  rw [hp, hstore]

theorem State.foldl_order {h : HeatRecord} {s : State} (l : List Lane) (hl : l.Nodup) {v : State}
    (hstore : v.store = s.store) (hlanes : ∀ a ∈ l, ∃ p, v.lanes[a] = { s.lanes[a] with place := p }) :
    (l.foldl (fun s a => State.closeOpen h a s) v).placing.order =
      l.foldl (s.orderBehind h) v.placing.order := by
  induction l generalizing v with
  | nil => rfl
  | cons a rest ih =>
    obtain ⟨ha, hrest⟩ := List.nodup_cons.1 hl
    rw [List.foldl_cons, List.foldl_cons, ih hrest, State.closeOpen_order]
    · congr 1
      unfold State.orderBehind
      rw [State.openFinal_congr hstore (hlanes a List.mem_cons_self)]
    · rw [State.closeOpen_lanesOnly h a v]
      exact hstore
    · intro b hb
      obtain ⟨p, hp⟩ := hlanes b (List.mem_cons_of_mem _ hb)
      obtain ⟨q, hq⟩ := ((State.closeOpen_touches h a v).others b fun he => ha (he ▸ hb)).record
      exact ⟨q, by rw [hq, hp]⟩

theorem State.lanesSettled_placing (h : HeatRecord) (s : State) :
    (s.lanesSettled h).placing = (s.disarmPads.closeWindows h).placing := by
  have hclose : ∀ (l : List Lane) (v : State),
      (l.foldl (fun s a => State.closeRacing h a s) v).placing = v.placing := by
    intro l
    induction l with
    | nil => intro v; rfl
    | cons a rest ih =>
      intro v
      rw [List.foldl_cons, ih, State.closeRacing_does]
      rfl
  have hsettle : ∀ (l : List Lane) (v : State),
      (l.foldl (fun s a => s.settlePending h a .heatEnd) v).placing = v.placing := by
    intro l
    induction l with
    | nil => intro v; rfl
    | cons a rest ih =>
      intro v
      rw [List.foldl_cons, ih]
      simp
  unfold State.lanesSettled
  exact (hsettle _ _).trans (hclose _ _)

theorem State.lanesSettled_order (h : HeatRecord) (s : State) :
    (s.lanesSettled h).placing.order = allLanes.foldl (s.orderBehind h) s.placing.order := by
  rw [State.lanesSettled_placing]
  exact State.foldl_order (s := s) (v := s.disarmPads) allLanes (by decide) rfl fun a _ => ⟨_, rfl⟩

theorem State.Touches.follow {lane : Lane} {n : Nat} {s u : State} (h : State.Touches lane n s u) :
    s.placesFollow → u.placesFollow := by
  by_cases hl : (0 : Lane) = lane
  · exact (h.others 1 fun hc => absurd (hc.trans hl.symm) (by decide)).follow
  · exact (h.others 0 hl).follow

/-- The places follow the order through the end of a heat. -/
theorem State.lanesSettled_follow {h : HeatRecord} {s : State} (hs : s.legsAlone) (hf : s.placesFollow) :
    (s.lanesSettled h).placesFollow := by
  obtain ⟨a, c, e, i, j, k, l, -, h1, h2, h3, hone, h4⟩ := State.lanesSettled_lane (h := h) hs 0
  exact h4.follow ((State.settlePending_touches hone).follow (h3.follow ((State.closeRacing_touches h 0 c).follow
    (h2.follow ((State.closeOpen_touches h 0 a).follow (h1.follow hf))))))

/-! ### The lanes of a heat that has ended -/

/-- The official time of a derived window is the length's, whatever its place. -/
theorem State.deriveWindow_congr {h : HeatRecord} {s v : State} {lane : Lane} {w : FinishWindow}
    (hstore : v.store = s.store) : v.deriveWindow h lane w = s.deriveWindow h lane w := by
  unfold State.deriveWindow State.deadWallA
  rw [hstore]

theorem State.KeepsLane.store {lane : Lane} {n : Nat} {s u : State} (h : State.KeepsLane lane n s u) :
    u.store = s.store := by
  rw [h.frame]

/-- Of a lane without a window nothing is derived. -/
theorem State.KeepsLane.closeOpen_none {h : HeatRecord} {lane : Lane} {n : Nat} {s a : State}
    (hk : State.KeepsLane lane n s a) (hw : (s.lanes[lane]).window = none) : State.closeOpen h lane a = a := by
  obtain ⟨p, hp⟩ := hk.record
  unfold State.closeOpen State.closeWindow
  dsimp only
  rw [hp]
  dsimp only
  rw [hw]
  exact ite_self _

/-- A FINAL window with an official time, at the end of a heat. -/
theorem State.KeepsLane.closeOpen_final {h : HeatRecord} {lane : Lane} {n : Nat} {s a : State} {w : FinishWindow}
    {official : Nat} (hk : State.KeepsLane lane n s a) (hw : (s.lanes[lane]).window = some w)
    (hin : h.enters lane = true) (hn : (s.lanes[lane]).expected = h.lengths)
    (hd : (s.deriveWindow h lane w).official = some official) :
    (∃ p, (State.closeOpen h lane a).lanes[lane] = { s.finishedLane h lane w official with place := p }) ∧
      State.Says (a.finishNotices h lane w official .heatEnd) 2 a (State.closeOpen h lane a) := by
  obtain ⟨p, hp⟩ := hk.record
  have hderive := State.deriveWindow_congr (h := h) (lane := lane) (w := w) hk.store
  have hclose : State.closeOpen h lane a =
      (a.finishes h lane w official).tell (a.finishNotices h lane w official .heatEnd) := by
    rw [← State.closeFinal_eq .heatEnd (by rw [hderive]; exact hd) (by rw [hp]; exact hn)]
    unfold State.closeOpen State.closeWindow
    dsimp only
    rw [if_pos hin, hp]
    dsimp only
    rw [hw, hn, lengthKind_lengths]
  have hv := a.finishes_eq h lane w official
  refine ⟨⟨placeIn (a.orderWith lane official) lane, ?_⟩, ?_⟩
  · rw [hclose, State.tell_lanes, State.finishes_lane, if_pos rfl]
    unfold State.finishedLane
    rw [hderive, hp]
  · rw [hclose]
    exact ⟨_, .refl _, a.finishNotices_length .., (State.Emits.tell _ _).behind (by rw [hv]) (by rw [hv])⟩

theorem State.KeepsLane.finishNotice_eq {h : HeatRecord} {lane : Lane} {n : Nat} {s a : State} {w : FinishWindow}
    {cause : CloseCause} (hk : State.KeepsLane lane n s.disarmPads a) :
    s.finishNotice h lane w cause = a.finishNotice h lane w cause := by
  obtain ⟨p, hp⟩ := hk.record
  unfold State.finishNotice
  rw [State.deriveWindow_congr (h := h) (lane := lane) (w := w) hk.store, hp]
  rfl

/-- A lane that finishes without a place before has its place told. -/
theorem State.KeepsLane.places_told {h : HeatRecord} {lane : Lane} {n : Nat} {s a : State} {w : FinishWindow}
    {official : Nat} (hk : State.KeepsLane lane n s.disarmPads a) (hf : s.placesFollow)
    (hp : (s.lanes[lane]).place = none) :
    placesNotices (.finish lane) a.lanes (a.finishes h lane w official).lanes (a.orderWith lane official).length =
      [.places (.finish lane) (placeChanges a.lanes (a.finishes h lane w official).lanes)
        (a.orderWith lane official).length] := by
  have hnone : ∀ k, (lane, k) ∉ s.placing.order := fun k hm => by
    have := placeIn_isSome hm
    rw [← hf lane, hp] at this
    cases this
  have hplace : (a.lanes[lane]).place = none := by
    rw [hk.follow hf lane]
    unfold placeIn
    rw [orderHundredths_eq_none (hk.unplaced hnone)]
    rfl
  refine placesNotices_changed (lane := lane) fun he => ?_
  have := a.finishes_placed h lane w official
  rw [← he, hplace] at this
  cases this

/-- A LEG_END window with an official time, at the end of a heat. -/
theorem State.KeepsLane.closeOpen_legEnd {h : HeatRecord} {lane : Lane} {n : Nat} {s a : State} {w : FinishWindow}
    {official : Nat} {before : List ExchangeRecord} {e judged : ExchangeRecord}
    (hk : State.KeepsLane lane n s a) (hw : (s.lanes[lane]).window = some w)
    (hin : h.enters lane = true) (hkind : lengthKind h (s.lanes[lane]).expected = .legEnd)
    (hd : (s.deriveWindow h lane w).official = some official) (hx : (s.lanes[lane]).exchanges = before ++ [e])
    (hb : ∀ x ∈ before, x.leg ≠ e.leg) (hleg : e.leg = (s.lanes[lane]).leg) (hv : e.verdict = .pending)
    (hj : judged = closedExchange h (s.deriveWindow h lane w).source w e) :
    (∃ p, (State.closeOpen h lane a).lanes[lane] =
      { judgedLane before judged (s.legEndLane h lane w official) with place := p }) ∧
      State.Says (.split lane (closedRecord h (s.lanes[lane]).expected w (s.deriveWindow h lane w))
          ((s.lanes[lane]).leg + 1) ::
        if reportsVerdict h.notify judged.verdict then
          [.exchange lane judged .evaluated (judgedLane before judged (s.legEndLane h lane w official)).reasons]
        else []) 2 a (State.closeOpen h lane a) := by
  obtain ⟨p, hp⟩ := hk.record
  have hderive := State.deriveWindow_congr (h := h) (lane := lane) (w := w) hk.store
  have hclose : State.closeOpen h lane a = a.closeLegEnd h lane w := by
    unfold State.closeOpen State.closeWindow
    dsimp only
    rw [if_pos hin, hp]
    dsimp only
    rw [hw, hkind]
  have hlane : judgedLane before judged (a.legEndLane h lane w official) =
      { judgedLane before judged (s.legEndLane h lane w official) with place := p } := by
    unfold State.legEndLane
    rw [hderive, hp]
    rfl
  rw [hclose, State.closeLegEnd_eq (before := before) (e := e) (official := official) (judged := judged)
    (by rw [hp]; exact hx) hb (by rw [hp]; exact hleg) hv (by rw [hderive]; exact hd) (by rw [hderive]; exact hj),
    hderive, hlane, hp]
  refine ⟨⟨p, ?_⟩, ?_⟩
  · rw [State.tell_lanes, State.putLane_self]
  · refine (State.Says.put _ lane _ a).mono ?_
    split <;> simp

/-- What the lanes of an ended heat are, from what the event has told. -/
theorem State.lanesEnded_of_told {h : HeatRecord} {s t : State} (hs : s.legsAlone)
    (hlanes : t.lanes = (s.lanesSettled h).lanes) (hplacing : t.placing = (s.lanesSettled h).placing)
    (htold : ∀ bodies, bodies.length ≤ 60 → State.Emits bodies s (s.lanesSettled h) →
      (bodies.map fun b => (⟨t.masterTime, b.withReasons t.lanes⟩ : Notice)).Sublist t.told) :
    s.LanesEnded h t := by
  have hrecord : ∀ {lane : Lane} {r : LaneRecord},
      (∃ p, (s.lanesSettled h).lanes[lane] = { settledLane (closedLane h lane r) with place := p }) →
      t.lanes[lane] = { settledLane (closedLane h lane r) with place := (t.lanes[lane]).place } := by
    rintro lane r ⟨p, hp⟩
    rw [hlanes, hp]
  have hsaid : ∀ {bodies : List NoticeBody}, State.Says bodies 60 s (s.lanesSettled h) →
      (bodies.map fun b => (⟨t.masterTime, b.withReasons t.lanes⟩ : Notice)).Sublist t.told := by
    rintro bodies ⟨bs, hb, hn, em⟩
    exact (hb.map _).trans (htold bs hn em)
  have hsettled : ∀ {lane : Lane} {r : LaneRecord} {bodies : List NoticeBody},
      State.Says (bodies ++ s.closedNotices h lane r) 60 s (s.lanesSettled h) →
      r.exchanges = (s.lanes[lane]).exchanges → s.tellsSettled h lane .heatEnd t := by
    intro lane r bodies hsays hx e he hv hn
    refine State.tells_iff_mem_told.2 ((hsaid hsays).subset ?_)
    refine List.mem_map.2 ⟨.exchange lane { e with verdict := .unjudged } .heatEnd
      { (closedLane h lane r).reasons with unjudgedExchange := true }, ?_, rfl⟩
    refine List.mem_append_right _ (List.mem_append_right _ (mem_settledNotices ?_ hv hn))
    rw [hx]
    exact he
  have hkept : ∀ lane : Lane, (s.lanes[lane]).window = none → ∀ a n, State.KeepsLane lane n s.disarmPads a →
      (∃ p, (State.closeOpen h lane a).lanes[lane] = { s.lanes[lane] with place := p }) ∧
        ∃ bodies, bodies = [] ∧ State.Says bodies 2 a (State.closeOpen h lane a) := by
    intro lane hw a n hk
    rw [hk.closeOpen_none hw]
    exact ⟨hk.record, [], rfl, (State.Says.nothing rfl rfl).mono (Nat.zero_le 2)⟩
  refine ⟨fun lane hw hst => ?_, fun lane hw hin hst => ?_, fun lane w official hw hin hn hd => ?_,
    fun lane w official before e judged hw hin hst hk hd hx hb hleg hv hj => ?_, ?_, fun hf => ?_⟩
  · obtain ⟨hr, bodies, -, hsays⟩ := State.lanesSettled_record hs (hkept lane hw)
    have hclosed : closedLane h lane s.lanes[lane] = s.lanes[lane] :=
      if_neg fun hc => hst.elim (fun hne => by rw [hne] at hc; cases hc.1) fun hne => hne hc.2
    have := hrecord hr
    rw [hclosed] at this
    exact ⟨this, hsettled hsays rfl⟩
  · obtain ⟨hr, bodies, -, hsays⟩ := State.lanesSettled_record hs (hkept lane hw)
    have hclosed : closedLane h lane s.lanes[lane] = arrivedLane { s.lanes[lane] with status := .closed } :=
      if_pos ⟨hin, hst⟩
    have := hrecord hr
    rw [hclosed] at this
    refine ⟨this, fun h0 => ?_, hsettled hsays rfl⟩
    refine State.tells_iff_mem_told.2 ((hsaid hsays).subset ?_)
    refine List.mem_map.2 ⟨.reaction [⟨lane, .absent .notOnPlatform, (s.scanner.channels[lane]).startLoad,
      (s.lanes[lane]).reasons⟩], ?_, rfl⟩
    refine List.mem_append_right _ (List.mem_append_left _ ?_)
    rw [if_pos ⟨hin, hst⟩]
    unfold State.absenceNotices
    rw [if_pos h0]
    exact List.mem_singleton_self _
  · obtain ⟨hr, bodies, ⟨rest, hbodies, hplaced⟩, hsays⟩ := State.lanesSettled_record
      (h := h) (lane := lane) (r := s.finishedLane h lane w official)
      (said := fun bodies => ∃ rest, bodies = s.finishNotice h lane w .heatEnd :: rest ∧
        (s.placesFollow → (s.lanes[lane]).place = none →
          ∃ changes count, rest = [.places (.finish lane) changes count]))
      hs (fun a n hk' => by
        obtain ⟨hr, hsays⟩ := hk'.closeOpen_final (h := h) (w := w) hw hin hn hd
        refine ⟨hr, _, ⟨_, ?_, fun hf hp =>
          ⟨_, _, hk'.places_told (h := h) (w := w) (official := official) hf hp⟩⟩, hsays⟩
        rw [hk'.finishNotice_eq]
        rfl)
    have hclosed : closedLane h lane (s.finishedLane h lane w official) = s.finishedLane h lane w official :=
      if_neg fun hc => by cases hc.2
    have := hrecord hr
    rw [hclosed] at this
    have hlist := hsaid hsays
    subst hbodies
    have hfinish : (s.finishNotice h lane w .heatEnd).withReasons t.lanes = .finish lane (s.lanes[lane]).label
        (closedRecord h h.lengths w (s.deriveWindow h lane w)) (if h.relay then 4 else 1)
        (t.lanes[lane]).reasons .heatEnd := rfl
    rw [List.cons_append, List.map_cons, hfinish] at hlist
    refine ⟨this, State.tells_iff_mem_told.2 (hlist.subset List.mem_cons_self), fun hf hp => ?_, hsettled hsays rfl⟩
    obtain ⟨changes, count, hrest⟩ := hplaced hf hp
    refine ⟨changes, count, .trans ?_ hlist⟩
    rw [hrest]
    exact (List.nil_sublist _).cons_cons _ |>.cons_cons _
  · obtain ⟨hr, bodies, hbodies, hsays⟩ := State.lanesSettled_record (h := h) (lane := lane)
      (r := judgedLane before judged (s.legEndLane h lane w official))
      (said := fun bodies => bodies = .split lane (closedRecord h (s.lanes[lane]).expected w (s.deriveWindow h lane w))
          ((s.lanes[lane]).leg + 1) ::
        if reportsVerdict h.notify judged.verdict then
          [.exchange lane judged .evaluated (judgedLane before judged (s.legEndLane h lane w official)).reasons]
        else []) hs (fun a n hk' => by
        obtain ⟨hr, hsays⟩ := hk'.closeOpen_legEnd (h := h) (w := w) hw hin hk hd hx hb hleg hv hj
        exact ⟨hr, _, rfl, hsays⟩)
    have hclosed : closedLane h lane (judgedLane before judged (s.legEndLane h lane w official)) =
        arrivedLane { judgedLane before judged (s.legEndLane h lane w official) with status := .closed } :=
      if_pos ⟨hin, hst⟩
    have := hrecord hr
    rw [hclosed] at this
    have hlist := hsaid hsays
    subst hbodies
    refine ⟨this, State.tells_iff_mem_told.2 (hlist.subset (List.mem_cons_self)), fun hrep => ?_⟩
    refine State.tells_iff_mem_told.2 (hlist.subset (List.mem_map.2 ⟨.exchange lane judged .evaluated
      (judgedLane before judged (s.legEndLane h lane w official)).reasons, ?_, rfl⟩))
    rw [if_pos hrep]
    exact List.mem_append_left _ (List.mem_cons_of_mem _ (List.mem_singleton_self _))
  · rw [hplacing]
    exact State.lanesSettled_order h s
  · intro lane
    rw [hlanes, hplacing]
    exact State.lanesSettled_follow hs hf lane

end Sys2Proof.Machine

/-!
PROOFS. RACE_TIME_LIMIT and END_HEAT: the whole of what the end of a heat leaves and tells, also when the tick's
bad window comes behind it.
-/

namespace Sys2Proof.Machine

/-! ### Every lane is done (R46) -/

/-- Every lane's status is the same. -/
structure State.SameStatus (s u : State) : Prop where
  status : ∀ l : Lane, (u.lanes[l]).status = (s.lanes[l]).status

theorem State.SameStatus.trans {s t u : State} (h : s.SameStatus t) (h' : t.SameStatus u) : s.SameStatus u :=
  ⟨fun l => (h'.status l).trans (h.status l)⟩

theorem State.SameStatus.refl (s : State) : s.SameStatus s := ⟨fun _ => rfl⟩

theorem State.SameStatus.putLane {lane : Lane} {r : LaneRecord} {s : State} (h : r.status = (s.lanes[lane]).status) :
    s.SameStatus (s.putLane lane r) := ⟨fun l => by
  by_cases hl : l = lane
  · rw [hl, State.putLane_self, h]
  · rw [State.putLane_ne hl]⟩

theorem State.SameStatus.tell (bodies : List NoticeBody) (s : State) : s.SameStatus (s.tell bodies) := ⟨fun _ => rfl⟩

theorem State.SameStatus.foldl {α : Type} {f : State → α → State} (hf : ∀ s a, State.SameStatus s (f s a))
    (l : List α) (s : State) : s.SameStatus (l.foldl f s) := by
  induction l generalizing s with
  | nil => exact .refl s
  | cons a l ih => exact (hf s a).trans (ih _)

theorem State.giveVerdict_status (h : HeatRecord) (lane : Lane) (record : ExchangeRecord) (cause : SettleCause)
    (s : State) : s.SameStatus (s.giveVerdict h lane record cause) := by
  rw [State.giveVerdict_eq]
  exact (State.SameStatus.putLane (r := verdictLane record s.lanes[lane]) rfl).trans (.tell _ _)

theorem State.settlePending_status (h : HeatRecord) (lane : Lane) (cause : SettleCause) (s : State) :
    s.SameStatus (s.settlePending h lane cause) :=
  .foldl (fun s _ => s.giveVerdict_status ..) _ s

theorem State.evaluateExchange_status (h : HeatRecord) (lane : Lane) (leg : Nat) (cause : SettleCause)
    (s : State) : s.SameStatus (s.evaluateExchange h lane leg cause) := by
  unfold State.evaluateExchange
  split
  · exact .refl s
  · split
    · exact State.giveVerdict_status ..
    · exact .refl s

theorem State.legEndClosed_status (h : HeatRecord) (lane : Lane) (leg : Nat) (source : OfficialSource)
    (padTime : Option Nat) (cause : SettleCause) (s : State) :
    s.SameStatus (s.legEndClosed h lane leg source padTime cause) := by
  unfold State.legEndClosed
  split
  · exact .refl s
  · dsimp only
    rw [State.updLane_eq]
    refine .trans ?_ (State.evaluateExchange_status ..)
    refine State.SameStatus.putLane ?_
    rfl

theorem State.closeLegEnd_status (h : HeatRecord) (lane : Lane) (w : FinishWindow) (s : State) :
    s.SameStatus (s.closeLegEnd h lane w) := by
  unfold State.closeLegEnd State.sendSplit
  dsimp only
  rw [State.updLane_eq, State.notify_eq_tell]
  refine .trans (.trans (State.SameStatus.putLane ?_) (.tell _ _)) (State.legEndClosed_status ..)
  rfl

/-- The lane still races, or its race has ended. -/
def inRace (r : LaneRecord) : Prop := r.status = .racing ∨ r.status = .finished ∨ r.status = .closed

theorem State.closeOpen_inRace {h : HeatRecord} {lane : Lane} {s : State} (hr : inRace s.lanes[lane]) :
    inRace (State.closeOpen h lane s).lanes[lane] := by
  unfold State.closeOpen State.closeWindow
  split
  · dsimp only
    split
    · exact hr
    · next w _ =>
      split
      · exact hr
      · unfold inRace
        rw [(s.closeLegEnd_status h lane w).status lane]
        exact hr
      · next hk =>
        cases hd : (s.deriveWindow h lane w).official with
        | some official =>
          rw [State.closeFinal_eq .heatEnd hd (lengthKind_final_iff.1 hk), State.tell_lanes, State.finishes_lane,
            if_pos rfl]
          exact .inr (.inl rfl)
        | none =>
          unfold State.closeFinal
          dsimp only
          rw [hd]
          dsimp only
          rw [State.updLane_eq, State.putLane_self]
          exact hr
  · exact hr

theorem arrivedLane_status (r : LaneRecord) : (arrivedLane r).status = r.status := by
  unfold arrivedLane
  split <;> rfl

theorem State.closeRacing_done {h : HeatRecord} {lane : Lane} {s : State} (hin : h.enters lane = true)
    (hr : inRace s.lanes[lane]) : ((State.closeRacing h lane s).lanes[lane]).status = .finished ∨
      ((State.closeRacing h lane s).lanes[lane]).status = .closed := by
  by_cases hst : (s.lanes[lane]).status = .racing
  · rw [State.closeRacing_eq hin hst, State.tell_lanes, State.putLane_self, arrivedLane_status]
    exact .inr rfl
  · unfold State.closeRacing
    rw [if_neg fun hc => hst hc.2]
    exact hr.resolve_left hst

/-- What is done about all lanes, as the status of one of them sees it. -/
theorem State.eachLane_status {f : Lane → State → State} (lane : Lane)
    (hf : ∀ l v, l ≠ lane → ((f l v).lanes[lane]).status = ((v : State).lanes[lane]).status) (s : State) :
    ∃ a : State, (a.lanes[lane]).status = (s.lanes[lane]).status ∧
      ((s.eachLane f).lanes[lane]).status = ((f lane a).lanes[lane]).status := by
  have hfold : ∀ (l : List Lane) (v : State), lane ∉ l →
      ((l.foldl (fun s a => f a s) v).lanes[lane]).status = (v.lanes[lane]).status := by
    intro l
    induction l with
    | nil => exact fun _ _ => rfl
    | cons a rest ih =>
      intro v hn
      rw [List.mem_cons, not_or] at hn
      rw [List.foldl_cons, ih _ hn.2, hf a v fun h => hn.1 h.symm]
  obtain ⟨before, after, hsplit, hb, ha⟩ := allLanes_split lane
  refine ⟨before.foldl (fun s a => f a s) s, hfold before s hb, ?_⟩
  unfold State.eachLane
  rw [hsplit, List.foldl_append, List.foldl_cons, hfold after _ ha]

/-- Every entered lane that raced is FINISHED or CLOSED behind the end of the heat. -/
theorem State.lanesSettled_ends {h : HeatRecord} {lane : Lane} {s : State} (hin : h.enters lane = true)
    (hst : (s.lanes[lane]).status = .racing) : ((s.lanesSettled h).lanes[lane]).status = .finished ∨
      ((s.lanesSettled h).lanes[lane]).status = .closed := by
  have hopen := State.eachLane_status (f := State.closeOpen h) lane
    (fun l v hl => by
      obtain ⟨p, hp⟩ := ((State.closeOpen_touches h l v).others lane hl.symm).record
      rw [hp]) s.disarmPads
  obtain ⟨a, ha, hopen⟩ := hopen
  have hclose := State.eachLane_status (f := State.closeRacing h) lane
    (fun l v hl => by
      obtain ⟨p, hp⟩ := ((State.closeRacing_touches h l v).others lane hl.symm).record
      rw [hp]) (s.disarmPads.closeWindows h)
  obtain ⟨c, hc, hclose⟩ := hclose
  have hsettle : State.SameStatus ((s.disarmPads.closeWindows h).closeLanes h) (s.lanesSettled h) :=
    .foldl (fun s lane => s.settlePending_status h lane .heatEnd) _ _
  rw [hsettle.status lane]
  unfold State.closeLanes
  rw [hclose]
  refine State.closeRacing_done hin ?_
  unfold inRace
  rw [hc]
  show inRace _
  unfold State.closeWindows
  unfold inRace
  rw [hopen]
  exact State.closeOpen_inRace (.inl (ha.trans hst))

/-! ### All that the end of a heat leaves and tells -/

/-- A RUNNING heat has ended for this cause between `s` and `t`. -/
structure State.HeatEnds (h : HeatRecord) (cause : HeatCause) (s t : State) : Prop where
  ended : s.EndedFrom h t
  lanes : s.legsAlone → s.LanesEnded h t
  flags : t.heat.flags = s.heat.flags
  link : s.linkKept t
  tellsEnd : t.tells ⟨t.masterTime, .heatState .judging .running cause (some (h.event, h.heat)) s.heat.flags
    none none⟩
  steps : s.tellsInSteps t

/-- What has ended, from the last of the notices that the end has made. -/
theorem State.heatEnds_of_told {h : HeatRecord} {cause : HeatCause} {s t : State} (ended : s.EndedFrom h t)
    (hlanes : t.lanes = (s.lanesSettled h).lanes) (hplacing : t.placing = (s.lanesSettled h).placing)
    (hflags : t.heat.flags = s.heat.flags) (hlink : s.linkKept t) (steps : s.tellsInSteps t)
    (htold : ∀ bodies before last, State.Emits bodies s (s.lanesSettled h) →
      bodies ++ s.endNotices h cause = before ++ last → last.length ≤ 63 →
      (last.map fun b => (⟨t.masterTime, b.withReasons t.lanes⟩ : Notice)).Sublist t.told) :
    s.HeatEnds h cause t := by
  have hend : (s.endNotices h cause).length ≤ 2 := by
    have := s.returnNotices_length
    unfold State.endNotices
    rw [List.length_cons]
    omega
  refine ⟨ended, fun hs => State.lanesEnded_of_told hs hlanes hplacing fun bodies hn em => ?_, hflags, hlink, ?_, steps⟩
  · have hlen : (bodies ++ s.endNotices h cause).length ≤ 63 := by
      rw [List.length_append]
      omega
    refine .trans ?_ (htold bodies [] _ em rfl hlen)
    exact (List.sublist_append_left _ _).map _
  · obtain ⟨bodies, -, -, em⟩ := State.lanesSettled_inSteps h s
    rw [State.tells_iff_mem_told]
    refine (htold bodies bodies _ em rfl (by omega)).subset ?_
    unfold State.endNotices
    exact List.mem_cons_self

theorem State.EndsAs.lanes {u t : State} (h : u.EndsAs t) : t.lanes = u.lanes := by rw [h.1]

theorem State.EndsAs.placing {u t : State} (h : u.EndsAs t) : t.placing = u.placing := by rw [h.1]

theorem State.EndsAs.heat {u t : State} (h : u.EndsAs t) : t.heat = u.heat := by rw [h.1]

theorem State.endedFor_lanes (s u : State) : (s.endedFor u).lanes = u.lanes := rfl

theorem State.endedFor_placing (s u : State) : (s.endedFor u).placing = u.placing := rfl

theorem State.endedFor_heat (s u : State) : (s.endedFor u).heat = { u.heat with race := .judging } := rfl

theorem State.endedFrom_of_endedFor {h : HeatRecord} {s u t : State} (hcur : s.heat.current = some h)
    (hu : s.disarmPads.LanesOnly u)
    (hdone : ∀ lane : Lane, h.enters lane = true → (s.lanes[lane]).status = .racing →
      (u.lanes[lane]).status = .finished ∨ (u.lanes[lane]).status = .closed)
    (hends : (s.endedFor u).EndsAs t) : s.EndedFrom h t :=
  State.endedFrom_of_ends hcur hu hdone hends

theorem State.endedFor_link (s u : State) : (s.endedFor u).link = s.link := rfl

theorem State.linkKept_of_endedFor {s u t : State} (h : (s.endedFor u).linkKept t) : s.linkKept t := h

theorem NoticeBody.endStep_le (b : NoticeBody) : b.endStep ≤ 7 := by
  unfold NoticeBody.endStep
  split <;> omega

/-- The timebase's notice stands behind those of all the steps. -/
theorem pairwise_timebase {bodies extra : List NoticeBody} (hb : bodies.Pairwise fun a b => a.endStep ≤ b.endStep)
    (hextra : ∀ b ∈ extra, b.endStep = 7) : (bodies ++ extra).Pairwise fun a b => a.endStep ≤ b.endStep := by
  refine List.pairwise_append.2 ⟨hb, ?_, fun a _ b hb => ?_⟩
  · exact List.pairwise_of_forall_mem_list fun a ha b hb => by rw [hextra a ha, hextra b hb]
  · rw [hextra b hb]
    exact a.endStep_le

/-- What has ended, behind its event. -/
theorem State.heatEnds_of_endsTelling {h : HeatRecord} {cause : HeatCause} {s t : State} {extra : List NoticeBody}
    (hcur : s.heat.current = some h) (hextra : extra.length ≤ 1) (hstep : ∀ b ∈ extra, b.endStep = 7)
    (he : ∀ bodies, State.Emits bodies s (s.lanesSettled h) →
      (s.endedFor (s.lanesSettled h)).EndsTelling (bodies ++ s.endNotices h cause ++ extra) t) :
    s.HeatEnds h cause t := by
  obtain ⟨bodies, hp, hb, em⟩ := State.lanesSettled_inSteps h s
  have hends := (he bodies em).ends
  have hlanes := hends.lanes.trans (State.endedFor_lanes ..)
  have hplacing := hends.placing.trans (State.endedFor_placing ..)
  have hflags : t.heat.flags = s.heat.flags := by
    have hheat : (s.lanesSettled h).heat = s.heat := by simp
    rw [hends.heat, State.endedFor_heat, hheat]
  refine State.heatEnds_of_told
    (State.endedFrom_of_endedFor hcur (State.lanesSettled_lanesOnly h s) (fun _ => State.lanesSettled_ends) hends)
    hlanes hplacing hflags (State.linkKept_of_endedFor hends.2.2) ?_ fun bodies before last em heq hlen => ?_
  · have hpair := State.endNotices_inSteps (h := h) (cause := cause) (s := s) hp fun b h => (hb b h).2
    exact (he bodies em).tellsInSteps (State.endedFor_link ..) (pairwise_timebase hpair hstep)
  · have hlast := (he bodies em).suffix before (last ++ extra) (by rw [heq, List.append_assoc])
      (by rw [List.length_append]; omega)
    rw [List.map_append, State.endedFor_lanes, ← hlanes] at hlast
    exact (List.sublist_append_left _ _).trans hlast.sublist

/-! ### A second end behind the first -/

theorem State.notices_suffix_told (s : State) : s.link.notices <:+ s.told := by
  unfold State.told
  split
  · exact List.suffix_cons ..
  · exact List.suffix_refl _

/-- An event behind another's end, with at most one notice: only the oldest of the notices can have gone. -/
theorem State.settle_told_behind {bodies : List NoticeBody} {u w : State} (hf : u.link.fresh = 0)
    (em : State.Emits bodies u w) (hb : bodies.length ≤ 1) : ∃ kept, kept.Sublist u.told ∧
      w.settle.told = kept ++ bodies.map (fun b => (Notice.mk u.masterTime b).completed w.lanes) ∧
      ∀ last, last <:+ u.told → last.length ≤ 63 → last <:+ kept := by
  obtain ⟨k, hk, hq, hs⟩ : ∃ k, (k = 0 ∨ 63 ≤ (u.link.notices.drop k).length) ∧
      w.boardSettle.sealNotices.link.notices = u.link.notices.drop k ++
        bodies.map (fun b => (Notice.mk u.masterTime b).completed w.lanes) ∧
      w.link.line = u.link.line := by
    have hlink : w.boardSettle.link = w.link := rfl
    have hlanes : w.boardSettle.lanes = w.lanes := rfl
    unfold State.sealNotices Link.freshNotices
    dsimp only
    rw [hlink, hlanes, em.2]
    rcases bodies with - | ⟨b, - | ⟨c, rest⟩⟩
    · refine ⟨0, .inl rfl, ?_, rfl⟩
      simp [hf]
    · rw [List.map_singleton, Link.noteAll_cons, Link.noteAll_nil]
      unfold Link.note Config.noticeMax
      split
      · refine ⟨0, .inl rfl, ?_, rfl⟩
        simp [hf]
      · next hge =>
        refine ⟨1, .inr ?_, ?_, rfl⟩
        · rw [List.length_drop]
          omega
        · simp [hf]
    · simp at hb
  have hold : ∀ last : List Notice, last <:+ u.told → last.length ≤ 63 → 63 ≤ (u.link.notices.drop k).length →
      last <:+ u.link.notices.drop k := fun last hl hn hk =>
    List.suffix_of_suffix_length_le hl ((List.drop_suffix k _).trans u.notices_suffix_told) (hn.trans hk)
  have htold : w.settle.told = w.eventEnd.told := State.transmit_told _
  have hqueue : w.eventEnd.link.notices = _ := hq
  have hline : w.eventEnd.link.line = u.link.line := hs
  rw [htold]
  unfold State.told at hold ⊢
  rw [hline, hqueue]
  split at hold
  · next n gap began hn =>
    refine ⟨n :: u.link.notices.drop k, (List.drop_sublist k _).cons_cons n, rfl, fun last hl hle => ?_⟩
    rcases hk with rfl | hk
    · exact hl
    · exact (hold last hl hle hk).trans (List.suffix_cons n _)
  · refine ⟨u.link.notices.drop k, List.drop_sublist k _, rfl, fun last hl hle => ?_⟩
    rcases hk with rfl | hk
    · exact hl
    · exact hold last hl hle hk

end Sys2Proof.Machine

/-!
PROOFS. What comes at or past a limit finds the part as the limit leaves it: time passes to a moment through any
earlier one.
-/

namespace Sys2Proof.Machine

/-! ### The limits on the way -/

theorem State.advance_advance {s : State} {T m : Nat} (h : T ≤ m) : (s.advance T).advance m = s.advance m := by
  unfold State.advance
  have : max (max s.clock T) m = max s.clock m := by omega
  dsimp only
  rw [this]

/-- With no heat RUNNING no race-time limit comes. -/
theorem State.raceLimitBy_of_race {s : State} (h : s.heat.race ≠ .running) (m : Nat) : s.raceLimitBy m = false := by
  unfold State.raceLimitBy State.raceLimitDeadline
  split
  · next hr _ => exact absurd hr h
  · rfl

theorem State.masterLimitBy_unlocked {s : State} (h : s.timebase.state = .unlocked) (m : Nat) :
    s.masterLimitBy m = false := by
  unfold State.masterLimitBy
  rw [h]
  rfl

theorem State.raceLimitBy_iff {s : State} {m : Nat} : s.raceLimitBy m = true ↔ ∃ d, s.raceLimitDeadline = some d ∧
    d ≤ max s.clock m ∧ d < Config.masterLimit := by
  unfold State.raceLimitBy
  rw [Option.any_eq_true]
  simp

/-- A RUNNING heat is a current heat (R28). -/
def State.runsHeat (s : State) : Prop := s.heat.race = .running → s.heat.current.isSome = true

theorem State.takeRaceLimit_race {s : State} (hs : s.runsHeat) {d : Nat} (hd : s.raceLimitDeadline = some d) :
    s.takeRaceLimit.heat.race ≠ .running := by
  have hr : s.heat.race = .running := by
    unfold State.raceLimitDeadline at hd
    split at hd
    · next h _ => exact h
    · cases hd
  obtain ⟨h, hcur⟩ := Option.isSome_iff_exists.1 (hs hr)
  unfold State.takeRaceLimit
  rw [hd]
  dsimp only
  rw [(s.advance d).overtime.settle_frame.2.2.2.2.1, State.overtime_heat,
    show (s.advance d).heat.current = some h from hcur]
  simp

theorem State.takeMasterLimit_race {s : State} (hs : s.runsHeat) : s.takeMasterLimit.heat.race ≠ .running := by
  unfold State.takeMasterLimit
  rw [s.reachLimit.settle_frame.2.2.2.2.1, State.reachLimit_heat, State.limitHeat_heat]
  show (match s.heat.race, s.heat.current with
    | .armed, _ => _ | .running, some _ => _ | _, _ => s.heat).race ≠ _
  split
  · simp
  · simp
  · next h2 =>
    intro hr
    obtain ⟨h, hcur⟩ := Option.isSome_iff_exists.1 (hs hr)
    exact h2 h hr hcur

theorem State.holdoverReturn_returned {s : State} (hr : s.armedOrRunning = false) :
    s.holdoverReturn.timebase = s.returned := by
  rw [State.holdoverReturn_eq_tell hr]
  rfl

theorem State.returned_congr {s u : State} (h : u.timebase = s.timebase) : u.returned = s.returned := by
  unfold State.returned
  rw [h]

theorem State.endHeat_timebase (h : HeatRecord) (cause : HeatCause) (s : State) :
    (s.endHeat h cause).timebase = s.returned := by
  rw [State.endHeat_eq, State.holdoverReturn_returned]
  · exact State.returned_congr (by simp [State.enterJudging, State.freezeBoard])
  · simp [State.armedOrRunning]

theorem State.disarmHeat_timebase (cause : HeatCause) (s : State) :
    (s.disarmHeat cause).timebase = s.returned := by
  unfold State.disarmHeat
  dsimp only
  rw [State.holdoverReturn_returned]
  · refine State.returned_congr ?_
    split <;> simp
  · split <;> simp [State.armedOrRunning]

theorem State.overtime_timebase (s : State) : s.overtime.timebase = s.timebase ∨ s.overtime.timebase = s.returned := by
  unfold State.overtime
  split
  · exact .inl rfl
  · exact .inr ((State.endHeat_timebase ..).trans (State.returned_congr rfl))

theorem State.stopTimebase_returned (s : State) : s.stopTimebase.returned = s.stopTimebase.timebase :=
  if_neg fun h => by cases h.1

theorem State.limitHeat_timebase (s : State) :
    s.limitHeat.timebase = s.timebase ∨ s.limitHeat.timebase = s.returned := by
  unfold State.limitHeat
  split
  · exact .inr (State.disarmHeat_timebase ..)
  · exact .inr (State.endHeat_timebase ..)
  · exact .inl rfl

theorem State.reachLimit_timebase (s : State) : s.reachLimit.timebase =
    { s.timebase with state := .unlocked, goodCount := 0, steering := false } := by
  have h : s.reachLimit.timebase = s.stopTimebase.limitHeat.timebase := by simp [State.reachLimit]
  rw [h]
  rcases s.stopTimebase.limitHeat_timebase with h | h
  · rw [h]; rfl
  · rw [h, State.stopTimebase_returned]; rfl

/-! ### One moment behind another -/

theorem State.takeMasterLimit_timebase (s : State) : s.takeMasterLimit.timebase =
    { s.timebase with state := .unlocked, goodCount := 0, steering := false } :=
  s.reachLimit.settle_frame.2.2.2.1.trans s.reachLimit_timebase

theorem State.stopTimebase_advance {s : State} {T : Nat} (h : T ≤ Config.masterLimit) :
    (s.advance T).stopTimebase = s.stopTimebase := by
  unfold State.stopTimebase State.advance
  dsimp only
  rw [show max (max s.clock T) Config.masterLimit = max s.clock Config.masterLimit by omega]

theorem State.takeMasterLimit_advance {s : State} {T : Nat} (h : T ≤ Config.masterLimit) :
    (s.advance T).takeMasterLimit = s.takeMasterLimit := by
  unfold State.takeMasterLimit State.reachLimit
  rw [State.stopTimebase_advance h]
  rfl

theorem State.raceLimitBy_advance {s : State} {T m : Nat} (h : T ≤ m) :
    (s.advance T).raceLimitBy m = s.raceLimitBy m := by
  unfold State.raceLimitBy State.advance
  dsimp only
  rw [show max (max s.clock T) m = max s.clock m by omega]
  rfl

theorem State.masterLimitBy_advance {s : State} {T m : Nat} (h : T ≤ m) :
    (s.advance T).masterLimitBy m = s.masterLimitBy m := by
  unfold State.masterLimitBy State.advance
  dsimp only
  rw [show max (max s.clock T) m = max s.clock m by omega]

theorem State.reach_of_not_race {s : State} {m : Nat} (h : s.raceLimitBy m = false) :
    s.reach m = (if s.masterLimitBy m then s.takeMasterLimit else s).advance m := by
  unfold State.reach
  rw [h]
  rfl

/-- With no race-time limit on the way. -/
theorem State.reach_reach_of_not_race {s : State} {T m : Nat} (hs : s.runsHeat) (hTm : T ≤ m)
    (hr : ∀ k, T ≤ k → k ≤ m → s.raceLimitBy k = false) : (s.reach T).reach m = s.reach m := by
  rw [State.reach_of_not_race (hr T (Nat.le_refl T) hTm), State.reach_of_not_race (hr m hTm (Nat.le_refl m))]
  by_cases hT : s.masterLimitBy T = true
  · have hm : s.masterLimitBy m = true := by
      unfold State.masterLimitBy at hT ⊢
      rw [Bool.and_eq_true, decide_eq_true_eq] at hT ⊢
      exact ⟨hT.1, by omega⟩
    rw [if_pos hT, if_pos hm]
    have hrace : (s.takeMasterLimit.advance T).heat.race ≠ .running := State.takeMasterLimit_race hs
    have hstate : (s.takeMasterLimit.advance T).timebase.state = .unlocked :=
      congrArg Timebase.state s.takeMasterLimit_timebase
    rw [State.reach_of_not_race (State.raceLimitBy_of_race hrace m), State.masterLimitBy_unlocked hstate,
      if_neg (by simp), State.advance_advance hTm]
  · rw [if_neg hT, State.reach_of_not_race (by rw [State.raceLimitBy_advance hTm]; exact hr m hTm (Nat.le_refl m)),
      State.masterLimitBy_advance hTm]
    by_cases hm : s.masterLimitBy m = true
    · have hlimit : T ≤ Config.masterLimit := by
        unfold State.masterLimitBy at hT hm
        rw [Bool.and_eq_true, decide_eq_true_eq] at hT hm
        have : ¬ Config.masterLimit ≤ max s.clock T := fun h => hT ⟨hm.1, h⟩
        omega
      rw [if_pos hm, if_pos hm, State.takeMasterLimit_advance hlimit]
    · rw [if_neg hm, if_neg hm, State.advance_advance hTm]

/-- Time passes to a moment through any earlier one. -/
theorem State.reach_reach {s : State} {T m : Nat} (hs : s.runsHeat) (hTm : T ≤ m) :
    (s.reach T).reach m = s.reach m := by
  by_cases hm : s.raceLimitBy m = true
  · obtain ⟨d, hd, hle, hlt⟩ := State.raceLimitBy_iff.1 hm
    by_cases hT : s.raceLimitBy T = true
    · have hrace := State.takeRaceLimit_race hs hd
      have hreach : ∀ k, s.raceLimitBy k = true → s.reach k = s.takeRaceLimit.reach k := fun k hk => by
        unfold State.reach
        rw [hk, State.raceLimitBy_of_race hrace]
        rfl
      rw [hreach T hT, hreach m hm]
      exact State.reach_reach_of_not_race (fun hc => absurd hc hrace) hTm fun k _ _ => State.raceLimitBy_of_race hrace k
    · have hbefore : max s.clock T < d := by
        by_contra hc
        exact hT (State.raceLimitBy_iff.2 ⟨d, hd, by omega, hlt⟩)
      have hmaster : s.masterLimitBy T = false := by
        unfold State.masterLimitBy
        rw [Bool.and_eq_false_iff, decide_eq_false_iff_not]
        right
        omega
      have htake : (s.advance T).takeRaceLimit = s.takeRaceLimit := by
        unfold State.takeRaceLimit
        rw [show (s.advance T).raceLimitDeadline = s.raceLimitDeadline from rfl, hd]
        dsimp only
        rw [State.advance_advance (by omega)]
      rw [State.reach_of_not_race (s := s) (m := T) (by simpa using hT), hmaster, if_neg (by simp)]
      unfold State.reach
      rw [State.raceLimitBy_advance hTm, hm, if_pos rfl, if_pos rfl, htake]
  · refine State.reach_reach_of_not_race hs hTm fun k _ hk => ?_
    by_contra hc
    obtain ⟨d, hd, hle, hlt⟩ := State.raceLimitBy_iff.1 ((Bool.not_eq_false _).mp hc)
    exact hm (State.raceLimitBy_iff.2 ⟨d, hd, by omega, hlt⟩)

/-! ### The window of the tick on the way -/

theorem State.watches_congr {s u : State} (h : u.timebase = s.timebase) : u.watches = s.watches := by
  unfold State.watches State.monitoring
  rw [h]

/-- What has nothing to lose without a cycle has nothing to lose behind the end of a heat. -/
theorem State.watches_returned {s u : State} (h : u.timebase = s.returned) (hw : s.watches = false) :
    u.watches = false := by
  by_cases hret : s.timebase.state = .holdover ∧ s.timebase.goodCount = 20000
  · have hsource : ¬ s.timebase.source = .external := fun hs => by
      unfold State.watches State.monitoring at hw
      simp [hret.1, hret.2, hs] at hw
    unfold State.watches State.monitoring
    rw [h, State.returned, if_pos hret]
    simp [hsource]
  · rw [State.watches_congr (h.trans (if_neg hret)), hw]

/-- The timebase of a limit on the way. -/
theorem State.takeRaceLimit_timebase (s : State) :
    s.takeRaceLimit.timebase = s.timebase ∨ s.takeRaceLimit.timebase = s.returned := by
  unfold State.takeRaceLimit
  split
  · exact .inl rfl
  · next t _ =>
    rw [(s.advance t).overtime.settle_frame.2.2.2.1]
    exact (s.advance t).overtime_timebase

theorem State.reach_timebase (m : Nat) (s : State) : (s.reach m).timebase.state = .unlocked ∨
    (s.reach m).timebase = s.timebase ∨ (s.reach m).timebase = s.returned := by
  unfold State.reach
  dsimp only
  generalize hx : (if s.raceLimitBy m then s.takeRaceLimit else s) = x
  have hrace : x.timebase = s.timebase ∨ x.timebase = s.returned := by
    rw [← hx]
    split
    · exact s.takeRaceLimit_timebase
    · exact .inl rfl
  split
  · exact .inl (congrArg Timebase.state x.takeMasterLimit_timebase)
  · exact .inr hrace

theorem State.monitoring_unlocked {s : State} (h : s.timebase.state = .unlocked) : s.monitoring = false := by
  unfold State.monitoring
  rw [h]
  simp

theorem State.watches_unlocked {s : State} (h : s.timebase.state = .unlocked) : s.watches = false := by
  unfold State.watches
  rw [State.monitoring_unlocked h]
  rfl

theorem State.reach_watches {s : State} {m : Nat} (hw : s.watches = false) : (s.reach m).watches = false := by
  rcases s.reach_timebase m with h | h | h
  · exact State.watches_unlocked h
  · rw [State.watches_congr h, hw]
  · exact State.watches_returned h hw

/-- A part that is UNLOCKED stays so. -/
theorem State.reach_unlocked {s : State} {m : Nat} (h : s.timebase.state = .unlocked) :
    (s.reach m).timebase.state = .unlocked := by
  rcases s.reach_timebase m with hx | hx | hx
  · exact hx
  · rw [hx, h]
  · rw [hx]
    unfold State.returned
    rw [if_neg (by simp [h]), h]

/-- While there is something to lose it stays so, until the part is UNLOCKED. -/
theorem State.reach_watches_or {s : State} {m : Nat} (hw : s.watches = true) :
    (s.reach m).watches = true ∨ (s.reach m).timebase.state = .unlocked := by
  rcases s.reach_timebase m with h | h | h
  · exact .inr h
  · exact .inl (by rw [State.watches_congr h, hw])
  · left
    by_cases hret : s.timebase.state = .holdover ∧ s.timebase.goodCount = 20000
    · have hm := State.watches_monitoring hw
      have hs := (State.monitoring_eq_true.mp hm).1
      unfold State.watches State.monitoring
      rw [h, State.returned, if_pos hret]
      simp [hs]
    · rw [State.watches_congr (h.trans (if_neg hret)), hw]

/-- A moment that has passed leaves the clock. -/
theorem State.reach_past {s : State} {m : Nat} (h : m ≤ s.clock) : (s.reach m).clock = s.clock := by
  rw [State.reach_clock, Nat.max_eq_left h]

theorem State.runsHeat_of_race {s : State} (h : s.heat.race ≠ .running) : s.runsHeat := fun hr => absurd hr h

theorem State.reach_runsHeat {s : State} {m : Nat} (hs : s.runsHeat) : (s.reach m).runsHeat := by
  have hrace : (if s.raceLimitBy m then s.takeRaceLimit else s).runsHeat := by
    split
    · next hr =>
      obtain ⟨d, hd, -⟩ := State.raceLimitBy_iff.1 hr
      exact State.runsHeat_of_race (State.takeRaceLimit_race hs hd)
    · exact hs
  unfold State.reach
  dsimp only
  generalize (if s.raceLimitBy m then s.takeRaceLimit else s) = x at hrace
  split
  · exact State.runsHeat_of_race (s := x.takeMasterLimit.advance m) (State.takeMasterLimit_race hrace)
  · exact hrace

theorem State.missWindow_runsHeat {s : State} (hs : s.runsHeat) : s.missWindow.runsHeat := by
  have hreach := State.reach_runsHeat (m := s.clock + 1) hs
  unfold State.missWindow State.windowEnds
  dsimp only
  split
  · split
    · rw [State.judgeWindow_bad _ (.inl (by omega))]
      unfold State.runsHeat
      rw [(State.badWindowEnd _).settle_frame.2.2.2.2.1, State.badWindowEnd_heat]
      exact hreach
    · exact hreach
  · exact hs

/-- Time passes to a moment through any earlier one, the tick's window included. -/
theorem State.pass_pass {s : State} {T m : Nat} (hs : s.runsHeat) (hTm : T ≤ m) :
    (s.pass T).pass m = s.pass m := by
  by_cases hw : s.watches = true
  · by_cases hT : s.clock < T
    · rw [State.pass_watches hw hT, State.pass_watches hw (by omega),
        State.pass_not_watches (.inl (State.reach_watches s.missWindow_watches)),
        State.reach_reach (State.missWindow_runsHeat hs) hTm]
    · by_cases hm : s.clock < m
      · rw [State.pass_not_watches (m := T) (.inr (by omega)), State.pass_watches hw hm]
        have hclock := State.reach_past (s := s) (m := T) (by omega)
        have hnext : (s.reach T).reach (s.clock + 1) = s.reach (s.clock + 1) := State.reach_reach hs (by omega)
        have hmiss : s.missWindow = if (s.reach (s.clock + 1)).monitoring then
            (State.judgeWindow 0 (s.reach (s.clock + 1))).settle else s.reach (s.clock + 1) := by
          unfold State.missWindow State.windowEnds
          rw [if_pos (State.watches_monitoring hw)]
        rcases State.reach_watches_or (m := T) hw with hu | hu
        · rw [State.pass_watches hu (by omega)]
          unfold State.missWindow State.windowEnds
          rw [if_pos (State.watches_monitoring hw), if_pos (State.watches_monitoring hu), hclock, hnext]
        · have hx : (s.reach (s.clock + 1)).timebase.state = .unlocked := by
            rw [← hnext]
            exact State.reach_unlocked hu
          rw [State.pass_not_watches (.inl (State.watches_unlocked hu)), hmiss,
            if_neg (by rw [State.monitoring_unlocked hx]; simp), State.reach_reach hs hTm,
            State.reach_reach hs (by omega)]
      · rw [State.pass_not_watches (m := T) (.inr (by omega)), State.pass_not_watches (s := s) (.inr (by omega)),
          State.pass_not_watches (.inr ?_), State.reach_reach hs hTm]
        rw [State.reach_past (by omega)]
        omega
  · rw [Bool.not_eq_true] at hw
    rw [State.pass_not_watches (m := T) (.inl hw), State.pass_not_watches (s := s) (.inl hw),
      State.pass_not_watches (.inl (State.reach_watches hw)), State.reach_reach hs hTm]

/-- What arrives at or past a moment finds the part as the passing of that moment leaves it. -/
theorem State.sameAt_pass {s : State} {T m : Nat} (hr : s.isRunning = true) (hs : s.runsHeat) (hTm : T ≤ m) :
    s.sameAt m (s.pass T) := by
  refine State.sameAt_of_pass hr ?_ (State.pass_pass hs hTm).symm
  unfold State.pass
  dsimp only
  split
  · exact s.missWindow_linesKept.trans (State.reach_linesKept ..)
  · exact s.reach_linesKept T

end Sys2Proof.Machine

/-!
PROOFS. RACE_TIME_LIMIT and END_HEAT: the two ends of a RUNNING heat that R46 names.
-/

namespace Sys2Proof.Machine

/-! ### A bad window behind the end of a heat -/

theorem State.settle_fresh (s : State) : s.settle.link.fresh = 0 := by
  have hseal : s.eventEnd.link.fresh = 0 := rfl
  unfold State.settle State.transmit
  split
  · unfold Link.begin
    dsimp only
    split <;> exact hseal
  · exact hseal

theorem State.linkKept_trans {s u t : State} (h : s.linkKept u) (h' : u.linkKept t) : s.linkKept t := by
  obtain ⟨h1, h2, h3, h4, h5⟩ := h
  obtain ⟨k1, k2, k3, k4, k5⟩ := h'
  exact ⟨k1.trans h1, k2.trans h2, k3.trans h3, k4.trans h4, k5.trans h5⟩

/-- The notice of a bad window: of a timebase that was LOCKED (R5). -/
def State.lostNotices (s : State) : List NoticeBody :=
  if s.timebase.state = .locked then [.timebase .holdover .locked s.timebase.source .referenceLost] else []

theorem State.badWindowEnd_eq_tell (s : State) : s.badWindowEnd = s.windowLost.tell s.lostNotices := by
  unfold State.lostNotices
  by_cases hl : s.timebase.state = .locked
  · rw [State.badWindowEnd_locked hl, if_pos hl, State.notify_eq_tell]
  · rw [State.badWindowEnd_not_locked hl, if_neg hl]
    rfl

/-- With no heat to flag a bad window changes the timebase only. -/
theorem State.windowLost_eq {s : State} (h : s.armedOrRunning = false) :
    s.windowLost = { s with timebase := s.windowLost.timebase } := by
  unfold State.windowLost
  rw [h]
  simp

theorem State.tellsInSteps_behind {bodies : List NoticeBody} {s u w : State} (h : s.tellsInSteps u)
    (hf : u.link.fresh = 0) (em : State.Emits bodies u w) (hb : bodies.length ≤ 1)
    (hstep : ∀ b ∈ bodies, (b.withReasons w.lanes).endStep = 7) : s.tellsInSteps w.settle := by
  intro hs
  obtain ⟨older, made, ht, hold, hp⟩ := h hs
  obtain ⟨kept, hk, hw, -⟩ := State.settle_told_behind hf em hb
  rw [ht] at hk
  obtain ⟨a, b, rfl, ha, hb⟩ := List.sublist_append_iff.1 hk
  refine ⟨a, _, by rw [hw, List.append_assoc], ha.trans hold, ?_⟩
  have hlast : ∀ n ∈ bodies.map (fun b => (Notice.mk u.masterTime b).completed w.lanes), n.body.endStep = 7 := by
    intro n hn
    obtain ⟨b, hb, rfl⟩ := List.mem_map.1 hn
    exact hstep b hb
  refine List.pairwise_append.2 ⟨hp.sublist hb, ?_, fun x _ y hy => ?_⟩
  · exact List.pairwise_of_forall_mem_list fun x hx y hy => by rw [hlast x hx, hlast y hy]
  · rw [hlast y hy]
    exact x.body.endStep_le

/-- What a change of the timebase behind the end of a heat leaves. -/
theorem State.EndedFrom.behind {h : HeatRecord} {s u t : State} {timebase : Timebase} (e : s.EndedFrom h u)
    (he : ({ u with timebase := timebase } : State).EndsAs t) : s.EndedFrom h t := by
  obtain ⟨heq, ⟨hmode, htest, hover, hhold, hfrozen⟩, -⟩ := he
  have hheat : t.heat = u.heat := by rw [heq]
  have hwall : t.wall = u.wall := by rw [heq]
  have hlanes : t.lanes = u.lanes := by rw [heq]
  have hscanner : t.scanner = u.scanner := by rw [heq]
  have hplacing : t.placing = u.placing := by rw [heq]
  have hticks : t.raceTicks = u.raceTicks := by rw [heq]; rfl
  refine ⟨?_, ?_, ?_, ?_, ?_, ?_, ?_, ?_, ?_, ?_, ?_, ?_, ?_⟩
  · rw [hheat]; exact e.race
  · rw [hheat]; exact e.record
  · rw [hheat]; exact e.marks
  · rw [hwall]; exact e.unarmed
  · rw [hwall]; exact e.wall
  · rw [hlanes]; exact e.done
  · rw [hscanner]; exact e.scanner
  · rw [hticks]; exact hfrozen.trans e.frozen
  · intro ends
    rw [hhold]
    exact e.hold ends
  · rw [hmode, htest, hover]; exact e.board
  · rw [heq]; exact e.store
  · rw [heq]; exact e.part
  · rw [hplacing]; exact e.archive

section

variable {h : HeatRecord} {cause : HeatCause} {s u : State} (hcur : s.heat.current = some h)
  (he : ∀ bodies, State.Emits bodies s (s.lanesSettled h) →
    (s.endedFor (s.lanesSettled h)).EndsTelling (bodies ++ s.endNotices h cause) u)
include hcur he

theorem State.heatEnds : s.HeatEnds h cause u :=
  State.heatEnds_of_endsTelling (extra := []) hcur (Nat.zero_le 1) (fun b hb => by cases hb) fun bodies em => by
    rw [List.append_nil]
    exact he bodies em

/-- The end of a heat with a bad window behind it. -/
theorem State.heatEnds_behind (hf : u.link.fresh = 0) :
    s.HeatEnds h cause u.badWindowEnd.settle ∧ u.windowLost.EndsAs u.badWindowEnd.settle := by
  have first := State.heatEnds hcur he
  have hrace : u.armedOrRunning = false := by
    unfold State.armedOrRunning
    rw [first.ended.race]
    rfl
  have hlost := State.windowLost_eq hrace
  have hlen : u.lostNotices.length ≤ 1 := by
    unfold State.lostNotices
    split <;> simp
  have eml : State.Emits u.lostNotices u.windowLost u.badWindowEnd := by
    rw [State.badWindowEnd_eq_tell]
    exact State.Emits.tell _ _
  have em : State.Emits u.lostNotices u u.badWindowEnd := by
    refine eml.behind ?_ ?_ <;> rw [hlost]
  have hstep : ∀ b ∈ u.lostNotices, (b.withReasons u.badWindowEnd.lanes).endStep = 7 := fun b hb => by
    unfold State.lostNotices at hb
    split at hb
    · rw [List.mem_singleton.1 hb]
      rfl
    · cases hb
  have ends : u.windowLost.EndsAs u.badWindowEnd.settle := (eml.settles (by
    rw [State.badWindowEnd_eq_tell]
    rfl)).ends
  have endsLost := ends
  rw [hlost] at endsLost
  have steps := State.tellsInSteps_behind first.steps hf em hlen hstep
  obtain ⟨kept, -, htold, hlast⟩ := State.settle_told_behind hf em hlen
  obtain ⟨some, -, -, hsome⟩ := State.lanesSettled_inSteps h s
  have hended := (he some hsome).ends
  generalize u.badWindowEnd.settle = t at *
  have hlanes : t.lanes = u.lanes := endsLost.lanes
  have hplacing : t.placing = u.placing := endsLost.placing
  have hheat : t.heat = u.heat := endsLost.heat
  have hm : t.masterTime = u.masterTime := by
    rw [endsLost.1]
    rfl
  refine ⟨State.heatEnds_of_told (first.ended.behind endsLost) ?_ ?_ ?_ ?_ steps
    fun bodies before last em' heq hn => ?_, ends⟩
  · rw [hlanes, hended.lanes, State.endedFor_lanes]
  · rw [hplacing, hended.placing, State.endedFor_placing]
  · rw [hheat, first.flags]
  · exact State.linkKept_trans first.link endsLost.2.2
  · have hsuffix := hlast _ ((he bodies em').suffix before last heq (by omega)) (by rw [List.length_map]; exact hn)
    rw [State.endedFor_lanes] at hsuffix
    rw [htold, hm, hlanes, hended.lanes, State.endedFor_lanes]
    exact hsuffix.sublist.trans (List.sublist_append_left _ _)

end

/-! ### The race-time limit -/

/-- The part at the race-time limit, its heat flagged (R46). -/
def State.inOvertime (T : Nat) (s : State) : State :=
  { s.advance T with
    heat := { (s.advance T).heat with flags := { (s.advance T).heat.flags with overtime := true } } }

theorem State.overtime_some {s : State} {h : HeatRecord} (hcur : s.heat.current = some h) : s.overtime =
    State.endHeat h .overtime
      { s with heat := { s.heat with flags := { s.heat.flags with overtime := true } } } := by
  unfold State.overtime
  split
  · next hn => rw [hcur] at hn; cases hn
  · next k hk => rw [hcur] at hk; cases hk; rfl

theorem State.takeRaceLimit_eq {s : State} {h : HeatRecord} {T : Nat} (hcur : s.heat.current = some h)
    (hd : s.raceLimitDeadline = some T) : s.takeRaceLimit = ((s.inOvertime T).endHeat h .overtime).settle := by
  unfold State.takeRaceLimit
  rw [hd]
  dsimp only
  rw [State.overtime_some (s := s.advance T) hcur]
  unfold State.inOvertime
  rfl

theorem State.raceTimeLimit_passes {s : State} {T : Nat} (hr : s.isRunning = true)
    (hd : s.raceLimitDeadline = some T) : exec .raceTimeLimit s = .next (s.pass T) := by
  show Host.Outcome.next (s.whenRunning fun s => match s.raceLimitDeadline with | none => s | some t => s.pass t) = _
  rw [State.whenRunning_running _ hr, hd]

theorem State.HeatEnds.of_inOvertime {h : HeatRecord} {T : Nat} {s t : State}
    (e : (s.inOvertime T).HeatEnds h .overtime t) : s.EndedFrom h t ∧ (s.legsAlone → s.LanesEnded h t) :=
  ⟨⟨e.ended.race, e.ended.record, e.ended.marks, e.ended.unarmed, e.ended.wall, e.ended.done, e.ended.scanner,
    e.ended.frozen, e.ended.hold, e.ended.board, e.ended.store, e.ended.part, e.ended.archive⟩, fun hs => by
    have l := e.lanes hs
    exact ⟨l.others, l.closed, l.finished, l.legEnds, l.order, l.places⟩⟩

section

variable {s : State} {h : HeatRecord} {start : Nat} (hr : s.isRunning = true) (hrace : s.heat.race = .running)
  (hcur : s.heat.current = some h) (hstart : s.heat.startMark = some start)
  (hlimit : start + 36000000 < Config.masterLimit)
include hrace hstart

theorem State.raceLimitDeadline_eq : s.raceLimitDeadline = some (start + 36000000) := by
  unfold State.raceLimitDeadline Config.raceLimit
  rw [hrace, hstart]

include hcur hlimit

/-- At its limit a RUNNING heat has ended, and no other limit is on the way. -/
theorem State.reach_raceLimit (hbefore : s.clock ≤ start + 36000000) : s.reach (start + 36000000) =
    ((s.inOvertime (start + 36000000)).endHeat h .overtime).settle := by
  have hd := State.raceLimitDeadline_eq hrace hstart
  have htake := State.takeRaceLimit_eq hcur hd
  have hby : s.raceLimitBy (start + 36000000) = true :=
    State.raceLimitBy_iff.2 ⟨_, hd, Nat.le_max_right _ _, hlimit⟩
  have hclock : s.takeRaceLimit.clock = start + 36000000 := by
    unfold State.takeRaceLimit
    rw [hd]
    simp only [State.settle_leaves _ |>.clock, State.overtime_frame, State.advance]
    omega
  unfold State.reach
  rw [if_pos hby]
  dsimp only
  rw [if_neg, State.advance_of_le (by omega), htake]
  unfold State.masterLimitBy
  rw [hclock, Nat.max_self, decide_eq_false (by omega)]
  simp

omit hcur hlimit hrace hstart in
/-- The end at the limit, with its notices. -/
theorem State.overtime_endsTelling (T : Nat) (hcur : s.heat.current = some h) : ∀ bodies,
    State.Emits bodies (s.inOvertime T) ((s.inOvertime T).lanesSettled h) →
    ((s.inOvertime T).endedFor ((s.inOvertime T).lanesSettled h)).EndsTelling
      (bodies ++ (s.inOvertime T).endNotices h .overtime) ((s.inOvertime T).endHeat h .overtime).settle := fun _ em =>
  State.settle_eventEnds
    (State.endHeat_endedFor (s := s.inOvertime T) (cause := .overtime) hcur (by decide) (s.inOvertime T)) _
    (State.endHeat_emits (s := s.inOvertime T) hcur (by decide) em)

end

theorem State.EndsAs.clock {u t : State} (h : u.EndsAs t) : t.clock = u.clock := by rw [h.1]

theorem State.EndsAs.timebase {u t : State} (h : u.EndsAs t) : t.timebase = u.timebase := by rw [h.1]

theorem State.endedFor_clock (s u : State) : (s.endedFor u).clock = u.clock := rfl

theorem State.endedFor_timebase (s u : State) : (s.endedFor u).timebase = u.returned := rfl

/-- The clock and the timebase behind the end of a heat. -/
theorem State.endedFor_lanesSettled (h : HeatRecord) (s : State) :
    (s.endedFor (s.lanesSettled h)).clock = s.clock ∧ (s.endedFor (s.lanesSettled h)).timebase = s.returned := by
  rw [State.endedFor_clock, State.endedFor_timebase]
  exact ⟨by simp, State.returned_congr (by simp)⟩

theorem State.monitoring_returned {s u : State} (h : u.timebase = s.returned) (hm : s.monitoring = true) :
    u.monitoring = true := by
  rw [State.monitoring_eq_true] at hm ⊢
  rw [h]
  unfold State.returned
  split
  · exact ⟨hm.1, by simp⟩
  · exact hm

/-- The timebase of a tick whose window is missed behind the end of a heat (R5, R6). -/
theorem State.windowLost_returned {s u : State} (h : u.timebase = s.returned) : u.windowLost.timebase =
    { s.timebase with
      state := if s.timebase.state = .locked then .holdover else s.timebase.state
      steering := s.timebase.steering && !(s.timebase.state == .locked ||
        (s.timebase.state == .holdover && s.timebase.goodCount == 20000))
      goodCount := 0, lastWindow := some false } := by
  unfold State.windowLost
  dsimp only
  rw [h]
  unfold State.returned
  by_cases hl : s.timebase.state = .locked
  · simp [hl]
  · by_cases hh : s.timebase.state = .holdover ∧ s.timebase.goodCount = 20000
    · simp [hh]
    · rw [if_neg hh, if_neg hl, if_neg hl]
      have : (s.timebase.state == .holdover && s.timebase.goodCount == 20000) = false := by
        simpa using hh
      simp [hl, this]

section

variable {s : State} {h : HeatRecord} {start : Nat} (hrace : s.heat.race = .running)
  (hcur : s.heat.current = some h) (hstart : s.heat.startMark = some start)
  (hlimit : start + 36000000 < Config.masterLimit)
include hrace hcur hstart hlimit

/-- A monitored tick that nobody has judged, at whose end the limit stands. -/
theorem State.pass_raceLimit_missed (hw : s.watches = true) (hnow : s.clock + 1 = start + 36000000) :
    s.pass (start + 36000000) =
      ((s.inOvertime (start + 36000000)).endHeat h .overtime).settle.badWindowEnd.settle := by
  have hreach := State.reach_raceLimit hrace hcur hstart hlimit (by omega)
  have he := State.overtime_endsTelling (start + 36000000) hcur
  have e := State.heatEnds (s := s.inOvertime (start + 36000000)) hcur he
  obtain ⟨bodies, -, -, em⟩ := State.lanesSettled_inSteps h (s.inOvertime (start + 36000000))
  have hends := (he bodies em).ends
  obtain ⟨hclock, htimebase⟩ := State.endedFor_lanesSettled h (s.inOvertime (start + 36000000))
  have hm := State.monitoring_returned (s := s.inOvertime (start + 36000000)) (hends.timebase.trans htimebase)
    (State.watches_monitoring hw)
  have hc := (hends.clock.trans hclock).trans (Nat.max_eq_right (by omega) : _ = start + 36000000)
  have hmiss : s.missWindow =
      ((s.inOvertime (start + 36000000)).endHeat h .overtime).settle.badWindowEnd.settle := by
    unfold State.missWindow State.windowEnds
    dsimp only
    rw [if_pos (State.watches_monitoring hw), hnow, hreach, if_pos hm, State.judgeWindow_bad _ (.inl (by omega))]
  have hrace' := e.ended.race
  rw [State.pass_watches hw (by omega), hmiss]
  generalize ((s.inOvertime (start + 36000000)).endHeat h .overtime).settle = u at *
  have hheat : u.badWindowEnd.settle.heat.race = .judging := by
    rw [u.badWindowEnd.settle_frame.2.2.2.2.1, State.badWindowEnd_heat]
    exact hrace'
  have hclock' : u.badWindowEnd.settle.clock = start + 36000000 := by
    rw [u.badWindowEnd.settle_frame.2.2.1, ← hc]
    simp
  rw [State.reach_of_not_race (State.raceLimitBy_of_race (by rw [hheat]; simp) _), if_neg,
    State.advance_of_le hclock'.ge]
  unfold State.masterLimitBy
  rw [hclock', Nat.max_self, decide_eq_false (by omega)]
  simp

end

/-- What the limit leaves, and what a bad window behind it leaves. -/
theorem State.overtime_ends {s : State} {h : HeatRecord} {T : Nat} (hcur : s.heat.current = some h)
    (hbefore : s.clock ≤ T) : ∃ u, u = ((s.inOvertime T).endHeat h .overtime).settle ∧
      (s.inOvertime T).HeatEnds h .overtime u ∧ u.clock = T ∧ u.timebase = s.returned ∧
      s.HoldoverReturns u ∧ (s.inOvertime T).HeatEnds h .overtime u.badWindowEnd.settle ∧
      u.windowLost.EndsAs u.badWindowEnd.settle := by
  have he := State.overtime_endsTelling T hcur
  obtain ⟨bodies, -, -, em⟩ := State.lanesSettled_inSteps h (s.inOvertime T)
  obtain ⟨hclock, htimebase⟩ := State.endedFor_lanesSettled h (s.inOvertime T)
  have hends := (he bodies em).ends
  have returns := (he bodies em).holdoverReturns htimebase
  obtain ⟨behind, hlost⟩ := State.heatEnds_behind (s := s.inOvertime T) hcur he (State.settle_fresh _)
  exact ⟨_, rfl, State.heatEnds (s := s.inOvertime T) hcur he,
    (hends.clock.trans hclock).trans (Nat.max_eq_right hbefore), hends.timebase.trans htimebase, returns, behind, hlost⟩

/-- Settles O9: the end of a heat, and the tick's bad window behind it. -/
theorem limitAndRequestEndTheHeat : Obligations.LimitAndRequestEndTheHeat := by
  refine ⟨fun s h start hr hrace hcur hstart hlimit hbefore hw => ?_,
    fun s u start m hr hrace hcur hstart hlimit hm hu => ?_, fun s h m tag hr hl hq hrace hcur => ?_⟩
  · have hx := State.raceTimeLimit_passes hr (State.raceLimitDeadline_eq hrace hstart)
    obtain ⟨u, hu, ends, hc, htimebase, returns, behind, hlost⟩ := State.overtime_ends hcur hbefore
    by_cases hmiss : s.watches = true ∧ s.clock < start + 36000000
    · rw [State.pass_raceLimit_missed hrace hcur hstart hlimit hmiss.1 (by have := hw hmiss.1; omega), ← hu] at hx
      obtain ⟨ended, lanes⟩ := behind.of_inOvertime
      refine ⟨_, hx, hlost.clock.trans hc, ended, fun hlegs => lanes fun lane => (hlegs lane).1, fun hno => ?_,
        fun _ _ => hlost.timebase.trans (State.windowLost_returned htimebase), behind.flags, behind.link,
        behind.tellsEnd, behind.steps⟩
      rcases hno with hno | hno
      · exact absurd (hno.symm.trans hmiss.1) (by simp)
      · omega
    · have hnot : s.watches = false ∨ start + 36000000 ≤ s.clock := by
        rw [not_and_or, Bool.not_eq_true, not_lt] at hmiss
        exact hmiss
      rw [State.pass_not_watches hnot, State.reach_raceLimit hrace hcur hstart hlimit hbefore, ← hu] at hx
      obtain ⟨ended, lanes⟩ := ends.of_inOvertime
      exact ⟨u, hx, hc, ended, fun hlegs => lanes fun lane => (hlegs lane).1, fun _ => returns,
        fun hw' hlt => absurd ⟨hw', hlt⟩ hmiss, ends.flags, ends.link, ends.tellsEnd, ends.steps⟩
  · rw [State.raceTimeLimit_passes hr (State.raceLimitDeadline_eq hrace hstart)] at hu
    injection hu with hu
    rw [← hu]
    exact State.sameAt_pass hr (fun _ => hcur) hm
  · have hh : (s.advance m).handle ⟨.endHeat, tag, []⟩ = ((s.advance m).endHeat h .endRequest).accept .empty := by
      show (s.advance m).handleEndHeat [] = _
      unfold State.handleEndHeat
      rw [if_neg (by simp), if_neg (not_not_intro (show (s.advance m).heat.race = .running from hrace)),
        show (s.advance m).heat.current = some h from hcur]
    obtain ⟨t, ht, hends, ha⟩ := State.request_eventEnds (c := .endHeat m tag []) rfl hr hl hq hh
      (State.endHeat_endedFor (s := s.advance m) (cause := .endRequest) hcur (by decide) (s.advance m))
    have he : ∀ bodies, State.Emits bodies (s.advance m) ((s.advance m).lanesSettled h) →
        ((s.advance m).endedFor ((s.advance m).lanesSettled h)).EndsTelling
          (bodies ++ (s.advance m).endNotices h .endRequest) t := fun _ em =>
      hends _ (State.endHeat_emits (s := s.advance m) hcur (by decide) em)
    have e := State.heatEnds (s := s.advance m) hcur he
    obtain ⟨bodies, -, -, em⟩ := State.lanesSettled_inSteps h (s.advance m)
    obtain ⟨hclock, htimebase⟩ := State.endedFor_lanesSettled h (s.advance m)
    refine ⟨t, ht, ?_, e.ended.of_advance, fun hlegs => ?_, ?_, e.flags, e.link, ha, e.tellsEnd, e.steps⟩
    · exact (he bodies em).ends.clock.trans hclock
    · have l := e.lanes fun lane => (hlegs lane).1
      exact ⟨l.others, l.closed, l.finished, l.legEnds, l.order, l.places⟩
    · exact (he bodies em).holdoverReturns htimebase

end Sys2Proof.Machine

/-!
PROOFS. MASTER_TIME_LIMIT: the timebase is UNLOCKED, and what depends on it ends.
-/

namespace Sys2Proof.Machine

/-! ### The limit comes -/

theorem State.masterTimeLimit_passes {s : State} (hr : s.isRunning = true) (hu : s.timebase.state ≠ .unlocked) :
    exec .masterTimeLimit s = .next (s.pass Config.masterLimit) := by
  show Host.Outcome.next (s.whenRunning fun s =>
    if s.timebase.state = .unlocked then s else s.pass Config.masterLimit) = _
  rw [State.whenRunning_running _ hr, if_neg hu]

/-- The limit of master time, with no race-time limit and no unjudged window on the way. -/
theorem State.masterTimeLimit_does {s : State} (hr : s.isRunning = true) (hu : s.timebase.state ≠ .unlocked)
    (hs : s.runsHeat) (hrace : s.raceLimitBy Config.masterLimit = false)
    (hw : s.watches = true → Config.masterLimit ≤ s.clock + 1) :
    exec .masterTimeLimit s = .next s.takeMasterLimit := by
  have hclock : s.takeMasterLimit.clock = max s.clock Config.masterLimit :=
    (State.settle_leaves _).clock.trans (State.reachLimit_makes s).1
  have hreach : s.reach Config.masterLimit = s.takeMasterLimit := by
    rw [State.reach_of_not_race hrace, if_pos, State.advance_of_le (by omega)]
    unfold State.masterLimitBy
    rw [Bool.and_eq_true, decide_eq_true_eq]
    exact ⟨by simpa using hu, Nat.le_max_right _ _⟩
  rw [State.masterTimeLimit_passes hr hu]
  by_cases hmiss : s.watches = true ∧ s.clock < Config.masterLimit
  · have hnow : s.clock + 1 = Config.masterLimit := by
      have := hw hmiss.1
      omega
    have hstate : s.takeMasterLimit.timebase.state = .unlocked :=
      congrArg Timebase.state s.takeMasterLimit_timebase
    have hwindow : s.missWindow = s.takeMasterLimit := by
      unfold State.missWindow State.windowEnds
      dsimp only
      rw [if_pos (State.watches_monitoring hmiss.1), hnow, hreach, if_neg]
      rw [State.monitoring_unlocked hstate]
      simp
    rw [State.pass_watches hmiss.1 hmiss.2, hwindow,
      State.reach_of_not_race (State.raceLimitBy_of_race (State.takeMasterLimit_race hs) _),
      State.masterLimitBy_unlocked hstate, if_neg (by simp), State.advance_of_le (by omega)]
  · rw [State.pass_not_watches, hreach]
    rw [not_and_or, Bool.not_eq_true, not_lt] at hmiss
    exact hmiss

/-! ### What the limit ends (R8) -/

/-- The notice of the limit. -/
def State.limitNotice (s : State) : NoticeBody :=
  .timebase .unlocked s.timebase.state s.timebase.source .limitReached

/-- The part behind the limit, but for the limit's own notice. -/
def State.limited (s : State) : State := (s.stopTimebase.limitHeat.abandonLeveling).endProbe false

theorem State.limited_timebase (s : State) : s.limited.timebase =
    { s.timebase with state := .unlocked, goodCount := 0, steering := false } := by
  rw [← s.reachLimit_timebase]
  simp [State.limited, State.reachLimit]

theorem State.reachLimit_eq (s : State) : s.reachLimit = s.limited.notify s.limitNotice := by
  show State.notify (.timebase s.limited.timebase.state s.timebase.state s.limited.timebase.source .limitReached)
    s.limited = _
  rw [s.limited_timebase]
  rfl

/-- The notice of a leveling that is abandoned. -/
def State.abandonNotices (s : State) : List NoticeBody :=
  match s.wall.level with
  | .measuring _ _ _ => [.levelDone false s.wall.results]
  | _ => []

theorem State.abandonNotices_length (s : State) : s.abandonNotices.length ≤ 1 := by
  unfold State.abandonNotices
  split <;> simp

theorem State.abandonLeveling_idle {s : State} (h : ∀ pad step rest, s.wall.level ≠ .measuring pad step rest) :
    s.abandonLeveling = s := by
  unfold State.abandonLeveling
  split
  · next hl => exact absurd hl (h _ _ _)
  · rfl

theorem State.abandonLeveling_measuring {s : State} {pad : PadIx} {step : LevelStep} {rest : List PadIx}
    (h : s.wall.level = .measuring pad step rest) : s.abandonLeveling =
      State.notify (.levelDone false s.wall.results)
        { s with wall := { s.wall with level := .idle, results := [] } } := by
  unfold State.abandonLeveling
  rw [h]

theorem State.abandonLeveling_emits (s : State) : State.Emits s.abandonNotices s s.abandonLeveling := by
  unfold State.abandonNotices
  split
  · next h =>
    rw [State.abandonLeveling_measuring h]
    exact (State.Emits.notify _ _).behind rfl rfl
  · next h =>
    rw [State.abandonLeveling_idle h]
    exact .nothing rfl rfl

/-- No measurement goes on. -/
theorem State.abandonLeveling_level (s : State) (pad : PadIx) (step : LevelStep) (rest : List PadIx) :
    s.abandonLeveling.wall.level ≠ .measuring pad step rest := by
  unfold State.abandonLeveling
  split
  · simp
  · next h => exact h pad step rest

theorem State.endProbe_emits (complete : Bool) (s : State) : State.Emits [] s (s.endProbe complete) := by
  cases hp : s.scanner.probe with
  | none =>
    unfold State.endProbe
    rw [hp]
    exact .nothing rfl rfl
  | some tag =>
    rw [State.endProbe_eq complete hp]
    exact ((State.Emits.nothing rfl rfl).pushReply _).then rfl rfl

theorem State.endProbe_idle {s : State} (complete : Bool) (h : s.scanner.probe = none) : s.endProbe complete = s := by
  unfold State.endProbe
  rw [h]

theorem State.endProbe_ends (complete : Bool) (s : State) : (s.endProbe complete).scanner.probe = none := by
  cases hp : s.scanner.probe with
  | none => rw [State.endProbe_idle complete hp, hp]
  | some tag =>
    rw [State.endProbe_eq complete hp]
    rfl

/-- What the limit tells: of the heat, of the leveling, and of itself. -/
theorem State.reachLimit_emits {s : State} {bodies : List NoticeBody}
    (em : State.Emits bodies s.stopTimebase s.stopTimebase.limitHeat) :
    State.Emits (bodies ++ s.stopTimebase.limitHeat.abandonNotices ++ [s.limitNotice]) s.stopTimebase s.reachLimit := by
  rw [State.reachLimit_eq]
  have := ((em.trans (State.abandonLeveling_emits _)).trans (State.endProbe_emits false _)).trans
    (State.Emits.notify s.limitNotice s.limited)
  rwa [List.append_nil] at this

theorem State.stopTimebase_masterTime (s : State) : s.stopTimebase.masterTime = Config.masterLimit :=
  Nat.min_eq_right (Nat.le_max_right _ _)

/-! ### The heat that the limit finds -/

/-- With neither an ARMED nor a RUNNING heat the limit ends none. -/
theorem State.limitHeat_idle {s : State} (h : s.armedOrRunning = false) : s.limitHeat = s := by
  unfold State.armedOrRunning at h
  unfold State.limitHeat
  split
  · next hr => rw [hr] at h; cases h
  · next hr _ => rw [hr] at h; cases h
  · rfl

theorem State.limitHeat_armed {s : State} (h : s.heat.race = .armed) : s.limitHeat = s.disarmHeat .timebaseLimit := by
  unfold State.limitHeat
  split
  · rfl
  · next hr _ => rw [h] at hr; cases hr
  · next hn _ => exact absurd h hn

theorem State.limitHeat_running {s : State} {h : HeatRecord} (hr : s.heat.race = .running)
    (hcur : s.heat.current = some h) : s.limitHeat = s.endHeat h .timebaseLimit := by
  unfold State.limitHeat
  split
  · next ha => rw [hr] at ha; cases ha
  · next k _ hk => rw [hcur] at hk; cases hk; rfl
  · next hn => exact absurd hcur (hn h hr)

/-- The race state behind the limit, and the heat records (R8). -/
theorem State.limitHeat_race {s : State} (hs : s.runsHeat) : s.limitHeat.heat.race =
    (match s.heat.race with
      | .armed => .loaded
      | .running => .judging
      | r => r) ∧
    s.limitHeat.heat.current = s.heat.current ∧ s.limitHeat.heat.queue = s.heat.queue := by
  by_cases hr : s.heat.race = .running
  · obtain ⟨h, hcur⟩ := Option.isSome_iff_exists.1 (hs hr)
    rw [State.limitHeat_running hr hcur, State.endHeat_heat, hr]
    exact ⟨rfl, rfl, rfl⟩
  · by_cases ha : s.heat.race = .armed
    · rw [State.limitHeat_armed ha, State.disarmHeat_heat, ha]
      exact ⟨rfl, rfl, rfl⟩
    · have hno : s.armedOrRunning = false := by
        unfold State.armedOrRunning
        cases h : s.heat.race <;> first | rfl | exact absurd h hr | exact absurd h ha
      rw [State.limitHeat_idle hno]
      refine ⟨?_, rfl, rfl⟩
      cases h : s.heat.race <;> first | rfl | exact absurd h hr | exact absurd h ha

theorem State.HeatEnds.of_stopTimebase {h : HeatRecord} {s t : State}
    (e : s.stopTimebase.HeatEnds h .timebaseLimit t) : s.EndedFrom h t ∧ (s.legsAlone → s.LanesEnded h t) :=
  ⟨⟨e.ended.race, e.ended.record, e.ended.marks, e.ended.unarmed, e.ended.wall, e.ended.done, e.ended.scanner,
    e.ended.frozen, e.ended.hold, e.ended.board, e.ended.store, e.ended.part, e.ended.archive⟩, fun hs => by
    have l := e.lanes hs
    exact ⟨l.others, l.closed, l.finished, l.legEnds, l.order, l.places⟩⟩

/-- A RUNNING heat at the limit ends as END_HEAT ends it (R8, R46). -/
theorem State.limit_ends {s : State} {h : HeatRecord} (hr : s.heat.race = .running) (hcur : s.heat.current = some h)
    (hl : ∀ pad step rest, s.wall.level ≠ .measuring pad step rest) :
    s.stopTimebase.HeatEnds h .timebaseLimit s.takeMasterLimit := by
  have hlimit : s.stopTimebase.limitHeat = s.stopTimebase.endHeat h .timebaseLimit :=
    State.limitHeat_running (s := s.stopTimebase) hr hcur
  have hlevel : ∀ pad step rest,
      (s.stopTimebase.endHeat h .timebaseLimit).wall.level ≠ .measuring pad step rest := by
    intro pad step rest
    have : (s.stopTimebase.endHeat h .timebaseLimit).wall.level = s.wall.level := by
      simp [State.endHeat_eq, State.enterJudging, State.freezeBoard]
    rw [this]
    exact hl pad step rest
  have hprobe : (s.stopTimebase.endHeat h .timebaseLimit).scanner.probe = none := by
    simp [State.endHeat_eq, State.enterJudging, State.freezeBoard]
  have hlimited : s.limited = s.stopTimebase.endHeat h .timebaseLimit := by
    unfold State.limited
    rw [hlimit, State.abandonLeveling_idle hlevel, State.endProbe_idle false hprobe]
  refine State.heatEnds_of_endsTelling (s := s.stopTimebase) (extra := [s.limitNotice]) hcur (Nat.le_refl 1)
    (fun b hb => by rw [List.mem_singleton.1 hb]; rfl) fun bodies em => ?_
  unfold State.takeMasterLimit
  rw [State.reachLimit_eq, hlimited]
  refine State.Emits.settles ?_ ?_
  · exact (State.endHeat_emits (s := s.stopTimebase) hcur (by decide) em).trans (State.Emits.notify _ _)
  · rw [State.notify_eq, State.endHeat_endedFor (s := s.stopTimebase) (cause := .timebaseLimit) hcur (by decide)
      s.stopTimebase]

/-- What an ARMED heat is at the limit (R8, R39). -/
theorem State.limit_disarms {s : State} {h : HeatRecord} (hr : s.heat.race = .armed) (hcur : s.heat.current = some h) :
    s.limited.lanes = (s.stopTimebase.inDisarmed h).lanes ∧
      s.limited.scanner = (s.stopTimebase.inDisarmed h).scanner ∧
      State.Emits [disarmedNotice h s.heat.flags .timebaseLimit] s.stopTimebase s.stopTimebase.limitHeat := by
  obtain ⟨hv, em⟩ := State.disarmHeat_does (s := s.stopTimebase) (h := h) (cause := .timebaseLimit) hcur (by decide)
    (by decide)
  have hnotices : s.stopTimebase.returnNotices = [] := if_neg fun h => by cases h.1
  rw [← State.limitHeat_armed (s := s.stopTimebase) hr] at hv em
  rw [hnotices] at em
  refine ⟨?_, ?_, em⟩
  · simp only [State.limited, State.endProbe_frame, State.abandonLeveling_frame]
    rw [hv]
  · have hprobe : s.stopTimebase.limitHeat.abandonLeveling.scanner.probe = none := by
      simp only [State.abandonLeveling_frame]
      rw [hv]
      rfl
    unfold State.limited
    rw [State.endProbe_idle false hprobe]
    simp only [State.abandonLeveling_frame]
    rw [hv]

/-- The last notices of the limit's event. -/
theorem State.limit_told {s : State} {bodies before last : List NoticeBody}
    (em : State.Emits bodies s.stopTimebase s.stopTimebase.limitHeat)
    (hb : bodies ++ s.stopTimebase.limitHeat.abandonNotices ++ [s.limitNotice] = before ++ last)
    (hlen : last.length ≤ 64) :
    last.map (fun b => (⟨Config.masterLimit, b.withReasons s.reachLimit.lanes⟩ : Notice)) <:+
      s.takeMasterLimit.told := by
  have told := (State.settle_told (State.reachLimit_emits em)).suffix hb hlen
  rw [State.stopTimebase_masterTime] at told
  exact told

/-- What the limit leaves, whatever it finds. -/
structure State.LimitLeaves (s t : State) : Prop where
  masterTime : t.masterTime = Config.masterLimit
  timebase : t.timebase = { s.timebase with state := .unlocked, goodCount := 0, steering := false }
  heat : t.heat = s.stopTimebase.limitHeat.heat
  wall : t.wall = s.stopTimebase.limitHeat.abandonLeveling.wall
  lanes : t.lanes = s.limited.lanes
  scanner : t.scanner = s.limited.scanner
  store : t.store = s.store
  archive : s.archiveKept t
  link : s.linkKept t
  gives : ∀ r, s.limited.gives r → t.gives r

theorem State.limitLeaves (s : State) : s.LimitLeaves s.takeMasterLimit := by
  have l : s.reachLimit.Leaves s.takeMasterLimit := State.settle_leaves s.reachLimit
  have hnotify : s.reachLimit = { s.limited with link := s.reachLimit.link } := by
    rw [State.reachLimit_eq, State.notify_eq]
  refine ⟨?_, ?_, ?_, ?_, ?_, ?_, ?_, ?_, ?_, fun r hr => l.gives r ?_⟩
  · rw [l.masterTime]
    unfold State.masterTime
    rw [(State.reachLimit_makes s).1]
    exact s.stopTimebase_masterTime
  · rw [l.timebase, s.reachLimit_timebase]
  · rw [l.heat, s.reachLimit_heat]
  · rw [l.wall, hnotify]
    exact (State.endProbe_frame false _).2.2.2.2.2.1
  · rw [l.lanes, hnotify]
  · rw [l.scanner, hnotify]
  · rw [l.store]
    simp
  · exact s.reachLimit_archiveKept.trans (.of_eq l.placing)
  · obtain ⟨bodies, -, em⟩ := State.makes_iff_emits.1 s.reachLimit_makes
    exact State.linkKept_trans (s := s) (em.linkKept) l.link
  · rw [State.reachLimit_eq]
    unfold State.gives at hr ⊢
    simpa using hr

/-- Settles O6: the end of what depends on the timebase, then the limit's own notice. -/
theorem masterTimeLimitUnlocks : Obligations.MasterTimeLimitUnlocks := by
  refine ⟨fun s hr hu hs hrace hw => ?_, fun s u m hr hu hs hm hx => ?_⟩
  · have l := s.limitLeaves
    obtain ⟨bodies, -, em⟩ := State.makes_iff_emits.1 (s.stopTimebase.limitHeat_makes)
    obtain ⟨hstate, hcurrent, hqueue⟩ := State.limitHeat_race (s := s.stopTimebase) hs
    refine ⟨s.takeMasterLimit, State.masterTimeLimit_does hr hu hs hrace hw, l.masterTime, l.timebase, ?_, ?_, ?_, ?_,
      ?_, l.store, ?_, ?_, l.link, State.limit_told em rfl (by simp), fun h hr hcur hl => ?_, fun h hr hcur => ?_,
      fun pad step rest hno hl => ?_, fun tag hno hp => ?_⟩
    · rw [l.heat, hstate]
      rfl
    · rw [l.heat, hcurrent]
      rfl
    · rw [l.heat, hqueue]
      rfl
    · intro pad step rest
      rw [l.wall]
      exact State.abandonLeveling_level _ pad step rest
    · rw [l.scanner]
      exact State.endProbe_ends ..
    · exact l.archive.fields.1
    · exact l.archive.fields.2.1
    · have e := State.limit_ends hr hcur hl
      obtain ⟨ended, lanes⟩ := e.of_stopTimebase
      have htells := e.tellsEnd
      rw [l.masterTime] at htells
      exact ⟨ended, fun hlegs => lanes fun lane => (hlegs lane).1, e.flags, e.steps, htells⟩
    · obtain ⟨hlanes, hscanner, em⟩ := State.limit_disarms hr hcur
      rw [l.scanner, hscanner]
      refine ⟨?_, fun lane => ?_, rfl, rfl, fun lane => ?_, ?_⟩
      · rw [l.heat, State.limitHeat_armed (s := s.stopTimebase) hr, State.disarmHeat_heat]
        rfl
      · rw [l.lanes, hlanes]
        simp [State.inDisarmed]
      · show (s.stopTimebase.scannerOff.scanner.channels[lane]) = _
        unfold State.scannerOff
        simp only [tab_getElem, Fin.getElem_fin]
      · have hlen : ([disarmedNotice h s.heat.flags .timebaseLimit] ++ s.stopTimebase.limitHeat.abandonNotices ++
            [s.limitNotice]).length ≤ 64 := by
          have := s.stopTimebase.limitHeat.abandonNotices_length
          simp only [List.length_append, List.length_singleton]
          omega
        have htold := State.limit_told em (before := []) rfl hlen
        rw [State.tells_iff_mem_told]
        refine htold.subset ?_
        exact List.mem_cons_self
    · have hlimit : s.stopTimebase.limitHeat = s.stopTimebase := State.limitHeat_idle (s := s.stopTimebase) hno
      rw [l.wall, hlimit, State.abandonLeveling_measuring (s := s.stopTimebase) hl]
      have hem : State.Emits [] s.stopTimebase s.stopTimebase.limitHeat := by
        rw [hlimit]
        exact .nothing rfl rfl
      have hnotices : s.stopTimebase.limitHeat.abandonNotices = [.levelDone false s.wall.results] := by
        rw [hlimit]
        unfold State.abandonNotices
        rw [show s.stopTimebase.wall = s.wall from rfl, hl]
      refine ⟨by simp, ?_⟩
      exact State.limit_told hem (before := []) (by rw [hnotices]; rfl) (by simp)
    · have hlimit : s.stopTimebase.limitHeat = s.stopTimebase := State.limitHeat_idle (s := s.stopTimebase) hno
      have hscanner : s.stopTimebase.abandonLeveling.scanner = s.scanner := by simp
      have hprobe : s.limited = _ := (congrArg (fun u : State => u.abandonLeveling.endProbe false) hlimit).trans
        (State.endProbe_eq (tag := tag) false (by rw [hscanner]; exact hp))
      rw [hscanner] at hprobe
      have hgives := l.gives ⟨.deferred, some .probeBlocks, tag,
        .accepted (.probed false s.scanner.probeTest s.scanner.probeReadings)⟩ (by
          rw [hprobe]
          exact .inl (List.mem_append_right _ (List.mem_singleton_self _)))
      rw [l.scanner, hprobe]
      refine ⟨rfl, ?_, fun lane => ?_, hgives⟩
      · show s.stopTimebase.abandonLeveling.scanner.lastTest = _
        rw [hscanner]
      · unfold State.scannerOff
        simp only [tab_getElem, Fin.getElem_fin]
  · rw [State.masterTimeLimit_passes hr hu] at hx
    injection hx with hx
    rw [← hx]
    exact State.sameAt_pass hr hs hm

end Sys2Proof.Machine

/-!
PROOFS. AMEND: the lane's record, the place order behind it, the revision and the archive's linked entry.
-/

namespace Sys2Proof.Machine

/-! ### The change of an amendment (R142 to R145) -/

/-- A lane's record is another, and the place order with it: of the lanes' records only the places follow. -/
structure State.Amends (lane : Lane) (r : LaneRecord) (order : List (Lane × Nat)) (s v : State) : Prop where
  eq : v = { s with lanes := v.lanes, placing := { s.placing with order := order } }
  record : v.lanes[lane] = { r with place := (v.lanes[lane]).place }
  others : ∀ l : Lane, l ≠ lane → v.lanes[l] = { s.lanes[l] with place := (v.lanes[l]).place }
  follow : s.placesFollow → v.placesFollow

theorem State.setOrder_lane (order : List (Lane × Nat)) (s : State) (l : Lane) :
    (s.setOrder order).lanes[l] = { s.lanes[l] with place := placeIn order l } := by
  unfold State.setOrder
  simp only [tab_getElem, Fin.getElem_fin, Fin.eta]

/-- A change that leaves the place order. -/
theorem State.Amends.put {lane : Lane} {r : LaneRecord} {order : List (Lane × Nat)} {s : State}
    (hplace : r.place = (s.lanes[lane]).place) (ho : s.placing.order = order) :
    State.Amends lane r order s (s.putLane lane r) := by
  refine ⟨by rw [← ho]; rfl, by rw [State.putLane_self], fun l hl => by rw [State.putLane_ne hl], fun hf l => ?_⟩
  show ((s.putLane lane r).lanes[l]).place = placeIn s.placing.order l
  by_cases hl : l = lane
  · rw [hl, State.putLane_self, hplace]
    exact hf lane
  · rw [State.putLane_ne hl]
    exact hf l

/-- A change with which the order is set afresh. -/
theorem State.Amends.ordered (lane : Lane) (r : LaneRecord) (order : List (Lane × Nat)) (s : State) :
    State.Amends lane r order s ((s.putLane lane r).setOrder order) := by
  refine ⟨rfl, ?_, fun l hl => ?_, fun _ l => ?_⟩
  · rw [State.setOrder_lane, State.putLane_self]
  · rw [State.setOrder_lane, State.putLane_ne hl]
  · rw [State.setOrder_lane]
    rfl

theorem State.amendTime_amends (lane : Lane) (time : Nat) (s : State) :
    State.Amends lane (amendedLane .setTime time s.lanes[lane]) (s.amendedOrder .setTime lane time) s
      (s.amendTime lane time) := by
  unfold State.amendTime State.amendedOrder
  dsimp only
  split
  · exact State.Amends.put rfl rfl
  · exact State.Amends.ordered ..

theorem State.amendDq_amends (lane : Lane) (time : Nat) (s : State) :
    State.Amends lane (amendedLane .dq time s.lanes[lane]) (s.amendedOrder .dq lane time) s (s.amendDq lane) := by
  unfold State.amendDq State.amendedOrder
  dsimp only
  split
  · next hd =>
    have hsame : amendedLane .dq time s.lanes[lane] = s.lanes[lane] := by
      unfold amendedLane
      dsimp only
      rw [← hd]
    have := State.Amends.put (lane := lane) (r := s.lanes[lane]) (s := s) rfl rfl
    rwa [State.putLane_same, ← hsame] at this
  · exact State.Amends.ordered ..

theorem State.amendReinstate_amends (lane : Lane) (time : Nat) (s : State) :
    State.Amends lane (amendedLane .reinstate time s.lanes[lane]) (s.amendedOrder .reinstate lane time) s
      (s.amendReinstate lane) := by
  unfold State.amendReinstate State.amendedOrder
  dsimp only
  by_cases hd : (s.lanes[lane]).disqualified = true
  · by_cases hst : (s.lanes[lane]).status = .finished
    · rw [if_pos hd, if_pos ⟨hd, hst⟩, hst]
      cases (s.lanes[lane]).finalTime with
      | some t => exact State.Amends.ordered ..
      | none => exact State.Amends.put rfl rfl
    · rw [if_pos hd, if_neg fun hc => hst hc.2]
      split
      · next h _ => exact absurd h hst
      · exact State.Amends.put rfl rfl
  · rw [if_neg hd, if_neg fun hc => hd hc.1]
    exact State.Amends.put rfl rfl

theorem State.amendChange_amends (kind : AmendKind) (lane : Lane) (time : Nat) (s : State) :
    State.Amends lane (amendedLane kind time s.lanes[lane]) (s.amendedOrder kind lane time) s
      (s.amendChange kind lane time) := by
  cases kind with
  | setTime => exact s.amendTime_amends lane time
  | dq => exact s.amendDq_amends lane time
  | reinstate => exact s.amendReinstate_amends lane time
  | clearReview => exact State.Amends.put rfl rfl

/-! ### The revision (R146, R149) -/

/-- The newest entry of a list is the last. -/
theorem reviseNewest_append (s : State) (older : List ArchiveEntry) (newest : ArchiveEntry) :
    reviseNewest s (older ++ [newest]) = older ++ [{ newest with results := newest.results.map (reviseResult s) }] := by
  induction older with
  | nil => rfl
  | cons e rest ih =>
    cases hr : rest ++ [newest] with
    | nil => simp at hr
    | cons x xs =>
      rw [List.cons_append, hr, List.cons_append, ← ih, hr]
      rfl

/-- A revision between `v` and `w`: it is counted in OFFICIAL, and the linked entry is brought up to date. -/
structure State.Revises (lane : Lane) (v w : State) : Prop where
  eq : w = { v with
    lanes := w.lanes, placing := { v.placing with archive := w.placing.archive, check := w.placing.check } }
  record : w.lanes[lane] = { v.lanes[lane] with
    revisions := if v.heat.race = .official then min 255 ((v.lanes[lane]).revisions + 1)
      else (v.lanes[lane]).revisions }
  others : ∀ l : Lane, l ≠ lane → w.lanes[l] = v.lanes[l]
  check : v.heat.race = .official ∧ v.placing.linked = true → w.placing.check = Config.checkValue w.placing.archive
  entry : v.heat.race = .official ∧ v.placing.linked = true → ∀ older newest, v.placing.archive = older ++ [newest] →
    w.placing.archive = older ++ [{ newest with results := newest.results.map (revisedResult w.lanes) }]
  kept : ¬(v.heat.race = .official ∧ v.placing.linked = true) →
    w.placing.archive = v.placing.archive ∧ w.placing.check = v.placing.check

theorem State.revise_revises (lane : Lane) (v : State) : State.Revises lane v (v.revise lane) := by
  unfold State.revise
  by_cases ho : v.heat.race = .official
  · rw [if_pos ho]
    dsimp only
    by_cases hl : v.placing.linked = true
    · rw [if_pos (by exact hl)]
      refine ⟨?_, ?_, fun l hne => State.putLane_ne hne _ v, fun _ => rfl, fun _ older newest he => ?_,
        fun h => absurd ⟨ho, hl⟩ h⟩
      · unfold State.setArchive
        dsimp only
        rw [← hl]
        rfl
      · rw [if_pos ho]
        exact State.putLane_self lane _ v
      · show reviseNewest _ v.placing.archive = _
        rw [he, reviseNewest_append]
        rfl
    · rw [if_neg (by exact hl)]
      refine ⟨rfl, ?_, fun l hne => State.putLane_ne hne _ v, fun h => absurd h.2 hl, fun h => absurd h.2 hl,
        fun _ => ⟨rfl, rfl⟩⟩
      rw [if_pos ho]
      exact State.putLane_self lane _ v
  · rw [if_neg ho]
    refine ⟨rfl, ?_, fun l _ => rfl, fun h => absurd h.1 ho, fun h => absurd h.1 ho, fun _ => ⟨rfl, rfl⟩⟩
    rw [if_neg ho]

/-! ### The request (R141) -/

/-- The payload of an amendment: only SET_TIME carries a time. -/
def amendBytes (kind : AmendKind) (b : Byte) (time : BitVec 24) : List Byte :=
  match kind with
  | .setTime => amendPayload 0 b time
  | .dq => amendPayload 1 b 0
  | .reinstate => amendPayload 2 b 0
  | .clearReview => amendPayload 3 b 0

theorem exec_amendCommand (kind : AmendKind) (m : Nat) (tag b : Byte) (time : BitVec 24) (s : State) :
    exec (amendCommand kind m tag b time) s = .next (s.request .amend m tag (amendBytes kind b time)) := by
  cases kind <;> rfl

/-- A time's three bytes are the time. -/
theorem time_bytes (time : BitVec 24) : (time.extractLsb' 16 8).toNat * 65536 +
    (time.extractLsb' 8 8).toNat * 256 + (time.extractLsb' 0 8).toNat = time.toNat := by
  have := time.isLt
  simp only [BitVec.extractLsb'_toNat, Nat.shiftRight_eq_div_pow]
  omega

/-- The number of an amendment's kind. -/
def kindByte : AmendKind → Byte
  | .setTime => 0
  | .dq => 1
  | .reinstate => 2
  | .clearReview => 3

theorem amendKindOf_kindByte (kind : AmendKind) : amendKindOf (kindByte kind).toNat = some kind := by
  cases kind <;> rfl

/-- The time that an amendment's refusal looks at. -/
def amendTimeOf (kind : AmendKind) (time : BitVec 24) : Option Nat :=
  if kind = .setTime then some time.toNat else none

section

variable {kind : AmendKind} {b : Byte} {time : BitVec 24} {s : State}

theorem State.handleAmend_payload_refused {denial : Denial}
    (h : s.amendRefusal b.toNat (amendTimeOf kind time) = some denial) :
    s.handleAmend (amendPayload (kindByte kind) b time) = s.deny denial := by
  unfold amendTimeOf at h
  unfold State.handleAmend amendPayload
  simp only [amendKindOf_kindByte, time_bytes, h]

theorem State.handleAmend_payload_accepted (h : s.amendRefusal b.toNat (amendTimeOf kind time) = none) :
    s.handleAmend (amendPayload (kindByte kind) b time) = s.amend kind (laneOf b.toNat) time.toNat := by
  unfold amendTimeOf at h
  unfold State.handleAmend amendPayload
  simp only [amendKindOf_kindByte, time_bytes, h]

end

/-- The change of the other kinds has no time. -/
theorem State.amend_time {kind : AmendKind} (h : kind ≠ .setTime) (lane : Lane) (x y : Nat) (s : State) :
    s.amend kind lane x = s.amend kind lane y := by
  unfold State.amend State.amendChange
  cases kind with
  | setTime => exact absurd rfl h
  | dq => rfl
  | reinstate => rfl
  | clearReview => rfl

/-- A kind without a time has its payload with the time 0, which its refusal does not look at. -/
theorem amendBytes_eq (kind : AmendKind) (b : Byte) (time : BitVec 24) : ∃ sent : BitVec 24,
    amendBytes kind b time = amendPayload (kindByte kind) b sent ∧ amendTimeOf kind sent = amendTimeOf kind time ∧
      (kind = .setTime → sent = time) := by
  cases kind with
  | setTime => exact ⟨time, rfl, rfl, fun _ => rfl⟩
  | dq => exact ⟨0, rfl, rfl, fun h => by cases h⟩
  | reinstate => exact ⟨0, rfl, rfl, fun h => by cases h⟩
  | clearReview => exact ⟨0, rfl, rfl, fun h => by cases h⟩

theorem State.handleAmend_refused {kind : AmendKind} {b : Byte} {time : BitVec 24} {s : State} {denial : Denial}
    (h : s.amendRefusal b.toNat (amendTimeOf kind time) = some denial) :
    s.handleAmend (amendBytes kind b time) = s.deny denial := by
  obtain ⟨sent, hbytes, htime, -⟩ := amendBytes_eq kind b time
  rw [hbytes]
  exact State.handleAmend_payload_refused (htime ▸ h)

theorem State.handleAmend_accepted {kind : AmendKind} {b : Byte} {time : BitVec 24} {s : State}
    (h : s.amendRefusal b.toNat (amendTimeOf kind time) = none) :
    s.handleAmend (amendBytes kind b time) = s.amend kind (laneOf b.toNat) time.toNat := by
  obtain ⟨sent, hbytes, htime, hsent⟩ := amendBytes_eq kind b time
  rw [hbytes, State.handleAmend_payload_accepted (htime ▸ h)]
  by_cases hk : kind = .setTime
  · rw [hsent hk]
  · exact State.amend_time hk ..

theorem laneOf_eq {n : Nat} {lane : Lane} (h : n = lane.val) : laneOf n = lane := by
  unfold laneOf
  ext
  dsimp only
  omega

theorem amendTimeOf_inRange {kind : AmendKind} {time : BitVec 24} (h : kind = .setTime → time.toNat ≤ 359999) :
    ¬ 359999 < (amendTimeOf kind time).getD 0 := by
  unfold amendTimeOf
  split
  · next hk => exact Nat.not_lt.2 (h hk)
  · simp

theorem State.amendRefusal_none {kind : AmendKind} {lane : Lane} {n : Nat} {time : BitVec 24} {s : State}
    (hn : n = lane.val) (hst : (s.lanes[lane]).status ≠ .idle) (htime : kind = .setTime → time.toNat ≤ 359999)
    (hrace : s.heat.race = .judging ∨ (s.heat.race = .official ∧ s.placing.locked = false)) :
    s.amendRefusal n (amendTimeOf kind time) = none := by
  have hstatus : (s.lanes[n]?.map (·.status)).getD .idle = (s.lanes[lane]).status := by
    subst hn
    simp
  unfold State.amendRefusal
  rw [if_neg (by omega), if_neg (amendTimeOf_inRange htime), if_neg (by rcases hrace with h | h <;> simp [h]),
    if_neg (by rcases hrace with h | h <;> simp [h]), if_neg (by rw [hstatus]; exact hst)]

theorem State.amendRefusal_locked {kind : AmendKind} {n : Nat} {time : BitVec 24} {s : State} (hn : n ≤ 9)
    (htime : kind = .setTime → time.toNat ≤ 359999) (hrace : s.heat.race = .official)
    (hl : s.placing.locked = true) : s.amendRefusal n (amendTimeOf kind time) = some .locked := by
  unfold State.amendRefusal
  rw [if_neg (by omega), if_neg (amendTimeOf_inRange htime), if_neg (by simp [hrace]), if_pos ⟨hrace, hl⟩]

theorem amendedLane_revisions (kind : AmendKind) (time : Nat) (r : LaneRecord) :
    (amendedLane kind time r).revisions = r.revisions := by
  cases kind <;> rfl

/-- Settles O45: the change of the kind, the revision, and the places' notice. -/
theorem amendmentsInJudging : Obligations.AmendmentsInJudging := by
  refine ⟨fun s kind m tag b lane time hr hl hq hb hst htime hrace => ?_,
    fun s kind m tag b time hr hl hq hb htime hrace hlocked => ?_⟩
  · have am := (s.advance m).amendChange_amends kind lane time.toNat
    have rv := ((s.advance m).amendChange kind lane time.toNat).revise_revises lane
    have hnotify := State.notifyPlaces_eq (.amendment lane kind) s.lanes
      (((s.advance m).amendChange kind lane time.toNat).revise lane)
    have hh : (s.advance m).handle ⟨.amend, tag, amendBytes kind b time⟩ =
        (s.advance m).amend kind lane time.toNat := by
      show (s.advance m).handleAmend _ = _
      rw [State.handleAmend_accepted (State.amendRefusal_none (s := s.advance m) hb hst htime hrace), laneOf_eq hb]
    unfold State.amend at hh
    dsimp only at hh
    rw [show (s.advance m).lanes = s.lanes from rfl, hnotify, State.tell_lanes] at hh
    generalize (s.advance m).amendChange kind lane time.toNat = v at am rv hh hnotify
    generalize v.revise lane = w at rv hh hnotify
    obtain ⟨t, ht, e, ha⟩ := State.request_tells (exec_amendCommand kind m tag b time s) hr hl hq hh
      (State.Emits.tell _ _) rfl
    have hv := am.eq
    have hw := rv.eq
    have hheat : v.heat = s.heat := by rw [hv]; rfl
    have hplacing : v.placing = { s.placing with order := s.amendedOrder kind lane time.toNat } := by rw [hv]; rfl
    have hlinked : v.placing.linked = s.placing.linked := by rw [hplacing]
    have hlanes : t.lanes = w.lanes := e.ends.lanes
    have hend : t.placing = w.placing := e.ends.placing
    have horder : w.placing = { s.placing with
        order := s.amendedOrder kind lane time.toNat, archive := w.placing.archive, check := w.placing.check } := by
      rw [hw]
      dsimp only
      rw [hplacing]
    have hrecord := rv.record
    rw [am.record, hheat] at hrecord
    have hcheck := rv.check
    have hentry := rv.entry
    have hkept := rv.kept
    rw [hheat, hlinked] at hcheck hentry hkept
    rw [hplacing] at hentry hkept
    have hplace : ∀ l : Lane, (w.lanes[l]).place = (v.lanes[l]).place := fun l => by
      by_cases hl : l = lane
      · rw [hl, rv.record]
      · rw [rv.others l hl]
    rw [← hend] at horder hcheck hkept
    rw [← hend, ← hlanes] at hentry
    rw [← hlanes] at hrecord ha
    refine ⟨t, ht, ?_, ?_, fun l hl => ?_, fun hf l => ?_, hcheck, hentry, hkept, ?_, ?_, ha, fun hne => ?_⟩
    · rw [← horder]
      rw [e.ends.1, hw, hv]
      rfl
    · have hplace' : (t.lanes[lane]).place = (v.lanes[lane]).place := by rw [hlanes, hplace lane]
      rw [hplace']
      refine hrecord.trans ?_
      rw [amendedLane_revisions]
      rfl
    · rw [hlanes, hplace l, rv.others l hl]
      exact am.others l hl
    · rw [hlanes, hplace l, am.follow hf l, hplacing, horder]
    · have := e.ends.2.1
      rw [hw, hv] at this
      exact this
    · have := e.ends.2.2
      rw [hw, hv] at this
      exact this
    · rw [hlanes] at hne ⊢
      rw [hend]
      refine e.tells ((placesNotices_length ..).trans (by omega)) (.places (.amendment lane kind)
        (placeChanges s.lanes w.lanes) w.placing.order.length) ?_
      unfold placesNotices
      split
      · next hnil => exact absurd hnil hne
      · exact List.mem_singleton_self _
  · have hh : (s.advance m).handle ⟨.amend, tag, amendBytes kind b time⟩ = (s.advance m).deny .locked := by
      exact State.handleAmend_refused (State.amendRefusal_locked (s := s.advance m) hb htime hrace hlocked)
    exact State.request_answers (exec_amendCommand kind m tag b time s) hr hl hq hh

end Sys2Proof.Machine
